-- ==== Sys2Proof/Word.lean ====
section
/-! DEFINITION. The word types of the ZXC-8048: bytes, 64-bit registers, tagged 128-bit words (02 R50) and the sixteen tag
encodings of 02, Tags; and the sparse table by which State holds large arrays. -/

namespace Sys2Proof

/-- A byte of memory. -/
abbrev Byte := BitVec 8

/-- A 64-bit register or system word (01 R18, 02 R64). -/
abbrev W64 := BitVec 64

/-- The data of a word (02 R50). -/
abbrev Data := BitVec 128

/-- A tag encoding (02, Tags). -/
abbrev Tag := BitVec 4

/-- A virtual, intermediate or physical address (01 R15, 08). -/
abbrev Addr := BitVec 48

def Tag.bits : Tag := 0x0#4
def Tag.int : Tag := 0x1#4
def Tag.fix : Tag := 0x2#4
def Tag.flt : Tag := 0x3#4
def Tag.ptr : Tag := 0x4#4
def Tag.code : Tag := 0x5#4
def Tag.sealed : Tag := 0x6#4
def Tag.empty : Tag := 0x7#4
def Tag.full : Tag := 0x8#4
def Tag.uninit : Tag := 0x9#4
def Tag.poison : Tag := 0xF#4

/-- The encodings 0xA to 0xE are reserved (02, Tags). -/
def Tag.reserved (t : Tag) : Bool := 0xA#4 ≤ t && t ≤ 0xE#4

/-- A tagged word: 128 bits of data with a 4-bit tag (02 R50). -/
structure TWord where
  data : Data
  tag : Tag
deriving DecidableEq, Repr

/-- The word that initialisation leaves: data 0 with tag UNINIT (02 R48, 10 R351). -/
def TWord.fresh : TWord := { data := 0, tag := Tag.uninit }

/-- A sparse table: keys strictly rising, and no entry equal to what an unlisted key reads as. -/
abbrev Tab (α : Type) := List (Nat × α)

end Sys2Proof
end

