-- ==== Sys2Proof/Syntax.lean ====
section
/-! DEFINITION. The commands of the block: one constructor of Instr per row of spec/opcode_table.json, with the operands that the
spec gives the step. An instruction of a thread carries the fields of its encoding (03 R83 to R95, 04 R149), so that every
legality check of the spec can be stated of it. -/

namespace Sys2Proof

/-- A full-mode instruction as it is encoded (03 R83, R86, R90, R95): the head word's fields but the opcode, which is the row;
the lane modifier (meaningful when AX calls for one); one extension per operand, in its low bits. -/
structure Enc where
  cond : BitVec 4
  form : BitVec 2
  ax : Bool
  m1 : BitVec 5
  m2 : BitVec 5
  m3 : BitVec 5
  lm : BitVec 16
  x1 : BitVec 64
  x2 : BitVec 64
  x3 : BitVec 64
deriving DecidableEq, Repr

/-- A Compact instruction as it is encoded (04 R149): its fields but OP, which is the row; the extension counts when X is 1. -/
structure CEnc where
  cond : BitVec 4
  d : BitVec 8
  s : BitVec 8
  x : Bool
  sg : Bool
  sz : BitVec 2
  ext : BitVec 32
deriving DecidableEq, Repr

/-- An instruction that both modes have (05 R157, R201). -/
inductive Ins where
  | full (e : Enc)
  | compact (c : CEnc)
deriving DecidableEq, Repr

/-- Who writes a memory-mapped register: its access world and level (01 R17, 15 R490) and its global thread ID; a number above
767 is no thread (a DMA engine or the debug port). -/
structure Writer where
  secure : Bool
  lvl : BitVec 2
  tid : Nat
deriving DecidableEq, Repr

/-- A register write that reaches its register by a SYSWR of a thread or by a memory-mapped write. -/
inductive RegCmd where
  | sys (t : Nat) (i : Ins)
  | mmio (w : Writer) (inst : Nat) (v : W64)
deriving DecidableEq, Repr

/-- The DMA agents of 15 R490. -/
inductive DmaAgent where
  | rinolink (p : Nat)
  | tsn (p : Nat)
  | pcie
  | hse
  | hseCheckpoint
  | pairLink
  | latch
  | crypto (q : Nat)
deriving DecidableEq, Repr

/-- Who waits for a mesh response (07 R258 entries 2 and 6). -/
inductive Requester where
  | thread (t : Nat)
  | walk (core : Nat) (n : Nat)
  | dma (agent : DmaAgent) (pa : Addr)
deriving DecidableEq, Repr

/-- What fails in a DRAM code word that is read (10 R340): nothing, symbols 0 to 19 of it in a rank, or its address term. -/
inductive DramErr where
  | none
  | symbols (rank1 : Bool) (syms : List Nat)
  | address
deriving DecidableEq, Repr

/-- A Rinolink frame (12 R411, R412): header and payload words. -/
structure RFrame where
  hdr : Data
  payload : List Data
deriving DecidableEq, Repr

/-- A received Ethernet frame (13 R442, R446): its bytes without FCS, what the FCS said, its PCP when it has a VLAN tag, and for
a frame with a SecTAG the SCI, the AN, the PN and the ICV that it carries; its bytes are then what the tag protects. -/
structure EthFrame where
  bytes : List Byte
  fcsGood : Bool
  pcp : Option (BitVec 3)
  sectag : Option (W64 × BitVec 2 × W64 × Data)
deriving DecidableEq, Repr

/-- How a PCIe completion ends (13 R451). -/
inductive CplKind where
  | good | ur | ca | poisoned
deriving DecidableEq, Repr

/-- An inbound PCIe request (13 R452, R453): a read, or a posted write of aligned words from the one that holds its bus address, each
with the bytes written, and its requester. -/
inductive InReq where
  | read (addr : Nat) (len : Nat)
  | write (addr : Nat) (ws : List (Data × BitVec 16)) (requester : BitVec 16)
deriving DecidableEq, Repr

/-- What a drive returned for a read command (13 R462): the unit's bytes as words, or a failure. -/
inductive DriveRead where
  | data (ws : List Data)
  | unavailable
  | error
deriving DecidableEq, Repr

/-- A zone that a drive reports at its attachment (13 R464): start LBA, capacity in blocks, whether it is open, the words of its
header block (none: the zone is empty), the blocks written, the units that they hold, and the final chain hash that its blocks give. -/
structure ZoneInfo where
  zslba : BitVec 48
  cap : Nat
  isOpen : Bool
  header : List Data
  blocks : Nat
  units : Nat
  chain : List Byte
deriving DecidableEq, Repr

/-- One decision of a Rinolink port that PORTREC carries (14 R473). The results of discovery are its end with the number of
concentrators, each concentrator found, and each that did not enumerate in time (log 46). -/
inductive PortDecision where
  | absent (conc : Nat) (ep : Nat)
  | cycleStart (cls : Nat) (seq : Nat) (stamp : Nat)
  | missed (cls : Nat) (conc : Nat)
  | hold (cls : Nat) (conc : Nat)
  | sraStatus (status : BitVec 2) (final : Option Addr)
  | discovered (nconc : Nat)
  | found (conc : Nat) (serial : BitVec 32) (rtd : Nat)
  | silent (conc : Nat)
  | portState (st : BitVec 3)
deriving DecidableEq, Repr

/-- An access of the debug access port (15 R521); the flag names the world whose rights it uses. -/
inductive DebugOp where
  | stop (secure : Bool) (t : Nat)
  | start (secure : Bool) (t : Nat) (lvl : BitVec 2) (pc : Addr)
  | readSys (secure : Bool) (t : Nat) (n : Nat)
  | writeSys (secure : Bool) (t : Nat) (n : Nat) (v : W64)
  | readMem (secure : Bool) (pa : Addr)
  | writeMem (secure : Bool) (pa : Addr) (w : TWord)
deriving DecidableEq, Repr

/-- The modules of a channel (10 R335): data rate, density, width and ranks as MEM_CFG holds them. -/
structure DramCfg where
  speed : BitVec 2
  dens : BitVec 2
  width8 : Bool
  twoRanks : Bool
deriving DecidableEq, Repr

/-- What training found of the four channels (10 R335, 16 R548); none for a channel that is not populated. -/
structure DramPop where
  ch0 : Option DramCfg
  ch1 : Option DramCfg
  ch2 : Option DramCfg
  ch3 : Option DramCfg
deriving DecidableEq, Repr

/-- What wakes the package from C4 (17 R572). -/
inductive WakeCause where
  | wakePin | timer | mailbox8
deriving DecidableEq, Repr

/-- Why an instruction cannot be fetched (03 R107 step 1). -/
inductive FetchFault where
  | translation (ipa : Option Addr)
  | permission (ipa : Option Addr)
  | walkRegion (ipa : Option Addr)
  | walkPoison (ipa : Option Addr)
  | timeout
  | poison
  | mmio
deriving DecidableEq, Repr

/-- The commands of the block, one per row of spec/opcode_table.json. -/
inductive Instr where
  /-- ADD (R119): Integer lane addition with optional saturation and unsigned interpretation. -/
  | add (t : Nat) (e : Enc)
  /-- SUB (R119): Integer lane subtraction. -/
  | sub (t : Nat) (e : Enc)
  /-- ADC (R119): 128-bit addition with carry in. -/
  | adc (t : Nat) (e : Enc)
  /-- SBC (R119): 128-bit subtraction with borrow. -/
  | sbc (t : Nat) (e : Enc)
  /-- NEG (R121): Integer lane negation. -/
  | neg (t : Nat) (e : Enc)
  /-- ABS (R121): Integer lane absolute value. -/
  | abs (t : Nat) (e : Enc)
  /-- MUL (R121): Low half of the integer lane product. -/
  | mul (t : Nat) (e : Enc)
  /-- MULH (R119): High half of the integer lane product. -/
  | mulh (t : Nat) (e : Enc)
  /-- MAC (R121): Integer multiply-accumulate into operand 1. -/
  | mac (t : Nat) (e : Enc)
  /-- DIV (R122): Integer lane division on the shared divide unit. -/
  | div (t : Nat) (e : Enc)
  /-- REM (R122): Integer lane remainder on the shared divide unit. -/
  | rem (t : Nat) (e : Enc)
  /-- MIN (R119): Lesser of two integer lanes. -/
  | min (t : Nat) (e : Enc)
  /-- MAX (R119): Greater of two integer lanes. -/
  | max (t : Nat) (e : Enc)
  /-- CMP (R120): Integer compare that sets flags and writes no operand. -/
  | cmp (t : Nat) (e : Enc)
  /-- FXADD (R124): Fixed-point lane addition. -/
  | fxadd (t : Nat) (e : Enc)
  /-- FXSUB (R124): Fixed-point lane subtraction. -/
  | fxsub (t : Nat) (e : Enc)
  /-- FXNEG (R124): Fixed-point lane negation. -/
  | fxneg (t : Nat) (e : Enc)
  /-- FXABS (R124): Fixed-point lane absolute value. -/
  | fxabs (t : Nat) (e : Enc)
  /-- FXMUL (R125): Rounded fixed-point lane product. -/
  | fxmul (t : Nat) (e : Enc)
  /-- FXMAC (R125): Fixed-point multiply-accumulate with a single final saturation. -/
  | fxmac (t : Nat) (e : Enc)
  /-- FXSHL (R126): Fixed-point shift left by per-lane count. -/
  | fxshl (t : Nat) (e : Enc)
  /-- FXSHR (R126): Rounded fixed-point shift right by per-lane count. -/
  | fxshr (t : Nat) (e : Enc)
  /-- FXMIN (R124): Lesser of two fixed-point lanes. -/
  | fxmin (t : Nat) (e : Enc)
  /-- FXMAX (R124): Greater of two fixed-point lanes. -/
  | fxmax (t : Nat) (e : Enc)
  /-- FXCMP (R124): Fixed-point compare that sets flags. -/
  | fxcmp (t : Nat) (e : Enc)
  /-- FADD (R127): IEEE 754 lane addition. -/
  | fadd (t : Nat) (e : Enc)
  /-- FSUB (R127): IEEE 754 lane subtraction. -/
  | fsub (t : Nat) (e : Enc)
  /-- FMUL (R127): IEEE 754 lane multiplication. -/
  | fmul (t : Nat) (e : Enc)
  /-- FDIV (R127): IEEE 754 lane division on the divide unit. -/
  | fdiv (t : Nat) (e : Enc)
  /-- FSQRT (R127): IEEE 754 lane square root on the divide unit. -/
  | fsqrt (t : Nat) (e : Enc)
  /-- FMA (R127): Fused multiply-add with one rounding. -/
  | fma (t : Nat) (e : Enc)
  /-- FMIN (R129): IEEE 754 minimumNumber per lane. -/
  | fmin (t : Nat) (e : Enc)
  /-- FMAX (R129): IEEE 754 maximumNumber per lane. -/
  | fmax (t : Nat) (e : Enc)
  /-- FABS (R129): Clears the sign bit of each lane. -/
  | fabs (t : Nat) (e : Enc)
  /-- FNEG (R129): Inverts the sign bit of each lane. -/
  | fneg (t : Nat) (e : Enc)
  /-- FCMPEQ (R128): Lane mask of floating equality. -/
  | fcmpeq (t : Nat) (e : Enc)
  /-- FCMPLT (R128): Lane mask of floating less-than. -/
  | fcmplt (t : Nat) (e : Enc)
  /-- FCMPLE (R128): Lane mask of floating less-or-equal. -/
  | fcmple (t : Nat) (e : Enc)
  /-- FCMPUN (R128): Lane mask of unordered floating operands. -/
  | fcmpun (t : Nat) (e : Enc)
  /-- AND (R131): Bitwise AND. -/
  | and (t : Nat) (e : Enc)
  /-- OR (R131): Bitwise OR. -/
  | or (t : Nat) (e : Enc)
  /-- XOR (R131): Bitwise XOR. -/
  | xor (t : Nat) (e : Enc)
  /-- ANDN (R131): Bitwise AND with complement. -/
  | andn (t : Nat) (e : Enc)
  /-- NOT (R131): Bitwise complement. -/
  | not (t : Nat) (e : Enc)
  /-- SHL (R132): Logical shift left per lane. -/
  | shl (t : Nat) (e : Enc)
  /-- SHR (R132): Logical shift right per lane. -/
  | shr (t : Nat) (e : Enc)
  /-- SAR (R132): Arithmetic shift right per lane. -/
  | sar (t : Nat) (e : Enc)
  /-- ROL (R132): Rotate left per lane. -/
  | rol (t : Nat) (e : Enc)
  /-- ROR (R132): Rotate right per lane. -/
  | ror (t : Nat) (e : Enc)
  /-- POPC (R131): Population count per lane. -/
  | popc (t : Nat) (e : Enc)
  /-- CLZ (R131): Leading-zero count per lane. -/
  | clz (t : Nat) (e : Enc)
  /-- PADD (R134): Pointer plus offset, with V on an out-of-range result. -/
  | padd (t : Nat) (e : Enc)
  /-- PSUB (R134): Pointer minus offset. -/
  | psub (t : Nat) (e : Enc)
  /-- PALIGN (R133): Clears low pointer bits to align it. -/
  | palign (t : Nat) (e : Enc)
  /-- CVT_IF (R135): Integer to floating conversion. -/
  | cvtIf (t : Nat) (e : Enc)
  /-- CVT_FI (R135): Floating to integer conversion with saturation. -/
  | cvtFi (t : Nat) (e : Enc)
  /-- CVT_XF (R135): Fixed-point to floating conversion. -/
  | cvtXf (t : Nat) (e : Enc)
  /-- CVT_FX (R135): Floating to fixed-point conversion with saturation. -/
  | cvtFx (t : Nat) (e : Enc)
  /-- CVT_SD (R135): binary32 to binary64 conversion. -/
  | cvtSd (t : Nat) (e : Enc)
  /-- CVT_DS (R135): binary64 to binary32 conversion. -/
  | cvtDs (t : Nat) (e : Enc)
  /-- ASPTR (R133): Retags an integer as a pointer. -/
  | asptr (t : Nat) (e : Enc)
  /-- ASCODE (R133): Retags an integer as a code address. -/
  | ascode (t : Nat) (e : Enc)
  /-- ASINT_P (R133): Retags a pointer as an integer. -/
  | asintP (t : Nat) (e : Enc)
  /-- ASINT_X (R133): Retags a fixed-point word as an integer. -/
  | asintX (t : Nat) (e : Enc)
  /-- ASFIX (R133): Retags an integer as fixed-point. -/
  | asfix (t : Nat) (e : Enc)
  /-- SEAL (R136): Secure-world retag of a word as SEALED. -/
  | seal (t : Nat) (e : Enc)
  /-- UNSEAL (R136): Secure-world retag of a word as BITS. -/
  | unseal (t : Nat) (e : Enc)
  /-- MOV (R137): Tag-transparent copy of data and tag, optionally masked. -/
  | mov (t : Nat) (e : Enc)
  /-- TAGR (R139): Reads the tag of a word as an integer. -/
  | tagr (t : Nat) (e : Enc)
  /-- TAGSET (R138): Copies data with an immediate tag under level rules. -/
  | tagset (t : Nat) (e : Enc)
  /-- TTST (R138): Sets T when the operand's tag is in the immediate mask. -/
  | ttst (t : Nat) (e : Enc)
  /-- BMOV (R143): Resumable stepwise copy of a run of words with tags. -/
  | bmov (t : Nat) (e : Enc)
  /-- BFILL (R140): Resumable stepwise fill of a run of words. -/
  | bfill (t : Nat) (e : Enc)
  /-- TSCAN (R144): Resumable stepwise scan for the first tag in a mask. -/
  | tscan (t : Nat) (e : Enc)
  /-- COMPACT_ADD (R150): Compact 32-bit addition. -/
  | compactAdd (t : Nat) (c : CEnc)
  /-- COMPACT_SUB (R150): Compact 32-bit subtraction. -/
  | compactSub (t : Nat) (c : CEnc)
  /-- COMPACT_ADC (R150): Compact addition with carry. -/
  | compactAdc (t : Nat) (c : CEnc)
  /-- COMPACT_SBC (R150): Compact subtraction with borrow. -/
  | compactSbc (t : Nat) (c : CEnc)
  /-- COMPACT_AND (R150): Compact bitwise AND. -/
  | compactAnd (t : Nat) (c : CEnc)
  /-- COMPACT_OR (R150): Compact bitwise OR. -/
  | compactOr (t : Nat) (c : CEnc)
  /-- COMPACT_XOR (R150): Compact bitwise XOR. -/
  | compactXor (t : Nat) (c : CEnc)
  /-- COMPACT_SHL (R150): Compact shift left. -/
  | compactShl (t : Nat) (c : CEnc)
  /-- COMPACT_SHR (R150): Compact logical shift right. -/
  | compactShr (t : Nat) (c : CEnc)
  /-- COMPACT_SAR (R150): Compact arithmetic shift right. -/
  | compactSar (t : Nat) (c : CEnc)
  /-- COMPACT_MUL (R150): Compact low 32-bit product. -/
  | compactMul (t : Nat) (c : CEnc)
  /-- COMPACT_MULH (R150): Compact high 32-bit product. -/
  | compactMulh (t : Nat) (c : CEnc)
  /-- COMPACT_DIV (R151): Compact division. -/
  | compactDiv (t : Nat) (c : CEnc)
  /-- COMPACT_REM (R151): Compact remainder. -/
  | compactRem (t : Nat) (c : CEnc)
  /-- COMPACT_CMP (R150): Compact compare setting flags. -/
  | compactCmp (t : Nat) (c : CEnc)
  /-- COMPACT_MOV (R150): Compact move. -/
  | compactMov (t : Nat) (c : CEnc)
  /-- COMPACT_NOT (R150): Compact complement. -/
  | compactNot (t : Nat) (c : CEnc)
  /-- COMPACT_NEG (R150): Compact negation. -/
  | compactNeg (t : Nat) (c : CEnc)
  /-- COMPACT_LD (R152): Compact load of a byte, half-word or word. -/
  | compactLd (t : Nat) (c : CEnc)
  /-- COMPACT_ST (R152): Compact store that retags the containing word BITS. -/
  | compactSt (t : Nat) (c : CEnc)
  /-- BR (R159): Delayed branch to a direct or indirect target. -/
  | br (t : Nat) (i : Ins)
  /-- CALL (R165): Delayed call that pushes the return stack. -/
  | call (t : Nat) (i : Ins)
  /-- RET (R165): Delayed return that pops the return stack. -/
  | ret (t : Nat) (i : Ins)
  /-- HINGE (R188): Normal-world call to a secure service thread, suspending the caller. -/
  | hinge (t : Nat) (i : Ins)
  /-- HINGE_WINDOW_WRITE (R190): A waiting request is written into the service window once its header is EMPTY. -/
  | hingeWindowWrite (svc : Nat)
  /-- WAITD (R174): Waits for one of the selected Den words to become FULL. -/
  | waitd (t : Nat) (i : Ins)
  /-- PARK (R176): Parks the thread until a waking event, or consumes a pending wake. -/
  | park (t : Nat) (i : Ins)
  /-- PUT (R179): Atomically fills an EMPTY memory slot. -/
  | put (t : Nat) (i : Ins)
  /-- TAKE (R180): Atomically empties a FULL memory slot into a destination. -/
  | take (t : Nat) (i : Ins)
  /-- ASWP (R182): Atomic swap of a memory word. -/
  | aswp (t : Nat) (i : Ins)
  /-- ACAS (R183): Atomic compare-and-swap on data and tag. -/
  | acas (t : Nat) (i : Ins)
  /-- AADD (R182): Atomic integer add. -/
  | aadd (t : Nat) (i : Ins)
  /-- AAND (R182): Atomic AND. -/
  | aand (t : Nat) (e : Enc)
  /-- AOR (R182): Atomic OR. -/
  | aor (t : Nat) (e : Enc)
  /-- AXOR (R182): Atomic XOR. -/
  | axor (t : Nat) (e : Enc)
  /-- FENCE_SL (R185): Holds later reads until earlier stores are visible. -/
  | fenceSl (t : Nat) (i : Ins)
  /-- FENCE_IO (R186): FENCE.SL plus wait for PCIe writes to be accepted. -/
  | fenceIo (t : Nat) (i : Ins)
  /-- SYSRD (R65): Reads a system word of the thread, another thread or the core. -/
  | sysrd (t : Nat) (i : Ins)
  /-- SYSWR (R65): Writes a system word without behaviour of its own. -/
  | syswr (t : Nat) (i : Ins)
  /-- THWORLD_WRITE (R41): Monitor change of a stopped thread's world, clearing its Den and state. -/
  | thworldWrite (t : Nat) (i : Ins)
  /-- THCTL_WRITE (R73): Write of thread mode controls with CM and level restrictions. -/
  | thctlWrite (t : Nat) (i : Ins)
  /-- THLATTOL_WRITE (R77): Tolerance write that completes once the core is in a permitted power state. -/
  | thlattolWrite (t : Nat) (i : Ins)
  /-- CORECTL_WRITE (R214): Write of real-time mask and prediction disable. -/
  | corectlWrite (t : Nat) (i : Ins)
  /-- WATCHDOG_KICK (R257): WDKICK write restarts the thread watchdog count. -/
  | watchdogKick (t : Nat) (i : Ins)
  /-- WDCTL_WRITE (R257): Watchdog control write; EN = 1 restarts the count. -/
  | wdctlWrite (t : Nat) (i : Ins)
  /-- TLBI (R196): Invalidates TLB and walk-cache entries locally or globally. -/
  | tlbi (t : Nat) (e : Enc)
  /-- TLBI_REMOTE (R196): A global invalidation reaches another core and completes there. -/
  | tlbiRemote (core : Nat) (n : Nat)
  /-- SYNC_T (R197): Waits until the thread's global TLBIs complete everywhere. -/
  | syncT (t : Nat) (e : Enc)
  /-- THSTART (R199): Starts a stopped thread at a level and address. -/
  | thstart (t : Nat) (i : Ins)
  /-- THSTOP (R200): Stops a thread of the issuing core. -/
  | thstop (t : Nat) (i : Ins)
  /-- PFLUSH (R172): Discards the thread's fetch buffer. -/
  | pflush (t : Nat) (i : Ins)
  /-- PBAR (R173): Discards predicted fetch-buffer lines. -/
  | pbar (t : Nat) (i : Ins)
  /-- SVC (R244): Raises the supervisor-call trap. -/
  | svc (t : Nat) (i : Ins)
  /-- HVC (R244): Raises the hypervisor-call trap. -/
  | hvc (t : Nat) (e : Enc)
  /-- TRET (R247): Returns from a trap through bank S or U. -/
  | tret (t : Nat) (i : Ins)
  /-- HREPLY (R192): Copies reply words into the caller and resumes it. -/
  | hreply (t : Nat) (e : Enc)
  /-- MMIO_READ_ANSWER (R630): The answer to an MMIO read reaches the waiting instruction. -/
  | mmioReadAnswer (t : Nat)
  /-- MMIO_WRITE_ANSWER (R111): The answer to an MMIO write releases the thread or faults it. -/
  | mmioWriteAnswer (t : Nat)
  /-- DEN_DELIVERY (R47): Event Router writes a word FULL into a bound Den word, waking a waiting thread. -/
  | denDelivery (core : Nat)
  /-- WAKE_DELIVERY (R253): Event Router wakes a thread or sets its pending wake. -/
  | wakeDelivery (core : Nat)
  /-- DISPLACING_INTERRUPT (R223): A displacing interrupt is presented to a thread, which is abandoned and trapped. -/
  | displacingInterrupt (core : Nat)
  /-- SOFTWARE_EVENT (R255): EVR_SWSET write raises a software event source. -/
  | softwareEvent (w : Writer) (v : W64)
  /-- WATCHDOG_EXPIRY (R257): Thread watchdog reaches its period and acts under ACT. -/
  | watchdogExpiry (t : Nat)
  /-- MESH_DEADLINE_EXPIRY (R258): A mesh or PCIe-window request passes its deadline and faults or stops its DMA. -/
  | meshDeadlineExpiry (r : Requester)
  /-- LATE_RESPONSE (R259): A response after its deadline is discarded and counted. -/
  | lateResponse (entry : Nat) (inst : Nat)
  /-- WALK_READ_RESPONSE (R276): A table word returns to the walker, which checks it and continues or ends the walk. -/
  | walkReadResponse (core : Nat) (n : Nat)
  /-- TLBLK_LOAD (R294): Walks a page and locks the result in an L2 TLB slot. -/
  | tlblkLoad (t : Nat) (i : Ins)
  /-- TLBLK_UNLOCK (R295): Unlocks one TLB lock slot. -/
  | tlblkUnlock (t : Nat) (i : Ins)
  /-- TLBLK_UNLOCK_ALL (R295): Unlocks every TLB lock slot. -/
  | tlblkUnlockAll (t : Nat) (i : Ins)
  /-- FETCH_LINE_ARRIVAL (R216): A requested code line arrives in a fetch buffer. -/
  | fetchLineArrival (t : Nat) (va : Addr) (predicted : Bool)
  /-- STORE_BUFFER_DRAIN (R300): A store-buffer entry merges into the L2 and becomes visible. -/
  | storeBufferDrain (core : Nat)
  /-- LINE_FILL (R303): A missed data line arrives and merged accesses repeat. -/
  | lineFill (core : Nat) (icache : Bool) (line : Nat) (way : Nat)
  /-- HOME_SLICE_REQUEST (R307): An L2 miss or upgrade is resolved at the home slice. -/
  | homeSliceRequest (cluster : Nat) (line : Nat) (own : Bool) (way : Nat) (core : Nat) (secure : Bool)
  /-- SNOOP (R307): A forwarded snoop makes an L2 supply or invalidate a line. -/
  | snoop (cluster : Nat) (line : Nat) (own : Bool)
  /-- EVICTION_OFFER (R308): An evicted L2 line is offered to the home slice. -/
  | evictionOffer (cluster : Nat) (set : Nat) (way : Nat) (l3way : Nat)
  /-- DMA_READ (R310): A coherent DMA read at the home slice. -/
  | dmaRead (agent : DmaAgent) (pa : Addr)
  /-- DMA_WRITE (R310): A coherent DMA write that invalidates cached copies. -/
  | dmaWrite (agent : DmaAgent) (pa : Addr) (w : TWord) (mask : BitVec 16)
  /-- L2LOCK_WRITE (R320): Sets fill mode and locks or unlocks L2 ways. -/
  | l2lockWrite (t : Nat) (i : Ins)
  /-- PARTITION_WRITE (R318): Moves cache ways between worlds, evicting them. -/
  | partitionWrite (c : RegCmd)
  /-- CACHE_DISABLE (R326): Setting DIS disables a cache and sets STALE. -/
  | cacheDisable (c : RegCmd)
  /-- SCRATCH_CONFIG (R325): L3_SCRCFG write starts scratch conversion or release. -/
  | scratchConfig (w : Writer) (v : W64)
  /-- SCRATCH_CONVERSION_DONE (R325): Conversion ends and BUSY clears. -/
  | scratchConversionDone
  /-- DRAM_READ (R343): A DRAM read returns and is corrected or poisoned. -/
  | dramRead (pa : Addr) (err : DramErr)
  /-- DRAM_WRITE (R346): A whole-word write reaches a memory controller. -/
  | dramWrite (pa : Addr) (w : TWord) (mask : BitVec 16)
  /-- DRAM_COMMAND_TIMEOUT (R345): A DRAM command passes its 1 us deadline and is retried or poisoned. -/
  | dramCommandTimeout (pa : Addr) (write : Bool)
  /-- DRAM_ALERT (R345): ALERT_n signals a failed write, which is retried once. -/
  | dramAlert (pa : Addr)
  /-- SCRUB_READ (R349): Paced patrol-scrub read of one code word. -/
  | scrubRead (channel : Nat) (pa : Addr) (err : DramErr) (passEnd : Bool)
  /-- CHUNK_INIT_COMPLETE (R351): A DRAM chunk finishes initialisation and stalled accesses proceed. -/
  | chunkInitComplete
  /-- CHANNEL_RETIRE (R358): MEM_RETIRE START begins copying a channel to the spare area. -/
  | channelRetire (w : Writer) (v : W64)
  /-- CHANNEL_RETIRE_DONE (R358): The retirement copy ends and the channel powers down. -/
  | channelRetireDone (unread : List Addr)
  /-- MEM_REPORT_SEND (R360): A channel sends its error-count report to the Badger island every 1 ms. -/
  | memReportSend (channel : Nat)
  /-- TB_NOW_READ (R369): Reading NOW latches its fraction. -/
  | tbNowRead
  /-- TB_RATE_WRITE (R366): Changes the timebase rate adjustment. -/
  | tbRateWrite (v : W64)
  /-- TB_SLEW_WRITE (R366): Starts absorbing an offset by slewing. -/
  | tbSlewWrite (v : W64)
  /-- SLEW_COMPLETE (R366): A slew has absorbed its offset and BUSY clears. -/
  | slewComplete
  /-- TB_STEP_WRITE (R366): Steps NOW, or is refused while gates run or when negative. -/
  | tbStepWrite (v : W64)
  /-- COMPARE_WRITE (R368): Write of a compare unit's time or control. -/
  | compareWrite (n : Nat) (ctl : Bool) (v : W64)
  /-- COMPARE_FIRE (R368): A compare unit fires and raises its source. -/
  | compareFire (n : Nat)
  /-- DECIMATION_BOUNDARY (R371): A sigma-delta filter forms a sample at the end of its window. -/
  | decimationBoundary (n : Nat) (bits : List Bool)
  /-- SD_CFG_WRITE (R375): Sigma-delta configuration write; clearing EN stops the input. -/
  | sdCfgWrite (n : Nat) (v : W64)
  /-- SD_CLOCK_LOSS (R375): No external modulator clock edge for 1 us. -/
  | sdClockLoss (n : Nat)
  /-- SD_STUCK (R375): A data ball holds one level for 256 bits. -/
  | sdStuck (n : Nat) (level : Bool)
  /-- COMPARATOR_OVER_RANGE (R376): The fast comparator decides over range, possibly tripping a unit. -/
  | comparatorOverRange (n : Nat) (bits : List Bool)
  /-- ADC_ENABLE (R378): Enabling the converter starts calibration. -/
  | adcEnable (v : W64)
  /-- ADC_CALIBRATION_DONE (R378): Calibration ends after 50 us. -/
  | adcCalibrationDone
  /-- ADC_SWTRIG (R378): Software triggers ADC sequences. -/
  | adcSwtrig (v : W64)
  /-- ADC_SEQUENCE_START (R379): A queued sequence starts when the converter frees. -/
  | adcSequenceStart
  /-- ADC_SEQUENCE_END (R380): The last conversion ends and the sequence delivers. -/
  | adcSequenceEnd (codes : List (BitVec 16))
  /-- ENCODER_EDGE (R382): A filtered quadrature change updates the count. -/
  | encoderEdge (n : Nat) (a : Bool) (b : Bool)
  /-- ENCODER_INDEX (R382): A Z edge copies and optionally clears the count. -/
  | encoderIndex (n : Nat)
  /-- SSI_FRAME_END (R383): An SSI frame ends and the interface delivers. -/
  | ssiFrameEnd (n : Nat) (raw : BitVec 32) (lineLow : Bool) (tail : Bool)
  /-- RESOLVER_PERIOD_END (R387): An excitation period ends and the resolver delivers. -/
  | resolverPeriodEnd (n : Nat) (sin : Int) (cos : Int) (tracking : Bool)
  /-- GATE_START_WRITE (R396): GU_START write arms a gate unit. -/
  | gateStartWrite (u : Nat) (v : W64)
  /-- GATE_RUN_START (R396): The unit reaches AT and starts running. -/
  | gateRunStart (u : Nat)
  /-- GATE_STOP (R396): STOP write stops a unit and discards its patterns. -/
  | gateStop (u : Nat)
  /-- GATE_PERIOD_BOUNDARY (R397): A carrier period boundary applies pending patterns and triggers. -/
  | gatePeriodBoundary (u : Nat)
  /-- GATE_PERIOD_CENTRE (R393): A carrier period centre raises triggers and events. -/
  | gatePeriodCentre (u : Nat)
  /-- PATTERN_STORE (R394): A pattern reaches the gate unit. -/
  | patternStore (u : Nat) (d : Data)
  /-- PATTERN_APPLY (R397): An immediate-mode pattern is applied 40 ns after sending. -/
  | patternApply (u : Nat) (pos : Nat)
  /-- EDGE_COMMIT (R395): GU_COMMIT.GO commits the staged edges. -/
  | edgeCommit (u : Nat)
  /-- INHIBIT_PIN_ASSERT (R400): GATE_INHIBIT_N low latches the global inhibit. -/
  | inhibitPinAssert
  /-- GATE_FAULT_PIN (R400): GATE_FLT_N low trips its unit. -/
  | gateFaultPin (u : Nat)
  /-- SOFTWARE_INHIBIT (R400): INH_SET.GLOBAL asserts the software inhibit. -/
  | softwareInhibit
  /-- UNIT_TRIP (R400): INH_SET unit bit trips a gate unit. -/
  | unitTrip (units : BitVec 16)
  /-- UNIT_TRIP_CLEAR (R402): Clears a unit trip when no cause is active. -/
  | unitTripClear (units : BitVec 16)
  /-- PIN_INHIBIT_CLEAR (R402): Clears the latched ball inhibit when the ball is high. -/
  | pinInhibitClear
  /-- SOFTWARE_INHIBIT_CLEAR (R402): Clears the software inhibit. -/
  | softwareInhibitClear
  /-- INHIBIT_LOCK (R404): INH_CFG.LOCK freezes the inhibit configuration. -/
  | inhibitLock (w : Writer) (v : W64)
  /-- RINOLINK_LINK_UP (R410): A Rinolink port's link comes up. -/
  | rinolinkLinkUp (p : Nat)
  /-- RINOLINK_LINK_DOWN (R410): A port's link goes down and its nodes become ABSENT. -/
  | rinolinkLinkDown (p : Nat)
  /-- RINOLINK_CYCLE_START (R417): A class cycle starts and POLLs are sent. -/
  | rinolinkCycleStart (p : Nat) (cls : Nat)
  /-- IN (R418): An IN frame's inputs and status words are written. -/
  | inFrame (p : Nat) (f : RFrame)
  /-- ACK (R419): A concentrator acknowledges an OUT frame. -/
  | ack (p : Nat) (f : RFrame)
  /-- RINOLINK_DEADLINE_MISS (R418): An IN or ACK misses its deadline and the node becomes ABSENT. -/
  | rinolinkDeadlineMiss (p : Nat) (cls : Nat) (conc : Nat)
  /-- OUTPUT_GO (R419): RLK_OUTGO starts a class's output phase. -/
  | outputGo (p : Nat) (v : W64)
  /-- OUTPUT_OFFSET_EXPIRY (R419): The output offset elapses and the output phase starts. -/
  | outputOffsetExpiry (p : Nat) (cls : Nat)
  /-- LOSS (R421): A LOSS frame makes endpoints ABSENT. -/
  | loss (p : Nat) (f : RFrame)
  /-- SRQ (R425): A service request arrives and its descriptor is read. -/
  | srq (p : Nat) (f : RFrame)
  /-- SRA_READY (R425): The answer completes or 2.5 us pass, and the SRA pre-empts and is sent. -/
  | sraReady (p : Nat) (late : Bool)
  /-- SR_FINAL (R428): RLK_SRFIN sends a final SRA. -/
  | srFinal (p : Nat) (v : W64)
  /-- DISC_R (R429): A concentrator accepts an address and discovery continues. -/
  | discR (p : Nat) (f : RFrame) (rtd : BitVec 16)
  /-- DISC_TIMEOUT (R429): No DISC_R within 40 us ends discovery. -/
  | discTimeout (p : Nat)
  /-- ENUM_D (R430): A concentrator reports enumeration done. -/
  | enumD (p : Nat) (f : RFrame)
  /-- ENUM_TIMEOUT (R430): A concentrator without ENUM_D after 126 ms is rejected. -/
  | enumTimeout (p : Nat)
  /-- DIRREP (R431): A directory reply is written into the directory. -/
  | dirrep (p : Nat) (f : RFrame)
  /-- AUTO_START (R433): Writing AUTO starts cyclic service. -/
  | autoStart (p : Nat)
  /-- REDISCOVERY (R434): REDISC runs discovery again. -/
  | rediscovery (p : Nat)
  /-- TOKEN (R471): A TOKEN frame is received and may decide or demote the role. -/
  | token (p : Nat) (f : RFrame)
  /-- TSN_TRANSMIT (R441): A FULL transmit descriptor's frame is read, sent and completed. -/
  | tsnTransmit (p : Nat) (c : Nat)
  /-- TSN_RX_FRAME (R442): A received frame is written into a receive descriptor's buffer. -/
  | tsnRxFrame (p : Nat) (f : EthFrame)
  /-- TSN_LINK_CHANGE (R443): A TSN port's link changes. -/
  | tsnLinkChange (p : Nat) (up : Bool)
  /-- GCL_CYCLE_START (R444): A gate-control cycle starts. -/
  | gclCycleStart (p : Nat)
  /-- GCL_ENTRY_CHANGE (R444): A gate-control entry's interval ends and gates change. -/
  | gclEntryChange (p : Nat)
  /-- PCIE_COMPLETION (R451): A completion for a non-posted request arrives. -/
  | pcieCompletion (n : Nat) (k : CplKind) (d : Data)
  /-- PCIE_COMPLETION_TIMEOUT (R451): A non-posted request passes its completion timeout. -/
  | pcieCompletionTimeout (n : Nat)
  /-- PCIE_INBOUND_REQUEST (R452): An inbound request is served or refused. -/
  | pcieInboundRequest (r : InReq)
  /-- PCIE_LINK_CHANGE (R453): The PCIe link changes state. -/
  | pcieLinkChange (up : Bool) (gen : BitVec 2) (width : BitVec 2)
  /-- PCIE_ERROR_MESSAGE (R451): A device reports an error by message. -/
  | pcieErrorMessage
  /-- HSE_SLOT_TAKE (R457): The engine takes a FULL submission slot. -/
  | hseSlotTake (q : Nat)
  /-- HSE_FLUSH_TIMER (R459): FLUSH ms elapse and a unit is appended. -/
  | hseFlushTimer (tier : Nat)
  /-- HSE_UNIT_APPEND (R459): A unit is appended to its tier's open zone. -/
  | hseUnitAppend (tier : Nat)
  /-- HSE_APPEND_COMPLETE (R459): An append completes and its slots become durable. -/
  | hseAppendComplete (tier : Nat) (lba : BitVec 32)
  /-- HSE_COMMAND_TIMEOUT (R463): An NVMe command passes its deadline and is retried or failed. -/
  | hseCommandTimeout (tier : Nat)
  /-- HSE_CHECKPOINT (R460): A checkpoint falls due and is written for signing. -/
  | hseCheckpoint (tier : Nat)
  /-- CHECKPOINT_DONE (R460): HSE_CKDONE appends the signed checkpoint record. -/
  | checkpointDone (w : Writer) (v : W64)
  /-- HSE_READ (R462): A read descriptor returns a unit's records. -/
  | hseRead (result : DriveRead)
  /-- DRIVE_RETIRE (R464): Finishes a drive's zones and retires it. -/
  | driveRetire (n : Nat)
  /-- DRIVE_ATTACH (R464): Attaching a drive rebuilds its zones into the table. -/
  | driveAttach (n : Nat) (zones : List ZoneInfo)
  /-- PAIR_LINK_UP (R467): The pair link comes up. -/
  | pairLinkUp
  /-- HELLO (R470): A HELLO from an undecided partner decides roles. -/
  | hello (serial : W64) (strap : BitVec 2) (epoch : BitVec 32)
  /-- HELLO_SEND (R470): HELLO and CLAIM sent periodically while undecided. -/
  | helloSend
  /-- JOIN_TIMEOUT (R470): JOINTMO expires and the member becomes a solo primary. -/
  | joinTimeout
  /-- HEARTBEAT (R468): A pair HEARTBEAT arrives and drives timebase lock. -/
  | heartbeat (role : BitVec 2) (sync : BitVec 2) (epoch : BitVec 32) (now : W64) (seq : Nat)
  /-- PAIR_HEARTBEAT_SEND (R468): HEARTBEAT sent every 20 us. -/
  | pairHeartbeatSend
  /-- TOKEN_SEND (R471): TOKEN sent on port 0 every 50 us. -/
  | tokenSend
  /-- MIRROR (R474): The standby performs a mirrored word write. -/
  | mirror (seq : Nat) (pa : Addr) (w : TWord)
  /-- FRAMECOPY (R476): The standby's port applies a copied field frame. -/
  | framecopy (seq : Nat) (p : Nat) (f : RFrame) (arrival : W64)
  /-- PORTREC (R476): The standby's port applies a copied port decision. -/
  | portrec (seq : Nat) (p : Nat) (d : PortDecision)
  /-- COPY (R484): The standby performs a resynchronisation copy word. -/
  | copy (seq : Nat) (pa : Addr) (w : TWord)
  /-- REPAIRQ (R487): A repair request is answered with the partner's word. -/
  | repairq (pa : Addr)
  /-- REPAIRA (R487): A repair answer rewrites a poisoned mirrored word. -/
  | repaira (pa : Addr) (w : TWord)
  /-- REPAIR_TIMEOUT (R487): No repair answer within 100 us. -/
  | repairTimeout (pa : Addr)
  /-- GIVEUP (R479): A partner's GIVEUP confirms its loss at once. -/
  | giveup (epoch : BitVec 32)
  /-- PARTNER_SUSPECT (R478): 200 us of pair-link silence raise suspicion. -/
  | partnerSuspect
  /-- LOSS_CONFIRM (R480): The standby confirms primary loss and takes over. -/
  | lossConfirm
  /-- STANDBY_READY (R485): SBREADY completes resynchronisation when the last copy is performed. -/
  | standbyReady
  /-- SEND_QUEUE_STALL (R488): The send queue stays full for 10 us. -/
  | sendQueueStall
  /-- GCM_ENC (R506): AES-GCM encryption with a deterministic nonce. -/
  | gcmEnc (q : Nat)
  /-- GCM_DEC (R504): AES-GCM decryption and tag check. -/
  | gcmDec (q : Nat)
  /-- CTR (R502): AES counter mode. -/
  | ctr (q : Nat)
  /-- CMAC (R502): AES-CMAC of a message. -/
  | cmac (q : Nat)
  /-- SHA_256 (R502): SHA-256 digest. -/
  | sha256 (q : Nat)
  /-- SHA_384 (R502): SHA-384 digest. -/
  | sha384 (q : Nat)
  /-- SHA_512 (R502): SHA-512 digest. -/
  | sha512 (q : Nat)
  /-- SHA3_256 (R502): SHA3-256 digest. -/
  | sha3256 (q : Nat)
  /-- SHA3_384 (R502): SHA3-384 digest. -/
  | sha3384 (q : Nat)
  /-- SHA3_512 (R502): SHA3-512 digest. -/
  | sha3512 (q : Nat)
  /-- ECDSA_SIGN (R502): ECDSA P-384 signature of a digest. -/
  | ecdsaSign (q : Nat)
  /-- ECDSA_VERIFY (R502): ECDSA P-384 verification. -/
  | ecdsaVerify (q : Nat)
  /-- ECDSA_KEYGEN (R502): Generates an ECDSA key into a slot. -/
  | ecdsaKeygen (q : Nat)
  /-- MLDSA_SIGN (R502): Hedged ML-DSA-87 signature. -/
  | mldsaSign (q : Nat)
  /-- MLDSA_VERIFY (R502): ML-DSA-87 verification. -/
  | mldsaVerify (q : Nat)
  /-- MLDSA_KEYGEN (R502): Generates an ML-DSA key into a slot. -/
  | mldsaKeygen (q : Nat)
  /-- MLKEM_KEYGEN (R502): Generates an ML-KEM key pair. -/
  | mlkemKeygen (q : Nat)
  /-- MLKEM_ENCAPS (R502): ML-KEM encapsulation into slot KEY2. -/
  | mlkemEncaps (q : Nat)
  /-- MLKEM_DECAPS (R502): ML-KEM decapsulation into slot KEY2. -/
  | mlkemDecaps (q : Nat)
  /-- KEYLOAD (R505): Loads key material and nonce state into a slot. -/
  | keyload (q : Nat)
  /-- KEYCLR (R502): Clears a key slot. -/
  | keyclr (q : Nat)
  /-- TRNG (R502): Writes random bytes. -/
  | trng (q : Nat)
  /-- CRYPTO_UNIT_END (R509): A unit ends, context is saved and the next unit is chosen. -/
  | cryptoUnitEnd
  /-- CRYPTO_UNIT_TIMEOUT (R510): A unit passes 5 ms and its job ends TIMEOUT. -/
  | cryptoUnitTimeout
  /-- CRY_KWORLD_WRITE (R505): Changing slot worlds clears the changed slots. -/
  | cryKworldWrite (w : Writer) (v : W64)
  /-- CRY_KNRES_WRITE (R508): Extends a slot's nonce reservation. -/
  | cryKnresWrite (w : Writer) (slot : Nat) (v : W64)
  /-- SECURE_WINDOW_WRITE (R493): Changes a secure DRAM window, starting eviction when adding. -/
  | secureWindowWrite (w : Writer) (n : Nat) (lim : Bool) (v : W64)
  /-- SECURE_WINDOW_EVICT_DONE (R493): Eviction of added secure lines ends and BUSY clears. -/
  | secureWindowEvictDone
  /-- DEBUG_PORT_ACCESS (R521): A debugger stops, starts or accesses an open world. -/
  | debugPortAccess (a : DebugOp)
  /-- JTAG_BYPASS (R522): JTAG BYPASS instruction. -/
  | jtagBypass
  /-- JTAG_IDCODE (R522): JTAG IDCODE instruction. -/
  | jtagIdcode
  /-- JTAG_SAMPLE_PRELOAD (R522): JTAG SAMPLE/PRELOAD instruction. -/
  | jtagSamplePreload
  /-- JTAG_EXTEST (R522): JTAG EXTEST when scan is allowed in reset. -/
  | jtagExtest
  /-- JTAG_CLAMP (R522): JTAG CLAMP when scan is allowed in reset. -/
  | jtagClamp
  /-- JTAG_HIGHZ (R522): JTAG HIGHZ when scan is allowed in reset. -/
  | jtagHighz
  /-- PWRGOOD_RISE (R525): PWRGOOD rises and reset can end. -/
  | pwrgoodRise
  /-- PWRGOOD_FALL (R527): PWRGOOD falls and device reset holds. -/
  | pwrgoodFall
  /-- RST_N_ASSERT (R528): RST_N low enters device reset and starts the duration count. -/
  | rstNAssert (ns : Nat)
  /-- RST_N_RELEASE (R529): RST_N rises and the reset duration is recorded. -/
  | rstNRelease (periods : Nat)
  /-- BROWN_OUT (R526): A rail leaves regulation and device reset holds. -/
  | brownOut
  /-- BROWN_OUT_END (R526): Rails stay in regulation for 1 ms. -/
  | brownOutEnd
  /-- DEVICE_RESET_EXIT (R530): Device reset ends, straps are sampled and boot starts. -/
  | deviceResetExit
  /-- IMAGE_LOAD_COMPLETE (R535): The Latch loader finishes copying an image copy. -/
  | imageLoadComplete (ok : Bool)
  /-- IMAGE_CHECK_COMPLETE (R538): An image copy's check ends, passing or trying the next copy. -/
  | imageCheckComplete
  /-- STARTUP_BIST_COMPLETE (R543): Start-up BIST ends, passing or halting. -/
  | startupBistComplete (pass : Bool)
  /-- DRAM_TRAINING_COMPLETE (R548): Training ends and boot proceeds per its outcome. -/
  | dramTrainingComplete (failed : BitVec 4) (pop : DramPop)
  /-- CORE_RELEASE (R545): CORE_RELEASE write releases cores at SYS_RELVEC. -/
  | coreRelease (w : Writer) (v : W64)
  /-- RECOVERY_BAR_WRITE (R542): Recovery endpoint write places image bytes in secure SRAM. -/
  | recoveryBarWrite (off : Nat) (d : Data) (mask : BitVec 16)
  /-- RECOVERY_CHECK (R541): RCV_CTL.GO checks the recovery image. -/
  | recoveryCheck
  /-- MAILBOX_SUBMIT (R553): GO submits a mailbox request. -/
  | mailboxSubmit (m : Nat)
  /-- MAILBOX_TIMEOUT (R554): A mailbox reply deadline expires. -/
  | mailboxTimeout (m : Nat)
  /-- LONG_COMMAND_COMPLETE (R555): A long command posts its completion. -/
  | longCommandComplete (m : Nat)
  /-- GET_INFO (R561): Returns firmware, mailbox, life cycle and SYS_DEVID. -/
  | getInfo (m : Nat)
  /-- TLM_READ (R579): Returns words of a telemetry object. -/
  | tlmRead (m : Nat)
  /-- EVLOG_READ (R580): Returns event-log entries. -/
  | evlogRead (m : Nat)
  /-- CLK_SET (R562): Sets the requested clock of clusters. -/
  | clkSet (m : Nat)
  /-- CORE_FENCE (R563): Fences a core or returns it to service. -/
  | coreFence (m : Nat)
  /-- CACHE_REINIT (R564): Invalidates a stale disabled cache and clears STALE. -/
  | cacheReinit (m : Nat)
  /-- DEVICE_RESET (R565): Sett command scheduling a device reset. -/
  | deviceReset (m : Nat)
  /-- SETT_DEVICE_RESET_START (R565): Device reset starts 2 us after the reply. -/
  | settDeviceResetStart
  /-- SHUTDOWN (R565): Runs the shutdown self-test and writes the stamp. -/
  | shutdown (m : Nat) (pass : Bool)
  /-- BIST_RUN (R605): Runs a programmed BIST on out-of-service targets. -/
  | bistRun (m : Nat) (failed : List Nat)
  /-- KEY_UPDATE (R515): Installs a new root key hash. -/
  | keyUpdate (m : Nat)
  /-- CTR_ADVANCE (R516): Advances a monotonic counter. -/
  | ctrAdvance (m : Nat)
  /-- LC_ADVANCE (R518): Advances the life cycle and resets the device. -/
  | lcAdvance (m : Nat)
  /-- DEBUG_CHALLENGE (R568): Issues a debug unlock challenge. -/
  | debugChallenge (m : Nat)
  /-- DEBUG_UNLOCK (R568): Unlocks AUTH worlds on a valid signature. -/
  | debugUnlock (m : Nat)
  /-- STAGE_WRITE (R569): Writes the management port staging area. -/
  | stageWrite (m : Nat)
  /-- IMG_WRITE (R569): Writes recovery image words into secure SRAM. -/
  | imgWrite (m : Nat)
  /-- IMG_CHECK (R569): Checks the recovery image. -/
  | imgCheck (m : Nat)
  /-- C1_ENTRY (R570): An idle core enters C1. -/
  | c1Entry (core : Nat)
  /-- C2_ENTRY (R570): A core idle for 20 us enters C2. -/
  | c2Entry (core : Nat)
  /-- C3_ENTRY (R571): A cluster whose threads are stopped for 1 ms enters C3. -/
  | c3Entry (cluster : Nat)
  /-- CLUSTER_WAKE (R571): PWR_CWAKE wakes a cluster from C3. -/
  | clusterWake (w : Writer) (v : W64)
  /-- C4_ENTRY (R572): The package enters C4. -/
  | c4Entry
  /-- PACKAGE_WAKE (R572): WAKE_N, the wake timer or mailbox 8 wakes the package. -/
  | packageWake (cause : WakeCause)
  /-- TOLERANCE_WRITE (R573): PWR_CTOL or PWR_PKGTOL write answered once cores comply. -/
  | toleranceWrite (cluster : Option Nat) (w : Writer) (v : W64)
  /-- THERMAL_SAMPLE (R576): Sett samples sensors every 1 ms and adjusts thermal limits. -/
  | thermalSample (readings : List Int)
  /-- SETT_HEARTBEAT (R25): Sett sends its firmware heartbeat to Badger. -/
  | settHeartbeat
  /-- CORE_HEARTBEAT (R584): A core sends its heartbeat every 100 us when eligible. -/
  | coreHeartbeat (core : Nat)
  /-- LOCKSTEP_MISMATCH (R582): Badger's lockstep cores disagree. -/
  | lockstepMismatch
  /-- CLOCK_MONITOR_FAIL (R583): A monitored clock stops or deviates by more than 5 %. -/
  | clockMonitorFail (clock : Nat)
  /-- SETT_HEARTBEAT_TIMEOUT (R583): Sett's heartbeat deadline expires. -/
  | settHeartbeatTimeout
  /-- CORE_HEARTBEAT_TIMEOUT (R585): A core's heartbeat deadline expires and the core is lost. -/
  | coreHeartbeatTimeout (core : Nat)
  /-- CACHE_ERROR_REPORT (R315): An unrecoverable cache error reaches Badger. -/
  | cacheErrorReport (stop : Nat)
  /-- MEM_ERROR_REPORT (R583): A memory report reaches Badger and is counted. -/
  | memErrorReport (channel : Nat) (n : Nat)
  /-- MEM_REPORT_MISSING (R583): A channel sends no report for 5 ms. -/
  | memReportMissing (channel : Nat)
  /-- OVER_TEMPERATURE_REPORT (R583): Badger receives Sett's over-temperature report. -/
  | overTemperatureReport (sensor : Nat)
  /-- VOLTAGE_SAMPLE (R583): Badger samples rails and regional limits every 100 us. -/
  | voltageSample (outside : List Nat)
  /-- BADGER_RELEASE (R588): BDG_RELEASE releases the initial safe state. -/
  | badgerRelease (w : Writer) (v : W64)
  /-- CHANNEL_PORT_WRITE (R592): A write to a comparison channel port opens or closes a round. -/
  | channelPortWrite (n : Nat) (portB : Bool) (tid : Nat) (v : W64)
  /-- CHANNEL_WINDOW_EXPIRY (R592): The other port is not written within WINDOW. -/
  | channelWindowExpiry (n : Nat)
  /-- CHANNEL_PERIOD_EXPIRY (R592): No round opens within PERIOD. -/
  | channelPeriodExpiry (n : Nat)
  /-- CHANNEL_FAIL_CLEAR (R593): Clearing FAIL re-arms a comparison channel. -/
  | channelFailClear (n : Nat)
  /-- BDG_CHTID_WRITE (R594): Changes a channel's thread pair under running restrictions. -/
  | bdgChtidWrite (w : Writer) (n : Nat) (v : W64)
  /-- CRT_SLOT_START (R595): A Core Rotation Test slot starts and announces its core. -/
  | crtSlotStart
  /-- CRT_TEST_START (R596): 10 ms later the core is fenced and tested or postponed. -/
  | crtTestStart
  /-- CRT_TEST_END (R597): A core test ends and the core returns or stays fenced. -/
  | crtTestEnd (pass : Bool)
  /-- CRT_LAPSE (R598): A core goes 60 s without a passed test. -/
  | crtLapse (core : Nat)
  /-- WAY_RETIRE (R607): L3_WAYRET retires an L3 way. -/
  | wayRetire (w : Writer) (slice : Nat) (v : W64)
  /-- WAY_RETIRE_DONE (R607): Way retirement ends and BUSY clears. -/
  | wayRetireDone (slice : Nat)
  /-- REGISTER_WRITE (R4): A write to a memory-mapped register with no row of its own. -/
  | registerWrite (w : Writer) (pa : Addr) (v : W64)
  /-- UNDEFINED_OPCODE (R88): A thread issues an encoding with an undefined group, function or Compact OP, or an all-zero head word, and takes an illegal-instruction trap. -/
  | undefinedOpcode (t : Nat)
  /-- INSTRUCTION_FETCH_FAULT (R107): The thread's next instruction cannot be fetched, through translation, permission, walk, poison, timeout or an MMIO page, and it traps at step 1 with operand 0. -/
  | instructionFetchFault (t : Nat) (k : FetchFault)
  /-- GATE_EDGE (R399): A gate channel switches at its programmed instant within a period, after any dead time, raising its event when EVSEL selects edges and acting the EDGE-mode interlock. -/
  | gateEdge (u : Nat) (c : Nat) (pos : Nat)
  /-- INHIBIT_PIN_RELEASE (R402): GATE_INHIBIT_N returns high, which lets INH_CLR.PIN clear the latched ball inhibit. -/
  | inhibitPinRelease
  /-- GATE_FAULT_PIN_RELEASE (R402): GATE_FLT_Nu returns high, so that cause of the unit trip is no longer active. -/
  | gateFaultPinRelease (u : Nat)
  /-- COMPARATOR_IN_RANGE (R402): A sigma-delta fast comparator's output returns within HI and LO, so its unit-trip cause is no longer active. -/
  | comparatorInRange (n : Nat) (bits : List Bool)
  /-- PAIR_LINK_DOWN (R467): The pair link loses its lanes and PAIR_STATUS.LINK clears. -/
  | pairLinkDown
  /-- PAIR_FRAME_CRC_ERROR (R468): A pair-link frame with a bad CRC is discarded, counted in PAIR_CNT.CRC and raises source 366. -/
  | pairFrameCrcError
  /-- RINOLINK_FRAME_DISCARD (R412): A received Rinolink frame with a bad FCS, a reserved TYPE or a set RSV bit is discarded and counted in RLK_FCS. -/
  | rinolinkFrameDiscard (p : Nat)
  /-- VDD_AON_APPLY (R550): VDD_AON is applied, the always-on domain starts, and SYS_RSTCAUSE.PWR is set. -/
  | vddAonApply
  /-- VDD_AON_LOSS (R527): VDD_AON is lost, clearing the retained reset items, the shutdown-BIST stamp copy and the Sett event log. -/
  | vddAonLoss
deriving DecidableEq, Repr

end Sys2Proof
end

