-- ==== Sys2Proof/Config.lean ====
section
/-! DEFINITION. The free values of the model: constants without a body, for what the spec leaves open or takes from a
published standard that it only names. Nothing in Lean can evaluate one or prove a value of it. -/

namespace Sys2Proof

/-- An error in an array that the hardware must act on: a word of a Den that cannot be corrected, and one that is (02 R44; its core
counts that in the telemetry of 17 R579); a parity error in an L1 line or in
an entry of the ITLB, the DTLB, the L2 TLB or the walk cache (which 0 to 3; 09 R314, 08 R286); a word of an L2 that cannot be corrected, or
a line of one whose tag or state fails in both copies; the same of an L3 slice, where corrections count too; a directory entry's error
(09 R315, R333). -/
inductive Upset where
  | den (t n : Nat)
  | denCorrected (core : Nat)
  | l1 (core : Nat) (icache : Bool) (slot : Nat)
  | tlb (core which n : Nat)
  | l2Word (cluster slot word : Nat)
  | l2Line (cluster slot : Nat)
  | l3Word (key word : Nat) (corrected : Bool)
  | l3Line (key : Nat)
  | dirEntry (slice : Nat) (corrected : Bool)
deriving DecidableEq, Repr

/-- The error, if any, that an array has in a period of the reference: the spec says what the hardware does with one and not when one
occurs; the argument is a counter of State (log 69). -/
opaque Config.upset : Nat → Option Upset

/-- A value the spec leaves open; the argument is a counter of State that every use advances (log 9). -/
opaque Config.freeValue : Nat → BitVec 128

/-- Random bits of the TRNG (15 R502, SP 800-90B by name); the argument is the counter of State (log 9). -/
opaque Config.random : Nat → BitVec 256

/-- Whether the fused multiply-add of infinity by zero with a quiet NaN addend signals invalid operation (IEEE 754, which 04 R127
names, leaves it to the implementation; log 35). -/
opaque Config.fmaInfZeroQuiet : Bool

/-- FIPS 197 block encryption, named by 00 and 15 R502: key bytes, block (log 30). -/
opaque Config.aesEncrypt : List Byte → BitVec 128 → BitVec 128

/-- IEEE 802.1AE integrity check value, named by 13 R439: whether the cipher has a 256-bit key and XPN, key words, salt words, SSCI, SCI and
PN, and the protected bytes (log 30). -/
opaque Config.macsecIcv : Bool × Bool → List (BitVec 64) → List (BitVec 64) → BitVec 32 × BitVec 64 × BitVec 64 → List (BitVec 8) → BitVec 128

/-- IEEE 802.1AE key stream: the byte with which byte i of a protected frame is encrypted, from the same inputs (log 30). -/
opaque Config.macsecStream : Bool × Bool → List (BitVec 64) → List (BitVec 64) → BitVec 32 × BitVec 64 × BitVec 64 → Nat → BitVec 8

/-- Word i of an NVMe command, which 13 R455 names by its standard: what is asked (0 append, 1 read, 2 finish, 3 reset, 4 report), the
namespace, the start LBA and the blocks (log 98). -/
opaque Config.nvmeCommand : Nat → BitVec 32 → BitVec 48 → Nat → Nat → BitVec 128

/-- FIPS 180-4 and FIPS 202 digests, named by 00 and 15 R502: the operation's OP value, the message bytes (log 30). -/
opaque Config.digest : Nat → List Byte → List Byte

/-- FIPS 186-5 ECDSA P-384 signature r ‖ s of a digest: private key, digest, random bits (log 30). -/
opaque Config.ecdsaSign : List Byte → List Byte → BitVec 256 → List Byte

/-- FIPS 186-5 ECDSA P-384 verification: public key x ‖ y, digest, signature (log 30). -/
opaque Config.ecdsaVerify : List Byte → List Byte → List Byte → Bool

/-- FIPS 186-5 key pair from random bits: private key, public key (log 30). -/
opaque Config.ecdsaKeygen : BitVec 256 → List Byte × List Byte

/-- FIPS 204 ML-DSA-87 signature: none when 48 attempts were rejected (15 R503 RETRY, log 30). -/
opaque Config.mldsaSign : List Byte → List Byte → BitVec 256 → Option (List Byte)

/-- FIPS 204 ML-DSA-87 verification: public key, message, signature (log 30). -/
opaque Config.mldsaVerify : List Byte → List Byte → List Byte → Bool

/-- FIPS 204 ML-DSA-87 key pair from random bits (log 30). -/
opaque Config.mldsaKeygen : BitVec 256 → List Byte × List Byte

/-- FIPS 203 ML-KEM-1024 key pair from random bits: decapsulation key, encapsulation key (log 30). -/
opaque Config.mlkemKeygen : BitVec 256 → List Byte × List Byte

/-- FIPS 203 encapsulation: encapsulation key, random bits; shared secret, ciphertext (log 30). -/
opaque Config.mlkemEncaps : List Byte → BitVec 256 → List Byte × List Byte

/-- FIPS 203 decapsulation: decapsulation key, ciphertext; shared secret (log 30). -/
opaque Config.mlkemDecaps : List Byte → List Byte → List Byte

/-- The key that Sett derives from the HUK for stamps (18 R600, R601 give no derivation; log 31). -/
opaque Config.stampKey : List Byte → List Byte

/-- How the amplitude of 11 R387, an irrational number, is rounded to Q31: up or down (the spec states no rounding; log 33). -/
opaque Config.resolverRoundUp : Nat → Bool

/-- Whether A leading B counts up (11 R382 gives no direction; log 33). -/
opaque Config.encoderALeadsUp : Bool

/-- The content of a telemetry object word (17 R579 gives no layout): object, index, word, the values that the object records, and a counter
of State, 0 for an object that does not change with time (log 32). -/
opaque Config.telemetry : Nat → Nat → Nat → List Nat → Nat → W64

/-- The number of words of a telemetry object (17 R579 gives none; log 32). -/
opaque Config.telemetryWords : Nat → Nat

/-- The key bundle of an active hash as Sett holds it: 2,688 bytes (15 R515 does not say where Sett keeps it; log 57). -/
opaque Config.activeBundle : BitVec 384 → List Byte

/-- The angle and the velocity of a resolver's tracking loop (11 R386 gives no loop): channel, BW, sine, cosine, counter (log 33). -/
opaque Config.resolverTrack : Nat → Nat → Int → Int → Nat → BitVec 32 × BitVec 32

/-- The version numbers of Sett's firmware and of its self-test content (17 R561, 18 R600 give no value; log 7). -/
opaque Config.firmwareVersion : BitVec 32
opaque Config.selfTestContent : BitVec 32

/-- The 28 check bits of a code word: data, tag, PA[47:4] of the word (10 R339, R340, which give no generator; log 45). -/
opaque Config.checkBits : BitVec 128 → BitVec 4 → BitVec 44 → BitVec 28

/-- The channel, counted on from the retired one, whose spare area holds a word of it (10 R358 names none): channel, word number. -/
opaque Config.spareChannel : Nat → Nat → Nat

/-- The manufacturer identity of JTAG IDCODE (15 R522 names it and gives no value; log 7). -/
opaque Config.jep106 : BitVec 11

/-- Whether an RST_N pulse between 100 ns and 1 us causes a device reset (16 R528: it may or may not; log 34). -/
opaque Config.shortPulseResets : Nat → Bool

/-- The longest acceptance-to-performed time, in ns, of the records of the pair link from one number to another (14 R489, log 82). -/
opaque Config.pairLatency : Nat → Nat → BitVec 32

/-- How far a KEY_UPDATE has come when a reset or a power loss cuts it (15 R515: the result follows from the step; log 99): 0 nothing is
written, 1 the row is written in part, 2 the row is complete, 3 the commit entry is written in part. -/
opaque Config.updateCut : Nat → BitVec 2

/-- The cluster voltage in mV that trim gives for a clock in MHz (17 R562, 15 R514, which give no layout; log 99). -/
opaque Config.trimVolt : List Byte → Nat → Nat

/-- Whether a fuse of a row that Sett programs does not take (17 R559 FUSE, R566; log 84); the argument is a counter of State. -/
opaque Config.fuseFails : Nat → Bool

end Sys2Proof
end

