-- ==== Sys2Proof/Machine/RegTable.lean ====
section
/-! DEFINITION. The memory-mapped registers as data: where each lies in the MMIO window (01 R19), its fields with their access
codes (00 R4), reset values and the encodings that its table does not reserve (00 R5). A reset value that the tables leave to
fuses, training or the image is 0 here and held elsewhere in State (log 7); one given as a dash is 0 (log 8). -/

namespace Sys2Proof.Machine

/-- The access codes of 00 R4. -/
inductive Acc where
  | rw | ro | wo | w1c | w1s | rc
deriving DecidableEq, Repr

/-- A field: its bits, access code, reset value, and the range of its encodings (0 too, where orZero is set): a range that a table gives
without another word reserves what lies outside it (DESIGN CHOICE, log 94). -/
structure RegF where
  hi : Nat
  lo : Nat
  acc : Acc
  rst : Nat
  min : Nat
  max : Option Nat
  orZero : Bool
deriving DecidableEq, Repr

/-- A register or a family of registers: first offset in the MMIO window, count and stride per index (outermost first). -/
structure RegD where
  base : Nat
  dims : List (Nat × Nat)
  fields : List RegF
deriving DecidableEq, Repr

/-- A field all of whose encodings are defined. -/
def fld (hi lo : Nat) (acc : Acc) (rst : Nat) : RegF := ⟨hi, lo, acc, rst, 0, none, false⟩

/-- A writable field whose encodings outside the range are reserved. -/
def rng (hi lo rst min : Nat) (max : Option Nat) (orZero : Bool) : RegF := ⟨hi, lo, .rw, rst, min, max, orZero⟩

/-- SYS_DEVID (01). -/
def Key.sysDevid : Nat := 0x70000

/-- The registers of chapter 01. -/
def regTable01_0 : List RegD :=
  [
   ⟨0x70000, [],
     [fld 63 48 .ro 0xF1D,
      fld 47 32 .ro 0x8048,
      fld 23 20 .ro 0x0,
      fld 19 16 .ro 0x0,
      fld 15 12 .ro 0x0,
      fld 11 8 .ro 0x0]⟩]

/-- EVR_BIND (07). -/
def Key.evrBind (i : Nat) : Nat := 0x61000 + 0x10 * i

/-- EVR_SECMAP (07). -/
def Key.evrSecmap (i : Nat) : Nat := 0x60100 + 0x10 * i

/-- EVR_SWSET (07). -/
def Key.evrSwset : Nat := 0x60200

/-- EVR_DROP (07). -/
def Key.evrDrop : Nat := 0x60210

/-- EVR_HALTLOG (07). -/
def Key.evrHaltlog : Nat := 0x60220

/-- The registers of chapter 07. -/
def regTable07_0 : List RegD :=
  [
   ⟨0x61000, [(1024, 0x10)],
     [fld 57 48 .rw 0x0,
      fld 44 42 .rw 0x0,
      rng 41 40 0x0 0 (some 2) false,
      fld 39 39 .rw 0x0,
      rng 35 32 0x0 0 (some 3) false,
      fld 23 16 .rw 0x0,
      fld 9 0 .rw 0x0]⟩,
   ⟨0x60100, [(16, 0x10)],
     [fld 63 0 .rw 0x0]⟩,
   ⟨0x60200, [],
     [fld 9 0 .wo 0x0]⟩,
   ⟨0x60210, [],
     [fld 31 0 .rc 0x0]⟩,
   ⟨0x60220, [],
     [fld 63 63 .ro 0x0,
      fld 9 0 .ro 0x0]⟩]

/-- L3_CTL (09). -/
def Key.l3Ctl (i : Nat) : Nat := 0x200000 + 0x10000 * i

/-- L3_PART (09). -/
def Key.l3Part (i : Nat) : Nat := 0x200010 + 0x10000 * i

/-- L3_SCRCFG (09). -/
def Key.l3Scrcfg : Nat := 0x200020

/-- L3_LATE (09). -/
def Key.l3Late (i : Nat) : Nat := 0x208000 + 0x10000 * i

/-- L3_ERRCNT (09). -/
def Key.l3Errcnt (i : Nat) : Nat := 0x208010 + 0x10000 * i

/-- L3_DIRCONF (09). -/
def Key.l3Dirconf (i : Nat) : Nat := 0x208020 + 0x10000 * i

/-- The registers of chapter 09. -/
def regTable09_0 : List RegD :=
  [
   ⟨0x200000, [(12, 0x10000)],
     [rng 5 4 0x1 0 (some 2) false,
      fld 1 1 .ro 0x0,
      fld 0 0 .rw 0x0]⟩,
   ⟨0x200010, [(12, 0x10000)],
     [fld 15 0 .rw 0x8000]⟩,
   ⟨0x200020, [],
     [fld 63 63 .ro 0x0,
      fld 15 8 .rw 0x0,
      fld 7 0 .rw 0x0]⟩,
   ⟨0x208000, [(12, 0x10000)],
     [fld 31 0 .rc 0x0]⟩,
   ⟨0x208010, [(12, 0x10000)],
     [fld 63 32 .rc 0x0,
      fld 31 0 .rc 0x0]⟩,
   ⟨0x208020, [(12, 0x10000)],
     [fld 31 0 .rc 0x0]⟩]

/-- MEM_CFG (10). -/
def Key.memCfg (i : Nat) : Nat := 0x100000 + 0x10000 * i

/-- MEM_ECCCTL (10). -/
def Key.memEccctl (i : Nat) : Nat := 0x100010 + 0x10000 * i

/-- MEM_SCRUB (10). -/
def Key.memScrub (i : Nat) : Nat := 0x100020 + 0x10000 * i

/-- MEM_DEVMARK (10). -/
def Key.memDevmark (i : Nat) : Nat := 0x100030 + 0x10000 * i

/-- MEM_INIT (10). -/
def Key.memInit : Nat := 0x100100

/-- MEM_RETIRE (10). -/
def Key.memRetire : Nat := 0x100110

/-- MEM_LATE (10). -/
def Key.memLate (i : Nat) : Nat := 0x108000 + 0x10000 * i

/-- MEM_ECCCNT (10). -/
def Key.memEcccnt (i : Nat) : Nat := 0x108010 + 0x10000 * i

/-- MEM_ERRLOG (10). -/
def Key.memErrlog (i : Nat) : Nat := 0x108020 + 0x10000 * i

/-- MEM_NARROW (10). -/
def Key.memNarrow (i : Nat) : Nat := 0x108030 + 0x10000 * i

/-- MEM_DEVCE (10). -/
def Key.memDevce (i : Nat) (j : Nat) : Nat := 0x108100 + 0x10000 * i + 0x10 * j

/-- The registers of chapter 10. -/
def regTable10_0 : List RegD :=
  [
   ⟨0x100000, [(4, 0x10000)],
     [fld 24 24 .ro 0x0,
      fld 23 16 .ro 0x0,
      fld 9 8 .ro 0x0,
      fld 5 4 .ro 0x0,
      fld 2 2 .ro 0x0,
      fld 1 1 .ro 0x0,
      fld 0 0 .ro 0x0]⟩,
   ⟨0x100010, [(4, 0x10000)],
     [fld 31 16 .rw 0x100,
      fld 8 8 .rw 0x1]⟩,
   ⟨0x100020, [(4, 0x10000)],
     [fld 63 63 .rw 0x1,
      rng 47 32 0x5A0 60 (some 10080) false,
      fld 31 0 .ro 0x0]⟩,
   ⟨0x100030, [(4, 0x10000)],
     [fld 28 24 .rw 0x0,
      fld 20 16 .rw 0x0,
      fld 12 8 .rw 0x0,
      fld 4 0 .rw 0x0]⟩,
   ⟨0x100100, [],
     [fld 63 63 .ro 0x0,
      fld 55 48 .ro 0x0,
      fld 44 40 .ro 0x0,
      fld 20 0 .ro 0x0]⟩,
   ⟨0x100110, [],
     [fld 63 62 .ro 0x0,
      fld 31 16 .ro 0x0,
      fld 3 3 .wo 0x0,
      fld 1 0 .rw 0x0]⟩,
   ⟨0x108000, [(4, 0x10000)],
     [fld 31 0 .rc 0x0]⟩,
   ⟨0x108010, [(4, 0x10000)],
     [fld 63 32 .rc 0x0,
      fld 31 0 .rc 0x0]⟩,
   ⟨0x108020, [(4, 0x10000)],
     [fld 63 63 .w1c 0x0,
      fld 62 62 .w1c 0x0,
      fld 61 60 .ro 0x0,
      fld 56 56 .ro 0x0,
      fld 55 55 .ro 0x0,
      fld 54 51 .ro 0x0,
      fld 47 4 .ro 0x0]⟩,
   ⟨0x108030, [(4, 0x10000)],
     [fld 31 0 .rc 0x0]⟩,
   ⟨0x108100, [(4, 0x10000), (40, 0x10)],
     [fld 15 0 .rc 0x0]⟩]

/-- CIO_TB_NOW (11). -/
def Key.cioTbNow : Nat := 0x300000

/-- CIO_TB_FRAC (11). -/
def Key.cioTbFrac : Nat := 0x300010

/-- CIO_TB_RATE (11). -/
def Key.cioTbRate : Nat := 0x300020

/-- CIO_TB_SLEW (11). -/
def Key.cioTbSlew : Nat := 0x300030

/-- CIO_TB_STEP (11). -/
def Key.cioTbStep : Nat := 0x300040

/-- CIO_TB_STAT (11). -/
def Key.cioTbStat : Nat := 0x300050

/-- CIO_TB_CMP (11). -/
def Key.cioTbCmp (i : Nat) : Nat := 0x300100 + 0x10 * i

/-- CIO_TB_CMPCTL (11). -/
def Key.cioTbCmpctl (i : Nat) : Nat := 0x300300 + 0x10 * i

/-- CIO_SD_CLK (11). -/
def Key.cioSdClk (i : Nat) : Nat := 0x310000 + 0x10 * i

/-- SD_CFG (11). -/
def Key.sdCfg (i : Nat) : Nat := 0x311000 + 0x40 * i

/-- SD_SCALE (11). -/
def Key.sdScale (i : Nat) : Nat := 0x311010 + 0x40 * i

/-- SD_CMP (11). -/
def Key.sdCmp (i : Nat) : Nat := 0x311020 + 0x40 * i

/-- SD_STAT (11). -/
def Key.sdStat (i : Nat) : Nat := 0x311030 + 0x40 * i

/-- ADC_CTL (11). -/
def Key.adcCtl : Nat := 0x320000

/-- ADC_SEQ (11). -/
def Key.adcSeq (i : Nat) : Nat := 0x320100 + 0x10 * i

/-- ADC_SWTRIG (11). -/
def Key.adcSwtrig : Nat := 0x320200

/-- ADC_STAT (11). -/
def Key.adcStat : Nat := 0x320210

/-- ENC_CFG (11). -/
def Key.encCfg (i : Nat) : Nat := 0x331000 + 0x40 * i

/-- ENC_POS (11). -/
def Key.encPos (i : Nat) : Nat := 0x331010 + 0x40 * i

/-- ENC_ZPOS (11). -/
def Key.encZpos (i : Nat) : Nat := 0x331020 + 0x40 * i

/-- ENC_STAT (11). -/
def Key.encStat (i : Nat) : Nat := 0x331030 + 0x40 * i

/-- RES_CFG (11). -/
def Key.resCfg (i : Nat) : Nat := 0x341000 + 0x40 * i

/-- RES_THR (11). -/
def Key.resThr (i : Nat) : Nat := 0x341010 + 0x40 * i

/-- RES_STAT (11). -/
def Key.resStat (i : Nat) : Nat := 0x341020 + 0x40 * i

/-- GU_CFG (11). -/
def Key.guCfg (i : Nat) : Nat := 0x351000 + 0x100 * i

/-- GU_HALF (11). -/
def Key.guHalf (i : Nat) : Nat := 0x351010 + 0x100 * i

/-- GU_START (11). -/
def Key.guStart (i : Nat) : Nat := 0x351020 + 0x100 * i

/-- GU_CTL (11). -/
def Key.guCtl (i : Nat) : Nat := 0x351030 + 0x100 * i

/-- GU_PAT (11). -/
def Key.guPat (i : Nat) : Nat := 0x351040 + 0x100 * i

/-- GU_COMMIT (11). -/
def Key.guCommit (i : Nat) : Nat := 0x351050 + 0x100 * i

/-- GU_EV (11): EVSEL is held as six fields of a channel each (log 70). -/
def Key.guEv (i : Nat) : Nat := 0x351060 + 0x100 * i

/-- GU_STAT (11). -/
def Key.guStat (i : Nat) : Nat := 0x351070 + 0x100 * i

/-- GU_EDGE (11). -/
def Key.guEdge (i : Nat) (j : Nat) : Nat := 0x351080 + 0x100 * i + 0x10 * j

/-- INH_CFG (11). -/
def Key.inhCfg : Nat := 0x360000

/-- INH_STAT (11). -/
def Key.inhStat : Nat := 0x368000

/-- INH_SET (11). -/
def Key.inhSet : Nat := 0x368010

/-- INH_CLR (11). -/
def Key.inhClr : Nat := 0x368020

/-- The registers of chapter 11. -/
def regTable11_0 : List RegD :=
  [
   ⟨0x300000, [],
     [fld 63 0 .ro 0x0]⟩,
   ⟨0x300010, [],
     [fld 31 0 .ro 0x0]⟩,
   ⟨0x300020, [],
     [fld 31 0 .rw 0x0]⟩,
   ⟨0x300030, [],
     [fld 63 63 .ro 0x0,
      fld 39 0 .rw 0x0]⟩,
   ⟨0x300040, [],
     [fld 63 0 .wo 0x0]⟩,
   ⟨0x300050, [],
     [fld 0 0 .w1c 0x0]⟩,
   ⟨0x300100, [(32, 0x10)],
     [fld 63 0 .rw 0x0]⟩,
   ⟨0x300300, [(32, 0x10)],
     [rng 63 32 0x0 1000 none true,
      fld 1 1 .w1c 0x0,
      fld 0 0 .rw 0x0]⟩,
   ⟨0x310000, [(4, 0x10)],
     [fld 63 63 .rw 0x0,
      rng 8 0 0x50 64 (some 320) false]⟩,
   ⟨0x311000, [(32, 0x40)],
     [fld 63 63 .rw 0x0,
      fld 62 62 .rw 0x0,
      fld 61 61 .rw 0x0,
      rng 60 58 0x0 0 (some 4) false,
      rng 57 48 0x80 16 (some 512) false,
      rng 47 40 0x1 1 (some 255) false,
      fld 39 39 .rw 0x0,
      fld 38 37 .rw 0x0,
      fld 36 32 .rw 0x0,
      fld 25 24 .rw 0x0,
      fld 20 16 .rw 0x0]⟩,
   ⟨0x311010, [(32, 0x40)],
     [fld 63 32 .rw 0x0,
      fld 29 24 .rw 0x0,
      fld 23 0 .rw 0x400]⟩,
   ⟨0x311020, [(32, 0x40)],
     [fld 63 63 .rw 0x0,
      fld 62 62 .rw 0x0,
      rng 61 60 0x1 0 (some 2) false,
      fld 59 56 .rw 0x0,
      fld 31 16 .rw 0x7FFF,
      fld 15 0 .rw 0x8000]⟩]

/-- The registers of chapter 11. -/
def regTable11_1 : List RegD :=
  [
   ⟨0x311030, [(32, 0x40)],
     [fld 63 48 .rc 0x0,
      fld 47 32 .rc 0x0,
      fld 5 5 .w1c 0x0,
      fld 4 4 .w1c 0x0,
      fld 3 3 .w1c 0x0,
      fld 2 2 .ro 0x0,
      fld 1 1 .w1c 0x0,
      fld 0 0 .ro 0x1]⟩,
   ⟨0x320000, [],
     [fld 63 63 .rw 0x0,
      fld 62 62 .ro 0x0]⟩,
   ⟨0x320100, [(4, 0x10)],
     [rng 63 60 0x1 1 (some 8) false,
      fld 59 58 .rw 0x0,
      fld 57 53 .rw 0x0,
      fld 31 0 .rw 0x0]⟩,
   ⟨0x320200, [],
     [fld 3 0 .wo 0x0]⟩,
   ⟨0x320210, [],
     [fld 63 48 .rc 0x0,
      fld 47 32 .rc 0x0,
      fld 3 0 .ro 0x0]⟩,
   ⟨0x331000, [(8, 0x40)],
     [fld 63 63 .rw 0x0,
      rng 62 61 0x0 0 (some 2) false,
      fld 60 60 .rw 0x0,
      fld 59 56 .rw 0x2,
      fld 55 54 .rw 0x0,
      fld 53 49 .rw 0x0,
      rng 39 32 0x19 8 (some 32) false,
      rng 31 16 0x64 10 (some 1000) false,
      rng 15 0 0x7D0 100 (some 65535) false]⟩,
   ⟨0x331010, [(8, 0x40)],
     [fld 63 0 .rw 0x0]⟩,
   ⟨0x331020, [(8, 0x40)],
     [fld 63 0 .ro 0x0]⟩,
   ⟨0x331030, [(8, 0x40)],
     [fld 63 48 .rc 0x0,
      fld 47 32 .rc 0x0,
      fld 2 2 .w1c 0x0,
      fld 1 1 .w1c 0x0,
      fld 0 0 .w1c 0x0]⟩,
   ⟨0x341000, [(4, 0x40)],
     [fld 63 63 .rw 0x0,
      fld 62 61 .rw 0x1,
      fld 60 56 .rw 0x0,
      fld 55 51 .rw 0x0,
      rng 47 40 0x1 1 (some 255) false,
      rng 18 0 0x186A0 50000 (some 500000) false]⟩,
   ⟨0x341010, [(4, 0x40)],
     [fld 31 16 .rw 0x7000,
      fld 15 0 .rw 0x1000]⟩,
   ⟨0x341020, [(4, 0x40)],
     [fld 47 32 .rc 0x0,
      fld 2 2 .ro 0x0,
      fld 1 1 .w1c 0x0,
      fld 0 0 .ro 0x1]⟩]

/-- The registers of chapter 11. -/
def regTable11_2 : List RegD :=
  [
   ⟨0x351000, [(16, 0x100)],
     [rng 63 62 0x0 0 (some 2) false,
      fld 61 61 .rw 0x0,
      fld 53 48 .rw 0x0,
      fld 11 0 .rw 0x190]⟩,
   ⟨0x351010, [(16, 0x100)],
     [rng 23 0 0x1E848 400 none false]⟩,
   ⟨0x351020, [(16, 0x100)],
     [fld 63 0 .rw 0x0]⟩,
   ⟨0x351030, [(16, 0x100)],
     [fld 2 2 .ro 0x0,
      fld 1 1 .ro 0x0,
      fld 0 0 .wo 0x0]⟩,
   ⟨0x351040, [(16, 0x100)],
     []⟩,
   ⟨0x351050, [(16, 0x100)],
     [fld 0 0 .wo 0x0]⟩,
   ⟨0x351060, [(16, 0x100)],
     [rng 2 0 0 0 (some 4) false,
      rng 5 3 0 0 (some 4) false,
      rng 8 6 0 0 (some 4) false,
      rng 11 9 0 0 (some 4) false,
      rng 14 12 0 0 (some 4) false,
      rng 17 15 0 0 (some 4) false]⟩,
   ⟨0x351070, [(16, 0x100)],
     [fld 63 48 .rc 0x0,
      fld 3 3 .w1c 0x0,
      fld 2 2 .w1c 0x0,
      fld 1 1 .ro 0x0,
      fld 0 0 .ro 0x0]⟩,
   ⟨0x351080, [(16, 0x100), (6, 0x10)],
     [fld 63 32 .rw 0x0,
      fld 31 0 .rw 0x0]⟩,
   ⟨0x360000, [],
     [fld 63 63 .w1s 0x0,
      fld 31 16 .rw 0xFFFF,
      fld 0 0 .rw 0x1]⟩,
   ⟨0x368000, [],
     [fld 47 32 .ro 0x0,
      fld 3 3 .ro 0x0,
      fld 2 2 .ro 0x0,
      fld 1 1 .ro 0x0,
      fld 0 0 .ro 0x0]⟩,
   ⟨0x368010, [],
     [fld 31 16 .wo 0x0,
      fld 0 0 .wo 0x0]⟩]

/-- The registers of chapter 11. -/
def regTable11_3 : List RegD :=
  [
   ⟨0x368020, [],
     [fld 31 16 .wo 0x0,
      fld 1 1 .wo 0x0,
      fld 0 0 .wo 0x0]⟩]

/-- RLK_CTL (12). -/
def Key.rlkCtl (i : Nat) : Nat := 0x400000 + 0x10000 * i

/-- RLK_STATUS (12). -/
def Key.rlkStatus (i : Nat) : Nat := 0x400010 + 0x10000 * i

/-- RLK_TMO (12). -/
def Key.rlkTmo (i : Nat) : Nat := 0x400020 + 0x10000 * i

/-- RLK_CYCBASE (12). -/
def Key.rlkCycbase (i : Nat) : Nat := 0x400030 + 0x10000 * i

/-- RLK_OUTOFS (12). -/
def Key.rlkOutofs (i : Nat) : Nat := 0x400040 + 0x10000 * i

/-- RLK_OUTGO (12). -/
def Key.rlkOutgo (i : Nat) : Nat := 0x400050 + 0x10000 * i

/-- RLK_IOBASE (12). -/
def Key.rlkIobase (i : Nat) : Nat := 0x400060 + 0x10000 * i

/-- RLK_IOLIM (12). -/
def Key.rlkIolim (i : Nat) : Nat := 0x400070 + 0x10000 * i

/-- RLK_ATBASE (12). -/
def Key.rlkAtbase (i : Nat) : Nat := 0x400080 + 0x10000 * i

/-- RLK_SRRING (12). -/
def Key.rlkSrring (i : Nat) : Nat := 0x400090 + 0x10000 * i

/-- RLK_SRFIN (12). -/
def Key.rlkSrfin (i : Nat) : Nat := 0x4000A0 + 0x10000 * i

/-- RLK_LATE (12). -/
def Key.rlkLate (i : Nat) : Nat := 0x400100 + 0x10000 * i

/-- RLK_MISS (12). -/
def Key.rlkMiss (i : Nat) : Nat := 0x400110 + 0x10000 * i

/-- RLK_FCS (12). -/
def Key.rlkFcs (i : Nat) : Nat := 0x400120 + 0x10000 * i

/-- RLK_OVRN (12). -/
def Key.rlkOvrn (i : Nat) : Nat := 0x400130 + 0x10000 * i

/-- RLK_DROP (12). -/
def Key.rlkDrop (i : Nat) : Nat := 0x400140 + 0x10000 * i

/-- RLK_SRSTAT (12). -/
def Key.rlkSrstat (i : Nat) : Nat := 0x400150 + 0x10000 * i

/-- RLK_DIRBASE (12). -/
def Key.rlkDirbase : Nat := 0x480000

/-- The registers of chapter 12. -/
def regTable12_0 : List RegD :=
  [
   ⟨0x400000, [(8, 0x10000)],
     [fld 63 63 .rw 0x0,
      fld 62 62 .rw 0x0,
      fld 61 61 .rw 0x1,
      fld 60 60 .rw 0x0,
      fld 59 59 .rw 0x0,
      fld 58 58 .wo 0x0]⟩,
   ⟨0x400010, [(8, 0x10000)],
     [fld 63 63 .ro 0x0,
      fld 62 60 .ro 0x0,
      fld 39 32 .ro 0x0,
      fld 15 0 .ro 0x0]⟩,
   ⟨0x400020, [(8, 0x10000)],
     [rng 7 0 0x64 10 (some 200) false]⟩,
   ⟨0x400030, [(8, 0x10000)],
     [fld 63 0 .rw 0x0]⟩,
   ⟨0x400040, [(8, 0x10000)],
     [fld 63 44 .rw 0x0,
      fld 29 16 .rw 0x0,
      fld 7 0 .rw 0x0]⟩,
   ⟨0x400050, [(8, 0x10000)],
     [fld 2 0 .wo 0x0]⟩,
   ⟨0x400060, [(8, 0x10000)],
     [fld 47 14 .rw 0x0]⟩,
   ⟨0x400070, [(8, 0x10000)],
     [fld 47 14 .rw 0x0]⟩,
   ⟨0x400080, [(8, 0x10000)],
     [fld 47 12 .rw 0x0]⟩,
   ⟨0x400090, [(8, 0x10000)],
     [fld 47 17 .rw 0x0]⟩,
   ⟨0x4000A0, [(8, 0x10000)],
     [fld 63 56 .wo 0x0,
      fld 47 4 .wo 0x0,
      fld 0 0 .wo 0x0]⟩,
   ⟨0x400100, [(8, 0x10000)],
     [fld 31 0 .rc 0x0]⟩]

/-- The registers of chapter 12. -/
def regTable12_1 : List RegD :=
  [
   ⟨0x400110, [(8, 0x10000)],
     [fld 31 0 .rc 0x0]⟩,
   ⟨0x400120, [(8, 0x10000)],
     [fld 31 0 .rc 0x0]⟩,
   ⟨0x400130, [(8, 0x10000)],
     [fld 47 32 .rc 0x0,
      fld 31 16 .rc 0x0,
      fld 15 0 .rc 0x0]⟩,
   ⟨0x400140, [(8, 0x10000)],
     [fld 63 48 .rc 0x0,
      fld 47 32 .rc 0x0,
      fld 31 0 .rc 0x0]⟩,
   ⟨0x400150, [(8, 0x10000)],
     [fld 63 48 .rc 0x0,
      fld 47 32 .rc 0x0,
      fld 31 16 .rc 0x0,
      fld 15 0 .rc 0x0]⟩,
   ⟨0x480000, [],
     [fld 47 23 .rw 0x0]⟩]

/-- SA_CFG (13). -/
def Key.saCfg (i : Nat) (j : Nat) : Nat := 0x561000 + 0x1000 * i + 0x100 * j

/-- SA_SCI (13). -/
def Key.saSci (i : Nat) (j : Nat) : Nat := 0x561010 + 0x1000 * i + 0x100 * j

/-- SA_PN (13). -/
def Key.saPn (i : Nat) (j : Nat) : Nat := 0x561020 + 0x1000 * i + 0x100 * j

/-- SA_SSCI (13). -/
def Key.saSsci (i : Nat) (j : Nat) : Nat := 0x561030 + 0x1000 * i + 0x100 * j

/-- SA_KEY (13). -/
def Key.saKey (i : Nat) (j : Nat) (k : Nat) : Nat := 0x561040 + 0x1000 * i + 0x100 * j + 0x10 * k

/-- SA_SALT (13). -/
def Key.saSalt (i : Nat) (j : Nat) (k : Nat) : Nat := 0x561080 + 0x1000 * i + 0x100 * j + 0x10 * k

/-- TSN_CTL (13). -/
def Key.tsnCtl (i : Nat) : Nat := 0x500000 + 0x10000 * i

/-- TSN_STATUS (13). -/
def Key.tsnStatus (i : Nat) : Nat := 0x500010 + 0x10000 * i

/-- TSN_TXRING (13). -/
def Key.tsnTxring (i : Nat) (j : Nat) : Nat := 0x500100 + 0x10000 * i + 0x10 * j

/-- TSN_RXRING (13). -/
def Key.tsnRxring (i : Nat) (j : Nat) : Nat := 0x500200 + 0x10000 * i + 0x10 * j

/-- TSN_RXMAP (13). -/
def Key.tsnRxmap (i : Nat) : Nat := 0x500300 + 0x10000 * i

/-- TSN_GCLCTL (13). -/
def Key.tsnGclctl (i : Nat) : Nat := 0x500400 + 0x10000 * i

/-- TSN_GCLBASE (13). -/
def Key.tsnGclbase (i : Nat) : Nat := 0x500410 + 0x10000 * i

/-- TSN_GCL (13). -/
def Key.tsnGcl (i : Nat) (j : Nat) : Nat := 0x501000 + 0x10000 * i + 0x10 * j

/-- TSN_RXNOBUF (13). -/
def Key.tsnRxnobuf (i : Nat) : Nat := 0x500800 + 0x10000 * i

/-- TSN_RXERR (13). -/
def Key.tsnRxerr (i : Nat) : Nat := 0x500810 + 0x10000 * i

/-- TSN_TXDROP (13). -/
def Key.tsnTxdrop (i : Nat) : Nat := 0x500820 + 0x10000 * i

/-- PCIE_CTL (13). -/
def Key.pcieCtl : Nat := 0x600000

/-- PCIE_STAT (13). -/
def Key.pcieStat : Nat := 0x600010

/-- PCIE_CTO (13). -/
def Key.pcieCto : Nat := 0x600020

/-- PCIE_INWIN (13). -/
def Key.pcieInwin (i : Nat) : Nat := 0x600100 + 0x20 * i

/-- PCIE_INLIM (13). -/
def Key.pcieInlim (i : Nat) : Nat := 0x600110 + 0x20 * i

/-- PCIE_LATE (13). -/
def Key.pcieLate : Nat := 0x600200

/-- PCIE_ERRLOG (13). -/
def Key.pcieErrlog : Nat := 0x600210

/-- PCIE_CNT (13). -/
def Key.pcieCnt : Nat := 0x600220

/-- HSE_CKBASE (13). -/
def Key.hseCkbase : Nat := 0x610000

/-- HSE_CKCTL (13). -/
def Key.hseCkctl : Nat := 0x610010

/-- HSE_CKDONE (13). -/
def Key.hseCkdone : Nat := 0x610020

/-- HSE_CTL (13). -/
def Key.hseCtl : Nat := 0x618000

/-- HSE_EPOCH (13). -/
def Key.hseEpoch : Nat := 0x618010

/-- HSE_BUF (13). -/
def Key.hseBuf : Nat := 0x618020

/-- HSE_ZT (13). -/
def Key.hseZt : Nat := 0x618030

/-- HSE_ZTLIM (13). -/
def Key.hseZtlim : Nat := 0x618040

/-- HSE_SQ (13). -/
def Key.hseSq (i : Nat) : Nat := 0x618100 + 0x10 * i

/-- HSE_RDQ (13). -/
def Key.hseRdq : Nat := 0x618180

/-- HSE_TIER (13). -/
def Key.hseTier (i : Nat) : Nat := 0x618200 + 0x10 * i

/-- HSE_DRVSQ (13). -/
def Key.hseDrvsq (i : Nat) : Nat := 0x618400 + 0x40 * i

/-- HSE_DRVCQ (13). -/
def Key.hseDrvcq (i : Nat) : Nat := 0x618410 + 0x40 * i

/-- HSE_DRVDB (13). -/
def Key.hseDrvdb (i : Nat) : Nat := 0x618420 + 0x40 * i

/-- HSE_DRVCTL (13). -/
def Key.hseDrvctl (i : Nat) : Nat := 0x618430 + 0x40 * i

/-- HSE_DRVSTAT (13). -/
def Key.hseDrvstat (i : Nat) : Nat := 0x618800 + 0x10 * i

/-- HSE_CNT (13). -/
def Key.hseCnt : Nat := 0x618900

/-- HSE_LATE (13). -/
def Key.hseLate : Nat := 0x618910

/-- The registers of chapter 13. -/
def regTable13_0 : List RegD :=
  [
   ⟨0x561000, [(6, 0x1000), (16, 0x100)],
     [fld 63 63 .rw 0x0,
      fld 62 62 .rw 0x0,
      fld 61 61 .rw 0x0,
      fld 60 60 .rw 0x0,
      fld 57 56 .rw 0x0]⟩,
   ⟨0x561010, [(6, 0x1000), (16, 0x100)],
     [fld 63 0 .rw 0x0]⟩,
   ⟨0x561020, [(6, 0x1000), (16, 0x100)],
     [fld 63 0 .rw 0x1]⟩,
   ⟨0x561030, [(6, 0x1000), (16, 0x100)],
     [fld 31 0 .rw 0x0]⟩,
   ⟨0x561040, [(6, 0x1000), (16, 0x100), (4, 0x10)],
     [fld 63 0 .wo 0x0]⟩,
   ⟨0x561080, [(6, 0x1000), (16, 0x100), (2, 0x10)],
     [fld 63 0 .wo 0x0]⟩,
   ⟨0x500000, [(6, 0x10000)],
     [fld 63 63 .rw 0x0,
      fld 62 62 .rw 0x0,
      fld 61 61 .rw 0x0,
      fld 60 60 .rw 0x0]⟩,
   ⟨0x500010, [(6, 0x10000)],
     [fld 63 63 .ro 0x0]⟩,
   ⟨0x500100, [(6, 0x10000), (8, 0x10)],
     [rng 63 60 0x4 4 (some 12) false,
      fld 47 5 .rw 0x0]⟩,
   ⟨0x500200, [(6, 0x10000), (4, 0x10)],
     [rng 63 60 0x4 4 (some 12) false,
      rng 59 58 0x0 0 (some 2) false,
      fld 47 5 .rw 0x0]⟩,
   ⟨0x500300, [(6, 0x10000)],
     [fld 15 0 .rw 0x0]⟩,
   ⟨0x500400, [(6, 0x10000)],
     [fld 63 63 .rw 0x0,
      rng 8 0 0x1 1 (some 256) false]⟩]

/-- The registers of chapter 13. -/
def regTable13_1 : List RegD :=
  [
   ⟨0x500410, [(6, 0x10000)],
     [fld 63 0 .rw 0x0]⟩,
   ⟨0x501000, [(6, 0x10000), (256, 0x10)],
     [rng 63 32 0x0 100 none true,
      fld 7 0 .rw 0xFF]⟩,
   ⟨0x500800, [(6, 0x10000)],
     [fld 31 0 .rc 0x0]⟩,
   ⟨0x500810, [(6, 0x10000)],
     [fld 31 0 .rc 0x0]⟩,
   ⟨0x500820, [(6, 0x10000)],
     [fld 31 0 .rc 0x0]⟩,
   ⟨0x600000, [],
     [fld 63 63 .rw 0x0,
      fld 62 61 .rw 0x3,
      fld 60 59 .rw 0x0,
      fld 58 58 .rw 0x1]⟩,
   ⟨0x600010, [],
     [fld 63 63 .ro 0x0,
      fld 62 61 .ro 0x0,
      fld 60 59 .ro 0x0]⟩,
   ⟨0x600020, [],
     [rng 5 0 0xA 1 (some 50) false]⟩,
   ⟨0x600100, [(4, 0x20)],
     [fld 63 63 .rw 0x0,
      rng 62 61 0x0 0 (some 2) false,
      fld 47 14 .rw 0x0]⟩,
   ⟨0x600110, [(4, 0x20)],
     [fld 47 14 .rw 0x0]⟩,
   ⟨0x600200, [],
     [fld 31 0 .rc 0x0]⟩,
   ⟨0x600210, [],
     [fld 63 63 .w1c 0x0,
      fld 62 62 .w1c 0x0,
      fld 50 48 .ro 0x0,
      fld 47 4 .ro 0x0]⟩]

/-- The registers of chapter 13. -/
def regTable13_2 : List RegD :=
  [
   ⟨0x600220, [],
     [fld 63 48 .rc 0x0,
      fld 47 32 .rc 0x0,
      fld 31 0 .rc 0x0]⟩,
   ⟨0x610000, [],
     [fld 47 10 .rw 0x0]⟩,
   ⟨0x610010, [],
     [fld 63 63 .rw 0x0,
      rng 15 0 0x3C 1 (some 3600) false]⟩,
   ⟨0x610020, [],
     [fld 1 0 .wo 0x0]⟩,
   ⟨0x618000, [],
     [fld 63 63 .rw 0x0,
      rng 41 32 0x64 1 (some 1000) false,
      rng 15 0 0x3E8 100 (some 10000) false]⟩,
   ⟨0x618010, [],
     [fld 63 0 .rw 0x0]⟩,
   ⟨0x618020, [],
     [fld 47 20 .rw 0x0]⟩,
   ⟨0x618030, [],
     [fld 47 14 .rw 0x0]⟩,
   ⟨0x618040, [],
     [fld 31 0 .rw 0x0]⟩,
   ⟨0x618100, [(8, 0x10)],
     [rng 63 60 0x4 4 (some 12) false,
      fld 59 58 .rw 0x0,
      fld 47 9 .rw 0x0]⟩,
   ⟨0x618180, [],
     [rng 63 60 0x4 4 (some 12) false,
      fld 47 5 .rw 0x0]⟩,
   ⟨0x618200, [(4, 0x10)],
     [fld 63 63 .rw 0x0,
      fld 31 0 .rw 0x0]⟩]

/-- The registers of chapter 13. -/
def regTable13_3 : List RegD :=
  [
   ⟨0x618400, [(16, 0x40)],
     [rng 63 52 0x0 16 (some 1024) false,
      fld 47 12 .rw 0x0]⟩,
   ⟨0x618410, [(16, 0x40)],
     [fld 47 12 .rw 0x0]⟩,
   ⟨0x618420, [(16, 0x40)],
     [fld 63 60 .rw 0x0,
      fld 47 2 .rw 0x0]⟩,
   ⟨0x618430, [(16, 0x40)],
     [fld 63 63 .rw 0x0,
      fld 62 62 .w1s 0x0,
      fld 31 0 .rw 0x0]⟩,
   ⟨0x618800, [(16, 0x10)],
     [fld 63 61 .ro 0x0,
      fld 47 0 .ro 0x0]⟩,
   ⟨0x618900, [],
     [fld 47 32 .rc 0x0,
      fld 31 16 .rc 0x0,
      fld 15 0 .rc 0x0]⟩,
   ⟨0x618910, [],
     [fld 31 0 .rc 0x0]⟩]

/-- PAIR_CTL (14). -/
def Key.pairCtl : Nat := 0x620000

/-- PAIR_MREG (14). -/
def Key.pairMreg (i : Nat) : Nat := 0x620100 + 0x10 * i

/-- PAIR_MLIM (14). -/
def Key.pairMlim (i : Nat) : Nat := 0x620180 + 0x10 * i

/-- PAIR_STATUS (14). -/
def Key.pairStatus : Nat := 0x628000

/-- PAIR_PEER (14). -/
def Key.pairPeer : Nat := 0x628010

/-- PAIR_MAXLAT (14). -/
def Key.pairMaxlat : Nat := 0x628020

/-- PAIR_SYNCPROG (14). -/
def Key.pairSyncprog : Nat := 0x628030

/-- PAIR_CNT (14). -/
def Key.pairCnt : Nat := 0x628040

/-- PAIR_LATE (14). -/
def Key.pairLate : Nat := 0x628050

/-- The registers of chapter 14. -/
def regTable14_0 : List RegD :=
  [
   ⟨0x620000, [],
     [fld 63 63 .rw 0x0,
      fld 62 62 .rw 0x1,
      fld 61 61 .rw 0x1,
      fld 60 60 .rw 0x0,
      fld 59 58 .rw 0x0,
      rng 15 0 0x14 5 (some 1000) false]⟩,
   ⟨0x620100, [(8, 0x10)],
     [fld 63 63 .rw 0x0,
      fld 47 16 .rw 0x0]⟩,
   ⟨0x620180, [(8, 0x10)],
     [fld 47 16 .rw 0x0]⟩,
   ⟨0x628000, [],
     [fld 63 62 .ro 0x0,
      fld 61 60 .ro 0x0,
      fld 59 59 .ro 0x0,
      fld 58 58 .ro 0x0,
      fld 57 57 .ro 0x0,
      fld 56 56 .ro 0x0,
      fld 49 48 .ro 0x0,
      fld 31 0 .ro 0x0]⟩,
   ⟨0x628010, [],
     [fld 63 0 .ro 0x0]⟩,
   ⟨0x628020, [],
     [fld 31 0 .rc 0x0]⟩,
   ⟨0x628030, [],
     [fld 31 0 .ro 0x0]⟩,
   ⟨0x628040, [],
     [fld 63 48 .rc 0x0,
      fld 47 32 .rc 0x0,
      fld 31 0 .rc 0x0]⟩,
   ⟨0x628050, [],
     [fld 31 0 .rc 0x0]⟩]

/-- L3_SECWIN (15). -/
def Key.l3Secwin (i : Nat) : Nat := 0x200100 + 0x10 * i

/-- L3_SECLIM (15). -/
def Key.l3Seclim (i : Nat) : Nat := 0x200180 + 0x10 * i

/-- EVR_HSVC (15). -/
def Key.evrHsvc (i : Nat) : Nat := 0x66000 + 0x10 * i

/-- CRY_QS (15). -/
def Key.cryQs (i : Nat) : Nat := 0x50000 + 0x10 * i

/-- CRY_KWORLD (15). -/
def Key.cryKworld : Nat := 0x50100

/-- CRY_KSTAT (15). -/
def Key.cryKstat (i : Nat) : Nat := 0x51000 + 0x20 * i

/-- CRY_KNRES (15). -/
def Key.cryKnres (i : Nat) : Nat := 0x51010 + 0x20 * i

/-- CRY_KNCTR (15). -/
def Key.cryKnctr (i : Nat) : Nat := 0x53000 + 0x10 * i

/-- CRY_LATE (15). -/
def Key.cryLate : Nat := 0x58200

/-- KEYW_LC (15). -/
def Key.keywLc : Nat := 0x30000

/-- KEYW_SERIAL (15). -/
def Key.keywSerial : Nat := 0x30010

/-- KEYW_PART (15). -/
def Key.keywPart : Nat := 0x30020

/-- KEYW_BOOT (15). -/
def Key.keywBoot : Nat := 0x30030

/-- KEYW_DBG (15). -/
def Key.keywDbg : Nat := 0x30040

/-- KEYW_KEYST (15). -/
def Key.keywKeyst : Nat := 0x30050

/-- KEYW_KHASH (15). -/
def Key.keywKhash (i : Nat) : Nat := 0x30100 + 0x10 * i

/-- KEYW_CTR (15). -/
def Key.keywCtr (i : Nat) : Nat := 0x30200 + 0x10 * i

/-- KEYW_CTRUSE (15). -/
def Key.keywCtruse (i : Nat) : Nat := 0x30300 + 0x10 * i

/-- CRY_QN (15). -/
def Key.cryQn (i : Nat) : Nat := 0x58000 + 0x10 * i

/-- The registers of chapter 15. -/
def regTable15_0 : List RegD :=
  [
   ⟨0x200100, [(8, 0x10)],
     [fld 63 63 .rw 0x0,
      fld 62 62 .ro 0x0,
      fld 47 24 .rw 0x0]⟩,
   ⟨0x200180, [(8, 0x10)],
     [fld 47 24 .rw 0x0]⟩,
   ⟨0x66000, [(256, 0x10)],
     [fld 63 63 .rw 0x0,
      fld 9 0 .rw 0x0]⟩,
   ⟨0x50000, [(4, 0x10)],
     [rng 63 60 0x4 4 (some 12) false,
      fld 59 59 .rw 0x0,
      fld 47 6 .rw 0x0]⟩,
   ⟨0x50100, [],
     [fld 63 0 .rw 0xFFFFFFFFFFFFFFFF]⟩,
   ⟨0x51000, [(64, 0x20)],
     [fld 63 63 .ro 0x0,
      fld 59 56 .ro 0x0,
      fld 55 55 .ro 0x0,
      fld 31 0 .ro 0x0]⟩,
   ⟨0x51010, [(64, 0x20)],
     [fld 63 0 .rw 0x0]⟩,
   ⟨0x53000, [(64, 0x10)],
     [fld 63 0 .ro 0x0]⟩,
   ⟨0x58200, [],
     [fld 31 0 .rc 0x0]⟩,
   ⟨0x30000, [],
     [fld 15 12 .ro 0x0,
      fld 8 8 .ro 0x0,
      fld 2 0 .ro 0x0]⟩,
   ⟨0x30010, [],
     [fld 63 0 .ro 0x0]⟩,
   ⟨0x30020, [],
     [fld 31 16 .ro 0x0,
      fld 15 12 .ro 0x0,
      fld 11 8 .ro 0x0,
      fld 6 4 .ro 0x0,
      fld 2 0 .ro 0x0]⟩]

/-- The registers of chapter 15. -/
def regTable15_1 : List RegD :=
  [
   ⟨0x30030, [],
     [fld 0 0 .ro 0x0]⟩,
   ⟨0x30040, [],
     [fld 36 32 .ro 0x0,
      fld 28 24 .ro 0x0,
      fld 20 16 .ro 0x0,
      fld 12 8 .ro 0x0,
      fld 4 0 .ro 0x0]⟩,
   ⟨0x30050, [],
     [fld 32 32 .ro 0x0,
      fld 31 24 .ro 0x0,
      fld 23 20 .ro 0x0,
      fld 19 16 .ro 0x0,
      fld 15 0 .ro 0x0,
      fld 33 33 .ro 0x0]⟩,
   ⟨0x30100, [(6, 0x10)],
     [fld 63 0 .ro 0x0]⟩,
   ⟨0x30200, [(16, 0x10)],
     [fld 63 0 .ro 0x0]⟩,
   ⟨0x30300, [(16, 0x10)],
     [fld 8 0 .ro 0x0]⟩,
   ⟨0x58000, [(4, 0x10)],
     [rng 63 60 0x4 4 (some 12) false,
      fld 59 59 .rw 0x0,
      fld 47 6 .rw 0x0]⟩]

/-- CORE_RELEASE (16). -/
def Key.coreRelease : Nat := 0x70010

/-- SYS_RELVEC (16). -/
def Key.sysRelvec : Nat := 0x70020

/-- SYS_BOOTSTAT (16). -/
def Key.sysBootstat : Nat := 0x70030

/-- SYS_RSTCAUSE (16). -/
def Key.sysRstcause : Nat := 0x70040

/-- SYS_RSTDUR (16). -/
def Key.sysRstdur : Nat := 0x70050

/-- The registers of chapter 16. -/
def regTable16_0 : List RegD :=
  [
   ⟨0x70010, [],
     [fld 47 0 .w1s 0x0]⟩,
   ⟨0x70020, [],
     [fld 47 0 .rw 0x0]⟩,
   ⟨0x70030, [],
     [fld 63 63 .ro 0x0,
      fld 62 62 .ro 0x0,
      fld 61 60 .ro 0x0,
      fld 59 56 .ro 0x0,
      fld 55 48 .ro 0x0,
      fld 47 40 .ro 0x0,
      fld 39 32 .ro 0x0,
      fld 3 0 .ro 0x0]⟩,
   ⟨0x70040, [],
     [fld 5 5 .w1c 0x0,
      fld 3 3 .w1c 0x0,
      fld 2 2 .w1c 0x0,
      fld 1 1 .w1c 0x0,
      fld 0 0 .w1c 0x0]⟩,
   ⟨0x70050, [],
     [fld 31 0 .ro 0x0]⟩]

/-- SETT_REQ (17). -/
def Key.settReq (i : Nat) (j : Nat) : Nat := 0x0 + 0x1000 * i + 0x10 * j

/-- SETT_RSP (17). -/
def Key.settRsp (i : Nat) (j : Nat) : Nat := 0x200 + 0x1000 * i + 0x10 * j

/-- SETT_MBCTL (17). -/
def Key.settMbctl (i : Nat) : Nat := 0x400 + 0x1000 * i

/-- SETT_CMPL (17). -/
def Key.settCmpl (i : Nat) : Nat := 0x410 + 0x1000 * i

/-- SETT_LATE (17). -/
def Key.settLate : Nat := 0xC000

/-- PWR_C4 (17). -/
def Key.pwrC4 : Nat := 0x10000

/-- PWR_WAKEVEC (17). -/
def Key.pwrWakevec : Nat := 0x10010

/-- PWR_CWAKE (17). -/
def Key.pwrCwake : Nat := 0x10020

/-- PWR_PKGTOL (17). -/
def Key.pwrPkgtol : Nat := 0x10030

/-- PWR_CTOL (17). -/
def Key.pwrCtol (i : Nat) : Nat := 0x18000 + 0x10 * i

/-- PWR_CSTAT (17). -/
def Key.pwrCstat (i : Nat) : Nat := 0x18100 + 0x10 * i

/-- THM_TLIM (17). -/
def Key.thmTlim : Nat := 0x20000

/-- THM_RTMIN (17). -/
def Key.thmRtmin : Nat := 0x20010

/-- THM_FLOOR (17). -/
def Key.thmFloor (i : Nat) : Nat := 0x20100 + 0x10 * i

/-- THM_TEMP (17). -/
def Key.thmTemp (i : Nat) : Nat := 0x28000 + 0x10 * i

/-- THM_STAT (17). -/
def Key.thmStat : Nat := 0x28100

/-- The registers of chapter 17. -/
def regTable17_0 : List RegD :=
  [
   ⟨0x0, [(2, 0x8000), (4, 0x1000), (32, 0x10)],
     [fld 63 0 .rw 0x0]⟩,
   ⟨0x200, [(2, 0x8000), (4, 0x1000), (32, 0x10)],
     [fld 63 0 .ro 0x0]⟩,
   ⟨0x400, [(2, 0x8000), (4, 0x1000)],
     [fld 4 4 .w1c 0x0,
      fld 3 3 .ro 0x0,
      fld 2 2 .w1c 0x0,
      fld 1 1 .ro 0x0,
      fld 0 0 .wo 0x0]⟩,
   ⟨0x410, [(2, 0x8000), (4, 0x1000)],
     [fld 63 32 .ro 0x0,
      fld 31 16 .ro 0x0,
      fld 15 8 .ro 0x0,
      fld 7 0 .ro 0x0]⟩,
   ⟨0xC000, [],
     [fld 31 0 .rc 0x0]⟩,
   ⟨0x10000, [],
     [fld 63 63 .rw 0x0,
      fld 37 32 .rw 0x0,
      fld 31 0 .rw 0x0]⟩,
   ⟨0x10010, [],
     [fld 47 0 .rw 0x0]⟩,
   ⟨0x10020, [],
     [fld 11 0 .wo 0x0]⟩,
   ⟨0x10030, [],
     [fld 31 0 .rw 0xFFFFFFFF]⟩,
   ⟨0x18000, [(12, 0x10)],
     [fld 31 0 .rw 0xFFFFFFFF]⟩,
   ⟨0x18100, [(12, 0x10)],
     [fld 63 48 .ro 0x0,
      fld 47 32 .ro 0x190,
      fld 15 0 .ro 0x0]⟩,
   ⟨0x20000, [],
     [rng 7 0 0x73 85 (some 125) false]⟩]

/-- The registers of chapter 17. -/
def regTable17_1 : List RegD :=
  [
   ⟨0x20010, [],
     [fld 31 0 .rw 0xFFFFFFFF]⟩,
   ⟨0x20100, [(12, 0x10)],
     [fld 15 0 .rw 0x190]⟩,
   ⟨0x28000, [(16, 0x10)],
     [fld 31 16 .rc 0x0,
      fld 15 0 .ro 0x0]⟩,
   ⟨0x28100, [],
     [fld 13 13 .w1c 0x0,
      fld 12 12 .ro 0x0,
      fld 11 0 .ro 0x0]⟩]

/-- L3_WAYRET (18). -/
def Key.l3Wayret (i : Nat) : Nat := 0x200030 + 0x10000 * i

/-- BDG_CFG (18). -/
def Key.bdgCfg : Nat := 0x40000

/-- BDG_CORESAFE (18). -/
def Key.bdgCoresafe : Nat := 0x40010

/-- BDG_CRTCTL (18). -/
def Key.bdgCrtctl : Nat := 0x40020

/-- BDG_RELEASE (18). -/
def Key.bdgRelease : Nat := 0x40030

/-- BDG_CHCFG (18). -/
def Key.bdgChcfg (i : Nat) : Nat := 0x41000 + 0x20 * i

/-- BDG_CHTID (18). -/
def Key.bdgChtid (i : Nat) : Nat := 0x41010 + 0x20 * i

/-- BDG_STAT (18). -/
def Key.bdgStat : Nat := 0x48000

/-- BDG_SLATE (18). -/
def Key.bdgSlate : Nat := 0x48010

/-- BDG_CRTSTAT (18). -/
def Key.bdgCrtstat : Nat := 0x48020

/-- BDG_CRTFAIL (18). -/
def Key.bdgCrtfail : Nat := 0x48030

/-- BDG_HBLATE (18). -/
def Key.bdgHblate (i : Nat) : Nat := 0x48100 + 0x10 * i

/-- BDG_CHA (18). -/
def Key.bdgCha (i : Nat) : Nat := 0x4A000 + 0x20 * i

/-- BDG_CHB (18). -/
def Key.bdgChb (i : Nat) : Nat := 0x4A010 + 0x20 * i

/-- BDG_CHSTAT (18). -/
def Key.bdgChstat (i : Nat) : Nat := 0x4C000 + 0x10 * i

/-- The registers of chapter 18. -/
def regTable18_0 : List RegD :=
  [
   ⟨0x200030, [(12, 0x10000)],
     [fld 63 63 .ro 0x0,
      fld 15 0 .w1s 0x0]⟩,
   ⟨0x40000, [],
     [fld 63 63 .rw 0x0,
      rng 15 0 0x10 1 (some 65535) false]⟩,
   ⟨0x40010, [],
     [fld 47 0 .rw 0x0]⟩,
   ⟨0x40020, [],
     [fld 63 63 .rw 0x1,
      rng 9 0 0x0 512 (some 1023) true]⟩,
   ⟨0x40030, [],
     [fld 15 0 .wo 0x0]⟩,
   ⟨0x41000, [(32, 0x20)],
     [fld 63 63 .rw 0x0,
      fld 62 62 .rw 0x0,
      fld 47 32 .rw 0x0,
      rng 25 16 0xA 1 (some 1000) false,
      rng 13 0 0x3E8 10 (some 9000) false]⟩,
   ⟨0x41010, [(32, 0x20)],
     [fld 25 16 .rw 0x0,
      fld 9 0 .rw 0x10]⟩,
   ⟨0x48000, [],
     [fld 63 63 .ro 0x1,
      fld 62 62 .ro 0x1,
      fld 55 48 .ro 0xF,
      fld 47 32 .ro 0x0,
      fld 0 0 .w1c 0x0]⟩,
   ⟨0x48010, [],
     [fld 31 0 .rc 0x0]⟩,
   ⟨0x48020, [],
     [fld 61 56 .ro 0x0,
      fld 47 0 .ro 0x0]⟩,
   ⟨0x48030, [],
     [fld 47 0 .ro 0x0]⟩,
   ⟨0x48100, [(48, 0x10)],
     [fld 31 0 .rc 0x0]⟩]

/-- The registers of chapter 18. -/
def regTable18_1 : List RegD :=
  [
   ⟨0x4A000, [(32, 0x20)],
     [fld 63 0 .wo 0x0]⟩,
   ⟨0x4A010, [(32, 0x20)],
     [fld 63 0 .wo 0x0]⟩,
   ⟨0x4C000, [(32, 0x10)],
     [fld 63 63 .w1c 0x0,
      fld 62 61 .ro 0x0,
      fld 31 0 .rc 0x0]⟩]

/-- Every memory-mapped register with a row in a register table of the spec. -/
def regTable : List RegD :=
  regTable01_0 ++ regTable07_0 ++ regTable09_0 ++ regTable10_0 ++ regTable11_0 ++ regTable11_1 ++ regTable11_2 ++ regTable11_3 ++ regTable12_0 ++ regTable12_1 ++ regTable13_0 ++ regTable13_1 ++ regTable13_2 ++ regTable13_3 ++ regTable14_0 ++ regTable15_0 ++ regTable15_1 ++ regTable16_0 ++ regTable17_0 ++ regTable17_1 ++ regTable18_0 ++ regTable18_1

/-- Whether offset x lies at some index of the family. -/
def dimsHit : List (Nat × Nat) → Nat → Bool
  | [], x => x == 0
  | (n, st) :: ds, x => x / st < n && dimsHit ds (x % st)

/-- The register at offset k of the MMIO window. -/
def regAt (k : Nat) : Option RegD :=
  regTable.find? (fun d => d.base ≤ k && dimsHit d.dims (k - d.base))

/-- The reset value that the tables give a register. -/
def RegD.resetVal (d : RegD) : W64 :=
  d.fields.foldl (fun v f => v ||| (BitVec.ofNat 64 f.rst <<< f.lo)) 0

/-- SD_CFG.LEAD of input n resets to n (11 R377); every other register to what its table gives. -/
def regReset (k : Nat) : W64 :=
  match regAt k with
  | none => 0
  | some d =>
    if d.base = Key.sdCfg 0 then d.resetVal ||| (BitVec.ofNat 64 ((k - d.base) / 0x40) <<< 16) else d.resetVal

/-- Whether a field accepts an encoding (00 R5). -/
def RegF.legal (f : RegF) (v : Nat) : Bool :=
  (f.min ≤ v && (match f.max with | none => true | some m => v ≤ m)) || (f.orZero && v == 0)

/-- The bits of a field. -/
def RegF.mask (f : RegF) : W64 := ((1#64 <<< (f.hi + 1 - f.lo)) - 1#64) <<< f.lo

/-- What writing v to a field leaves of the register's value (00 R4, R5). -/
def RegF.write (f : RegF) (v old : W64) : W64 :=
  match f.acc with
  | .rw => if f.legal ((v &&& f.mask).toNat >>> f.lo) then (old &&& ~~~ f.mask) ||| (v &&& f.mask) else old
  | .w1c => old &&& ~~~ (v &&& f.mask)
  | .w1s => old ||| (v &&& f.mask)
  | _ => old

/-- What writing v to a register leaves of its value, field by field. -/
def RegD.write (d : RegD) (v old : W64) : W64 := d.fields.foldl (fun o f => f.write v o) old

/-- The bits a read returns: every field but those that are write-only (00 R4). -/
def RegD.readMask (d : RegD) : W64 :=
  d.fields.foldl (fun m f => if f.acc = .wo then m else m ||| f.mask) 0

/-- The bits a read clears (00 R4). -/
def RegD.clearMask (d : RegD) : W64 :=
  d.fields.foldl (fun m f => if f.acc = .rc then m ||| f.mask else m) 0

end Sys2Proof.Machine
end

