-- ==== Sys2Proof/Machine/UnitState.lean ====
section
/-! DEFINITION. The state of the units outside the cores, as plain data, beyond what their registers hold: control IO (11),
Rinolink (12), plant network, PCIe and historian (13), pair link (14), crypto engine and debug (15), boot and reset (16), Sett (17),
Badger (18) and the balls (19). -/

namespace Sys2Proof.Machine

/-! ## Control IO (11) -/

/-- A sigma-delta input (11 R371 to R376): its last bits, newest first; how many have entered since EN or a restart; whether it has
left the settling state; its last sample; boundaries since EN counted for DELIV; the boundary that aligned a lead's window to a sync
instant; the instants of its last boundary and of a sync instant that no boundary has met yet; boundaries since EN (R386); whether the
fast comparator's output is over range; the instant of its last boundary, or of its start, or of a stop of its clock; and the bits of
its window before that stop. Instants are in units of 2^-32 ns. -/
structure SdIn where
  hist : List Bool := []
  entered : Nat := 0
  settled : Bool := false
  sample : BitVec 32 := 0
  deliv : Nat := 0
  alignB : Option Nat := none
  lastB : Option Nat := none
  syncAt : Option Nat := none
  bounds : Nat := 0
  overRange : Bool := false
  last : Nat := 0
  part : Nat := 0
deriving DecidableEq, Repr

/-- An encoder interface (11 R382 to R384): the filtered levels of A and B, what happened since the last delivery, the SSI frame in
progress by the NOW of its trigger, the end of its monoflop time, and the last good frame's position and timestamp. -/
structure EncIf where
  a : Bool := false
  b : Bool := false
  zSince : Bool := false
  qSince : Bool := false
  frame : Option Nat := none
  monoUntil : Nat := 0
  pos : W64 := 0
  ts : BitVec 32 := 0
deriving DecidableEq, Repr

/-- A resolver channel (11 R386, R387): consecutive periods of good tracking, whether it has settled, periods counted for DELIV, and
the boundary counts of its two inputs at the end of the last period, whether that period held too few, and the instant at which the
period in progress ends, in units of 2^-32 ns. -/
structure ResCh where
  good : Nat := 0
  settled : Bool := false
  deliv : Nat := 0
  snapSin : Nat := 0
  snapCos : Nat := 0
  few : Bool := false
  endAt : Nat := 0
deriving DecidableEq, Repr

/-- A gate pattern (11 R394, R395): the clamped compare values of COMP3, or the rise and fall times of the six channels. -/
inductive Pattern where
  | comp (c0 c1 c2 : Nat)
  | edges (rf : List (Nat × Nat))
deriving DecidableEq, Repr

/-- A pattern accepted and not yet applied: when it was sent, in units of 2^-32 ns, and whether the unit was running then (11 R396, R397). -/
structure Staged where
  pat : Pattern
  sent : Nat
  early : Bool
deriving DecidableEq, Repr

/-- A gate unit (11 R392 to R403): armed or running, the index of its next carrier event (even a boundary, odd a centre), a STOP
that waits for the boundary, the pattern applied and those staged, the channels on, when each last turned off in units of
250 ps of NOW, the legs whose two channels overlap, and whether an inhibit or trip still holds the outputs to the next
boundary. -/
structure GateUnit where
  armed : Bool := false
  run : Bool := false
  next : Nat := 0
  stopping : Bool := false
  pat : Option Pattern := none
  staged : List Staged := []
  on : BitVec 6 := 0
  offAt : Tab Nat := []
  overlap : BitVec 3 := 0
  hold : Bool := false
deriving DecidableEq, Repr

/-- The control IO (11 R365 to R404): NOW with its fraction in units of 2^-32 ns, what a slew has left to absorb in the same units,
compare units whose AT had passed when armed with the instant of the next tick, the internal modulator clocks with the instant from
which they run, the inputs, the ADC's running and queued sequences, the encoders, the resolvers, the
gate units, the latched inhibits and trips, the levels of the inhibit and fault balls, the pair hold (14 R469), and the units whose MODE has
been written other than 0 since device reset (19 R620). -/
structure Cio where
  now : Nat := 0
  slew : Int := 0
  past : Tab Nat := []
  sdFrom : Tab Nat := []
  sd : Tab SdIn := []
  adcRun : Option Nat := none
  adcQueue : List Nat := []
  enc : Tab EncIf := []
  res : Tab ResCh := []
  gu : Tab GateUnit := []
  inhPin : Bool := false
  inhSw : Bool := false
  inhBdg : Bool := false
  utrip : BitVec 16 := 0
  pinLow : Bool := false
  fltLow : BitVec 16 := 0
  pairHold : Bool := true
  driven : BitVec 16 := 0
deriving DecidableEq, Repr

/-! ## Rinolink (12) -/

/-- A frame that a port has to send (12 R411, R416): cut names a fragment that ends with the complement of its FCS. -/
structure TxFrame where
  f : RFrame
  cut : Bool
deriving DecidableEq, Repr

/-- A concentrator of a line (12 R429 to R434): its serial number, whether it is enumerated, rejected, uploaded, keeps its directory
entries, has its areas, and whether it is ABSENT. -/
structure RConc where
  serial : BitVec 32 := 0
  enumed : Bool := false
  rejected : Bool := false
  uploaded : Bool := false
  keep : Bool := false
  absent : Bool := false
deriving DecidableEq, Repr

/-- What a class of cycles does (12 R417 to R420). -/
inductive RPhase where
  | idle | input | between | output
deriving DecidableEq, Repr

/-- A class of cycles (12 R417 to R422): the number of the next cycle once service has started; the phase, its cycle number and its
start's timestamp; the concentrators that still owe an answer and those that took part; those that went ABSENT after their input with outputs enabled;
whether the offset has passed, and the cycle that waits for the phase to end. -/
structure RCls where
  nextK : Option Nat := none
  phase : RPhase := .idle
  seq : Nat := 0
  stamp : Nat := 0
  waiting : List Nat := []
  took : List Nat := []
  lost : List (Nat × Nat) := []
  ofsDone : Bool := false
  deferred : Option Nat := none
deriving DecidableEq, Repr

/-- A service request that awaits its answer (12 R425): its frame, the timestamp of its end, its descriptor as read. -/
structure RSrq where
  f : RFrame
  stamp : Nat
  desc : TWord
deriving DecidableEq, Repr

/-- A Rinolink port (12 R410 to R437): link, STATE, concentrators, round-trip delay, the address that DISC offers, the concentrator
that DIRQ asks, the classes, where areas are allocated next, whether cyclic service is on, the request ring's next entry, the end
of the previous request, the requests to answer, the frames to send with the bytes of the first that are on the line, the nodes
changed since the last input phase ended, and the cycle of each node's last good input, both by directory index. -/
structure RPort where
  link : Bool := false
  st : Nat := 0
  nconc : Nat := 0
  dirc : Nat := 0
  rtd : Nat := 0
  disc : Option Nat := none
  dirq : Option Nat := none
  concs : Tab RConc := []
  cls : Tab RCls := []
  alloc : Nat := 0
  service : Bool := false
  ring : Nat := 0
  prevSrq : Option Nat := none
  srqs : List RSrq := []
  tx : List TxFrame := []
  txBytes : Nat := 0
  changed : List Nat := []
  good : Tab Nat := []
deriving DecidableEq, Repr

/-! ## The pair link (14) -/

/-- A record of the stream to the standby (14 R468, R473, R484). -/
inductive PairRec where
  | mirror (pa : Nat) (w : TWord)
  | copy (pa : Nat) (w : TWord)
  | framecopy (p : Nat) (f : RFrame) (arrival : Nat)
  | portrec (p : Nat) (d : PortDecision)
deriving DecidableEq, Repr

/-- A frame of the pair link outside the stream (14 R468). -/
inductive PairFrame where
  | hello (serial : W64) (strap : BitVec 2) (epoch : BitVec 32)
  | heartbeat (role sync : Nat) (epoch : BitVec 32) (now : Nat) (seq : Nat)
  | giveup (epoch : BitVec 32)
  | repairq (pa : Nat)
  | repaira (pa : Nat) (w : TWord)
deriving DecidableEq, Repr

/-- The pair link (14 R467 to R489): role 0 none, 1 primary, 2 standby, 3 demoted; SYNC 0 solo, 1 syncing, 2 synced, 3 isolated;
link; suspicion; PEER_INHIBIT_N driven low; strap; epoch and the highest seen; the partner's serial number; NOW of the last frame
and of the last TOKEN; whether a standby has still to adopt its primary's epoch (R470); stream sequences; the send queue, the frames to
send beside it, and the bytes of the first record or frame already on the line; the position of resynchronisation (area and address),
the words copied and, on a standby, whether the last COPY has been performed; the words under repair, with whether one has been written
since; the records carried when PAIR_MAXLAT was last read. -/
structure Pair where
  role : Nat := 0
  sync : Nat := 0
  link : Bool := false
  suspect : Bool := false
  peerInh : Bool := false
  strap : BitVec 2 := 0
  epoch : BitVec 32 := 0
  seen : BitVec 32 := 0
  peer : W64 := 0
  lastRx : Nat := 0
  lastTok : Option Nat := none
  adopts : Bool := false
  sendSeq : Nat := 0
  recvSeq : Nat := 0
  sendQ : List PairRec := []
  ctlQ : List PairFrame := []
  sent : Nat := 0
  copyArea : Nat := 0
  copyAddr : Nat := 0
  copyWords : Nat := 0
  copied : Bool := false
  repairs : List (Nat × Bool) := []
  latMark : Nat := 0
deriving DecidableEq, Repr

/-! ## Plant network, PCIe and historian (13) -/

/-- A TSN port (13 R440 to R447): link, the next entry of each transmit and receive ring, the entry of the gate control list that
holds, the gate-control cycle that runs, the transmit SAs that refuse until a new key, and the key and salt words of the SAs, by
8 × SA + word, the salt from word 4. -/
structure TsnPort where
  link : Bool := false
  tx : Tab Nat := []
  rx : Tab Nat := []
  gcl : Option Nat := none
  gclK : Option Nat := none
  exhausted : List Nat := []
  keys : Tab W64 := []
deriving DecidableEq, Repr

/-- A slot whose record waits for its unit (13 R457, R459): queue, slot index, SEQ, and whether its header was valid. -/
structure HSlot where
  q : Nat
  idx : Nat
  seq : Nat
  valid : Bool
deriving DecidableEq, Repr

/-- A unit under construction or to append (13 R459): its words, its slots, and the first and last record TIME. -/
structure HUnit where
  ws : List Data := []
  slots : List HSlot := []
  t0 : W64 := 0
  t1 : W64 := 0
deriving DecidableEq, Repr

/-- A tier (13 R456 to R461): its open zone by ZIDX, whether it has stopped, the unit under construction, those to append, the one
appended and whether it was retried, the units appended to the zone, the chain hash, the last zone's ZSEQ, and whether its last
checkpoint is unsigned. -/
structure HTier where
  zone : Option Nat := none
  stopped : Bool := false
  unit : HUnit := {}
  closed : List HUnit := []
  out : Option (HUnit × Bool) := none
  units : Nat := 0
  hash : List Byte := []
  zseq : Nat := 0
  unsigned : Bool := false
deriving DecidableEq, Repr

/-- A zone in the zone table (13 R456): drive, start, capacity in blocks, tier, STATE, ZSEQ, blocks written, first and last record
TIME. -/
structure HZone where
  drive : Nat
  zslba : BitVec 48
  cap : Nat
  tier : Nat
  st : Nat
  zseq : Nat
  wp : Nat
  t0 : W64
  t1 : W64
deriving DecidableEq, Repr

/-- A drive (13 R455, R456, R463, R464): STATE, WRITTEN, consecutive failed commands, its empty zones by start and capacity, and the next
entries of its submission and completion queues. -/
structure HDrive where
  st : Nat := 0
  written : Nat := 0
  fails : Nat := 0
  empty : List (BitVec 48 × Nat) := []
  tail : Nat := 0
  head : Nat := 0
deriving DecidableEq, Repr

/-- The Historian Engine (13 R455 to R465): the next slot of each queue, the next read descriptor, tiers, zones by ZIDX, the next
ZSEQ, drives, and SEQ by stream. -/
structure Hse where
  sq : Tab Nat := []
  rd : Nat := 0
  tiers : Tab HTier := []
  zones : Tab HZone := []
  zseq : Nat := 0
  drives : Tab HDrive := []
  seqs : Tab Nat := []
deriving DecidableEq, Repr

/-! ## The crypto engine (15 R500 to R512) -/

/-- A key slot: algorithm of R505 (0: empty), key, and for AES the nonce state of R506, R507. -/
structure KeySlot where
  alg : Nat := 0
  key : List Byte := []
  fixed : BitVec 32 := 0
  nctr : W64 := 0
  nres : W64 := 0
  exh : Bool := false
deriving DecidableEq, Repr

/-- The context of a job (15 R500, R509): descriptor index, address and words, whether its queue has been enabled anew since it
started, key taken at its start, the NCTR of a GCM-ENC, IV or counter block, the source bytes processed, and its finished units. -/
structure CryJob where
  idx : Nat
  desc : Nat
  stale : Bool := false
  w0 : Data
  w1 : Data
  w2 : Data
  key : List Byte := []
  nonce : Option W64 := none
  iv : List Byte := []
  src : List Byte := []
  done : Nat := 0
  units : Nat := 0
deriving DecidableEq, Repr

/-- A queue: its next descriptor and its job. -/
structure CryQueue where
  next : Nat := 0
  job : Option CryJob := none
deriving DecidableEq, Repr

/-- The engine: slots, queues, the queue whose unit runs, the queue chosen whose job has not started, and the secure and the
normal queue served last. -/
structure Crypto where
  slots : Tab KeySlot := []
  qs : Tab CryQueue := []
  run : Option Nat := none
  chosen : Option Nat := none
  lastS : Nat := 7
  lastN : Nat := 3
deriving DecidableEq, Repr

/-! ## Debug access, power and boot (15 R520 to R522; 16; 18 R600 to R603) -/

/-- The JTAG instruction in force (15 R522). -/
inductive JtagIr where
  | bypass | idcode | sample | extest | clamp | highz
deriving DecidableEq, Repr

/-- An entry of Sett's event log (17 R580): sequence number, code, millisecond count, argument. -/
structure LogEntry where
  seq : Nat
  code : Nat
  ms : Nat
  arg : Nat
deriving DecidableEq, Repr

/-- What outlives device reset, and the balls (16 R524 to R530, R540; 17 R558, R580; 18 R600; 15 R522): VDD_AON, PWRGOOD, RST_N,
brown-out, the 10 us after a device-reset command, device reset itself; the causes that held in the reset in progress; the
reset-duration counter in ns (R529); SYS_RSTCAUSE and SYS_RSTDUR with their last 8 values, and the millisecond count of the last exit; the strap balls; the stamp in always-on SRAM; the boot flash; the time of the always-on domain in ns; the event log with its next sequence
number; the JTAG instruction; and the time in ms in each band of 5 C of the hottest sensor, the first from −60 C (17 R579). -/
structure AlwaysOn where
  aon : Bool := true
  pwrgood : Bool := true
  rstLow : Bool := false
  brown : Bool := false
  settHold : Bool := false
  inReset : Bool := false
  held : BitVec 6 := 0
  cause : BitVec 6 := 0
  dur : BitVec 32 := 0
  rstNs : Nat := 0
  hist : List (BitVec 32 × BitVec 6) := []
  exitMs : Nat := 0
  bootRcv : Bool := false
  mgmtSel : Bool := false
  pairRole : BitVec 2 := 0
  stamp : Option (List Byte) := none
  flash : Tab Byte := []
  ns : Nat := 0
  log : List LogEntry := []
  logSeq : Nat := 0
  ir : JtagIr := .idcode
  bands : Tab Nat := []
deriving DecidableEq, Repr

/-- Boot and debug since the last device reset (16 R531 to R548, 15 R520, R568): the copy being loaded (0 A, 1 B), the check that runs
(0 A, 1 B, 2 recovery), its load error, the life cycle as sensed (15 R519: the earlier and the later state), whether BIST passed or a stamp was accepted, whether the flash record is to be erased after READY,
a device reset due in 2 us, the hold after SHUTDOWN, which a device reset does not end (17 R565), MGMT_SEL as sampled, whether the
link of the recovery endpoint is up (R542), worlds unlocked (bit 0 normal), and the challenge with its time. -/
structure Boot where
  copy : Nat := 0
  check : Option Nat := none
  loadErr : Nat := 0
  lcEarly : Nat := 0
  lcLate : Nat := 0
  tested : Bool := false
  eraseDue : Bool := false
  resetDue : Bool := false
  shut : Bool := false
  mgmtSpi : Bool := false
  rcvLink : Bool := false
  unlocked : BitVec 2 := 0
  challenge : Option (List Byte × Nat) := none
deriving DecidableEq, Repr

/-! ## Sett (17) -/

/-- A long command that runs (17 R555): opcode, TAG, the parameter that its end needs, STATUS and RESULT, and whether its work is
done. -/
structure LongCmd where
  opc : Nat
  tag : Nat
  arg : Nat := 0
  status : Nat := 0
  result : Nat := 0
  ready : Bool := true
deriving DecidableEq, Repr

/-- A mailbox beyond its registers (17 R553 to R556): the request words as submitted, whether Sett has still to serve them, whether
their reply deadline has passed, and the long command. -/
structure Mbx where
  words : List W64 := []
  waiting : Bool := false
  late : Bool := false
  long : Option LongCmd := none
deriving DecidableEq, Repr

/-- Sett (17): mailboxes, the secure and the normal mailbox served last, the staging area, the thermal limit by cluster in MHz (absent:
the fused maximum), the clusters whose lowering waits for the next sample, whether the spread rule acts and on which clusters, the
sensors that read 130 C or more in the last sample, those of them already reported since they did, the over-temperatures on their way to
Badger, the sensors sampled since their MAX was read, the residency in ms by 2 × cluster, + 1 in C3 (R579), C4 (R572), and of the I3C port
its dynamic address and the in-band interrupt it has pending (R558). -/
structure Sett where
  mb : Tab Mbx := []
  lastS : Nat := 7
  lastN : Nat := 3
  stage : Tab Byte := []
  limit : Tab Nat := []
  deferred : List Nat := []
  spread : Bool := false
  spreadSet : List Nat := []
  hot : List Nat := []
  crit : List Nat := []
  report : List Nat := []
  maxSeen : List Nat := []
  resid : Tab Nat := []
  c4 : Bool := false
  i3cAddr : Option (BitVec 7) := none
  ibi : Bool := false
deriving DecidableEq, Repr

/-! ## The Badger island (18) -/

/-- An open round (18 R592, R594): the port that opened it, its value, and the threads of its ports. -/
structure BRound where
  portB : Bool
  value : W64
  tidA : Nat
  tidB : Nat
deriving DecidableEq, Repr

/-- The island beyond its registers (18): Sett's heartbeat within its deadline; open rounds by channel; the 1 s window of the memory
count and its count; what lay outside its window in the last voltage sample; the next core of the rotation, postponed cores and
cores of woken clusters, the cores that await their test in this slot, the core under test, lost cores, the self-test, the
unrecoverable cache errors on the supervision bus by mesh stop (09 R315), and of the cores whose heartbeat deadline runs when it was last
restarted, in ns of the always-on domain (18 R584). -/
structure Badger where
  settAlive : Bool := false
  rounds : Tab BRound := []
  memWin : Nat := 0
  memCount : Nat := 0
  volt : List Nat := []
  crtNext : Nat := 0
  postponed : List Nat := []
  woken : List Nat := []
  slot : List Nat := []
  test : Option Nat := none
  lost : List Nat := []
  selfTest : Bool := true
  cacheErr : List Nat := []
  beat : Tab Nat := []
deriving DecidableEq, Repr

end Sys2Proof.Machine
end

