-- ==== Sys2Proof/Machine/State.lean ====
section
/-! DEFINITION. The state of the block as plain data: everything the spec gives the machine (INVENTORY.md lists each piece with
its rule), the queue of waiting commands, and the state after reset. -/

namespace Sys2Proof.Machine

/-- The machine stops with a fault. -/
inductive Fault where
  /-- Raised by every meaning whose command names a unit that the part does not have (01 R8, R10): a thread above 767, a core
  above 47, a port or an input beyond its count. Safe: no such command can be sent to the hardware. -/
  | noSuchUnit
deriving DecidableEq, Repr

/-- The machine gives a command no meaning. -/
inductive Refusal where
  /-- Raised by an arm of exec whose command is not modelled yet. Safe: nothing is claimed of it. -/
  | notModelled (mnemonic : String)
deriving DecidableEq, Repr

/-! ## Threads (02, 05, 06, 07, 08) -/

/-- The states a thread holds itself; FENCED is seen through its core (02 R34, R38). -/
inductive RunState where
  | stopped | active | parked | suspended
deriving DecidableEq, Repr

/-- The thread's next instruction is a delay slot: where the thread goes after it (none: to the instruction that follows it),
whether it is annulled, and whether the return address that a CALL pushed waits for the slot's length (05 R160, R163, R165). -/
structure Slot where
  next : Option Addr
  annul : Bool
  call : Bool
deriving DecidableEq, Repr

/-- The eight words of a trap bank (07 R235); slot is the delay slot that an entry found whose pending next instruction its code does not
tell yet, until its word is written (log 62). -/
structure TrapBank where
  vec : W64 := 0
  pc : W64 := 0
  npc : W64 := 0
  stat : W64 := 0
  cause : W64 := 0
  addr : W64 := 0
  ipa : W64 := 0
  tcw : W64 := 0
  slot : Option Slot := none
deriving DecidableEq, Repr

/-- What a PARKED thread waits for: a waking event (PARK) or one of the selected Den words; with the
PC of the PARK or WAITD (05 R174 to R178). -/
inductive ParkOn where
  | wake (pc : Addr)
  | words (pc : Addr) (ws : List Nat)
deriving DecidableEq, Repr

/-- An accepted HINGE that the thread waits for, or will wait for once its delay slot has executed (05 R188): its service thread,
and the PC of its delay slot, which tells it from another. -/
structure HingeCall where
  svc : Nat
  slotPc : Addr
deriving DecidableEq, Repr

/-- The values that the instruction after an own SYSWR still runs under (02 R74, 08 R267). -/
structure OldCtx where
  ctl : BitVec 8
  xs1 : W64
  xs1h : W64
  xs2 : W64
deriving DecidableEq, Repr

/-- An MMIO write of the thread whose answer is outstanding (03 R111, 06 R226): the instruction, its delay-slot record and
length, the operand, what the page decided once the store buffer has sent it, and for a displaced thread the bank that
holds the interrupted level; half says that the refused part is the high one (03 R108), after that the thread has been displaced
since, so that a refusal finds it at the instruction after the write (06 R226, 07 R243), and depth how many entries into the same
bank have not returned since. -/
structure MmioWait where
  pc : Addr
  slot : Option Slot
  len : Nat
  opnd : Nat
  half : Bool := false
  addr : Addr
  result : Option Bool
  bankU : Bool
  after : Bool := false
  depth : Nat := 0
deriving DecidableEq, Repr

/-- The record of a trap (03 R108, 07 R241). -/
structure Exn where
  code : Nat
  step : Nat := 0
  opnd : Nat := 0
  half : Bool := false
  wr : Bool := false
  stage : Nat := 0
  addr : Addr := 0
  ipa : Addr := 0
  callno : Nat := 0
  src : Nat := 0
deriving DecidableEq, Repr

/-- One entry of a TLB (08 R282 to R284), with what a later dirty-flag update needs (R279). Addresses are at the start of the
entry's page; perm1 is PX PW PR UX UW UR, perm2 is X W R; sig1 and sig2 are V, T and OA of the leaves as
read. -/
structure TlbEntry where
  stage2Only : Bool
  has1 : Bool
  has2 : Bool
  sec : Bool
  upper : Bool
  vmid : BitVec 16
  asid : BitVec 16
  global : Bool
  size : Nat
  va : Addr
  pa : Addr
  ipa : Addr
  perm1 : BitVec 6
  perm2 : BitVec 3
  nsa : Bool
  df1 : Bool
  df2 : Bool
  leaf1 : Addr
  leaf1Ipa : Addr
  leaf1W : Bool
  leaf2 : Addr
  sig1 : Data
  sig2 : Data
  lock : Option Nat
deriving DecidableEq, Repr

/-- A read of an MMIO page or PCIe window that the instruction in AM waits for: which part of it, where, which half of the register
(0 both, 1 low, 2 high: 01 R18, R630; 13 R451), the record of its timeout, and the TLB entry that it used (08 R291). -/
structure ExtReq where
  key : Nat
  pa : Addr
  part : Nat
  sec : Bool
  lvl : BitVec 2
  tmo : Exn
  tr : Option TlbEntry
deriving DecidableEq, Repr

/-- What the wait of an instruction that entry 2 bounds is for (07 R258): a chunk not yet initialised (10 R353), the fill of a line (09
R303), the thread's stores, those to memory alone or all (05 R185, R186, R196), its global TLBIs (R197), or a LOAD's walk (08 R294). -/
inductive StallOn where
  | chunk (pa : Addr)
  | fill (line : Nat) (sec : Bool)
  | stores (mem : Bool)
  | tlbi
  | load
deriving DecidableEq, Repr

/-- Where TSCAN writes its result, as its start or resumption resolved it (04 R140). -/
inductive BlockDest where
  | nul
  | den (n : Nat)
  | mem (ea : Addr)
deriving DecidableEq, Repr

/-- A block instruction in flight: its opcode, the operand values it read, TSCAN's destination, and how many steps are committed
(04 R140, R145, R146). -/
structure BlockRun where
  opc : Nat
  a : TWord
  b : TWord
  c : TWord
  dest : BlockDest
  step : Nat
deriving DecidableEq, Repr

/-- A line of a fetch buffer (06 R215): its virtual line address, whether a prediction brought it, and which of its four words carried
POISON when it came (03 R107 step 1). -/
structure FetchLine where
  va : Addr
  predicted : Bool
  poison : BitVec 4 := 0
deriving DecidableEq, Repr

/-- The fault that a request for a line of a thread's code found; its instruction takes it at step 1 (03 R107, 08 R273). -/
structure FetchBad where
  line : Addr
  exn : Exn
deriving DecidableEq, Repr

/-- One entry of the walk cache (08 R288): a table entry of level lvl, and the table it names. -/
structure WalkEntry where
  stage2 : Bool
  sec : Bool
  upper : Bool
  vmid : BitVec 16
  asid : BitVec 16
  lvl : Nat
  va : Addr
  oa : Addr
deriving DecidableEq, Repr

/-- The context a translation uses (08 R261, R284): world, regime, level class, stage-1 and stage-2 words that apply. -/
structure XCtx where
  sec : Bool
  upper : Bool
  user : Bool
  xs1 : W64
  xs2 : W64
deriving DecidableEq, Repr

/-- A table walk in progress (08 R276): for which thread, operand and half, in which context; where the stage-1 part stands
(level, table); the stage-2 part in progress (input IPA, level, table); the stage-1 leaf once found. -/
structure Walk where
  tid : Nat
  fetch : Bool
  opnd : Nat
  half : Bool
  wr : Bool
  va : Addr
  x : XCtx
  lvl1 : Nat
  tab1 : Addr
  pa1 : Option (Addr × Bool)
  s2 : Option (Addr × Nat × Addr)
  done1 : Option TlbEntry
  install : Bool
deriving DecidableEq, Repr

/-- One of the 16 thread contexts of a core (02 R63, R67). hinge lists its accepted HINGEs that still wait, one for each level that a trap
left; blockOp is the opcode of a block instruction in flight and the steps with which it started (06 R230, R232); entered says that
no handler instruction has issued since the last trap entry (07 R254); filled and codeFill are lines that a fill brought past an L1
cache to this thread's access or fetch buffer (06 R211, 09 R316); fetchBad is the fault found by a fetch-buffer request, codeXlat the
result of a code walk that a TLBI met (08 R291), and asked the line of a predicted request that is made and has not come (06 R214);
issued says that an instruction has issued since its core's last heartbeat (18 R584). -/
structure Thread where
  st : RunState
  sec : Bool
  lvl : BitVec 2
  pc : Addr
  flags : BitVec 5
  den : Tab TWord
  rs : Tab Addr
  rsPtr : BitVec 4
  rsDepth : BitVec 5
  ctl : BitVec 8
  tcw : W64
  cbase : W64
  lattol : W64
  hwin : W64
  bankS : TrapBank
  bankU : TrapBank
  troute : W64
  xs1 : W64
  xs1h : W64
  xs2 : W64
  old : Option OldCtx
  wdctl : W64
  wdExp : Bool
  wdLate : Nat
  wdCount : Nat
  wdDone : Bool
  slot : Option Slot
  wake : Bool
  park : Option ParkOn
  hinge : List HingeCall
  mmioW : Option MmioWait
  mmioOld : List MmioWait
  extReq : Option ExtReq
  stall : Option (Exn × StallOn)
  late : Option Exn
  extAns : Tab (Option TWord)
  orphans : List Addr
  xlat : List TlbEntry
  block : Option BlockRun
  blockOp : Option (Nat × Nat)
  entered : Bool
  filled : List Nat
  codeFill : List Nat
  fetch : List FetchLine
  fetchBad : Option FetchBad
  codeXlat : Option TlbEntry
  asked : Option Addr
  issued : Bool
deriving DecidableEq, Repr

/-- A thread after device reset (02 R35, R42, R48, R70 to R75, R629; 05 R169; 07 R237 to R256; 08 R265). THPC and the return
stack have no reset value in the spec: 0, DESIGN CHOICE (log 8). -/
def Thread.reset (t : Nat) : Thread :=
  { st := .stopped, sec := t % 16 == 0, lvl := if t % 16 = 0 then 3 else 0, pc := 0, flags := 0, den := [], rs := [], rsPtr := 0,
    rsDepth := 0, ctl := 0x06, tcw := 0, cbase := 0, lattol := 0xFFFFFFFF, hwin := 0, bankS := {}, bankU := {}, troute := 0,
    xs1 := 0, xs1h := 0, xs2 := 0, old := none, wdctl := 0x000F4240, wdExp := false, wdLate := 0, wdCount := 0, wdDone := false, slot := none,
    wake := false, park := none, hinge := [], mmioW := none, mmioOld := [], extReq := none, stall := none, late := none, extAns := [], orphans := [], xlat := [],
    block := none, blockOp := none, entered := false, filled := [], codeFill := [], fetch := [], fetchBad := none, codeXlat := none, asked := none,
    issued := false }

/-! ## Cores and clusters (06, 08, 09) -/

/-- Where a store-buffer entry goes (09 R300, R302). -/
inductive SbKind where
  | mem | mmio | pcie
deriving DecidableEq, Repr

/-- One entry of a store buffer (09 R300): thread, aligned word address, bytes with mask, tag; for a write outside memory its
world and level, and whether it has the width and alignment that a register takes (01 R18); and the TLB entry that it used (08 R291). -/
structure SbEntry where
  tid : Nat
  kind : SbKind
  pa : Addr
  data : Data
  mask : BitVec 16
  tag : Tag
  sec : Bool
  lvl : BitVec 2
  legal : Bool
  tr : Option TlbEntry := none
deriving DecidableEq, Repr

/-- A miss register (09 R303): of which cache, its line number, the access world, and the threads whose
accesses it tracks, the primary miss first; noInstall for a code line in flight when the L1I was invalidated (R319); queued while its
request waits in the L2 behind 64 others. -/
structure Mshr where
  icache : Bool
  line : Nat
  sec : Bool
  thr : List Nat
  noInstall : Bool := false
  queued : Bool := false
deriving DecidableEq, Repr

/-- A lock slot (08 R296). -/
structure LockSlot where
  v : Bool
  lost : Bool
  size : Nat
  thread : Nat
  upper : Bool
  va : Addr
deriving DecidableEq, Repr

/-- The power states of a core within a running cluster (17 R570). -/
inductive CorePwr where
  | c0 | c1 | c2
deriving DecidableEq, Repr

/-- One Calius core. The caches L1D and L1I hold line numbers by set and way: an L1 line is never dirty and equals its L2 line
(09 R299, R306). -/
structure Core where
  released : Bool
  fencedCmd : Bool
  fencedCrt : Bool
  crtFailed : Bool
  lost : Bool
  pwr : CorePwr
  corectl : W64
  l1ctl : W64
  l1dpart : W64
  l1err : W64
  sb : List SbEntry
  mshr : List Mshr
  l1d : Tab Nat
  l1i : Tab Nat
  itlb : List TlbEntry
  dtlb : List TlbEntry
  l2tlb : List TlbEntry
  wcache : List WalkEntry
  locks : Tab LockSlot
  walks : List Walk
  tlblkaddr : W64
  tlblkstat : W64
  ipars : Nat := 0
  dpars : Nat := 0
  tlbPars : Nat := 0
  denCorrs : Nat := 0
deriving DecidableEq, Repr

/-- A core after device reset: not released (02 R35), words at the values of 06 R213, 08 R293, 09 R331, arrays empty. -/
def Core.reset : Core :=
  { released := false, fencedCmd := false, fencedCrt := false, crtFailed := false, lost := false, pwr := .c0, corectl := 0,
    l1ctl := 0, l1dpart := 0x80, l1err := 0, sb := [], mshr := [], l1d := [], l1i := [], itlb := [], dtlb := [], l2tlb := [],
    wcache := [], locks := [], walks := [], tlblkaddr := 0, tlblkstat := 0 }

/-- The states of an L2 line (09 R306, R323). -/
inductive LineState where
  | m | e | s | held
deriving DecidableEq, Repr

/-- One line of an L2 (09 R298, R306): its line number, state, pin and four words. -/
structure L2Line where
  line : Nat
  st : LineState
  pin : Bool
  ws : List TWord
deriving DecidableEq, Repr

/-- One cluster: its power state C3 (17 R571), whether it has been powered up (16 R545), L2 lines by set and way, and the cluster-scope words (09 R332). -/
structure Cluster where
  off : Bool
  up : Bool
  l2 : Tab L2Line
  l2ctl : W64
  l2part : W64
  l2lock : W64
  l2lkstat : W64
deriving DecidableEq, Repr

/-- A cluster after device reset (09 R332); its power state follows 16. -/
def Cluster.reset : Cluster := { off := false, up := false, l2 := [], l2ctl := 0, l2part := 0x8000, l2lock := 0, l2lkstat := 0 }

/-- One line of an L3 slice (09 R297, R307): line number, dirty, four words. -/
structure L3Line where
  line : Nat
  dirty : Bool
  ws : List TWord
deriving DecidableEq, Repr

/-- One directory entry (09 R306, R309): presence vector, whether the holder has M or E, pin, recency. -/
structure DirEntry where
  presence : BitVec 12
  excl : Bool
  stamp : Nat
deriving DecidableEq, Repr

/-- Memory behind the caches: bytes by address and tags by word number (02 R50, 10 R339). -/
structure Memory where
  cells : List Host.Cell
  tags : Tab Tag
deriving DecidableEq, Repr

/-- A global TLBI that has left its core (05 R196): issuing thread, its fields, and the cores still to reach. -/
structure TlbiMsg where
  tid : Nat
  sec : Bool
  lvl : BitVec 2
  vmid : BitVec 16
  asid : BitVec 16
  page : Addr
  ctl : BitVec 16
  cores : List Nat
deriving DecidableEq, Repr

/-- A HINGE request (05 R188 to R191): caller with its request base and the PC of its delay slot, service, service thread, header
and request words, and whether it is orphaned (R200). -/
structure HingeReq where
  caller : Nat
  base : Nat
  slotPc : Addr
  s : Nat
  svc : Nat
  hdr : Data
  ws : List TWord
  orphan : Bool
deriving DecidableEq, Repr

/-- A reply held while the caller's core is fenced (15 R498). -/
structure HeldReply where
  req : HingeReq
  ws : List TWord
deriving DecidableEq, Repr

/-! ## Memory controllers (10) -/

/-- What a memory controller has sent to the Badger island: corrections, uncorrectable errors, device marks (10 R360). -/
structure MemReport where
  corr : Nat := 0
  uncorr : Nat := 0
  marks : Nat := 0
deriving DecidableEq, Repr

/-- DRAM as training and initialisation left it (10 R335, R345, R351 to R360): the configuration found, boot region and reserve of
the image; the lowest chunk not complete, those complete above it, the chunk in progress, the promotions in order; the channel
being retired, how many of its lines are copied, and the one retired; commands retried once (word number, and whether a write); corrections per channel and per
device in the scrub period; self-refresh; the corrections not yet reported; what is on the supervision bus to the Badger island (01 R25);
and the channels whose correctable threshold source has been raised in the scrub period. -/
structure Dram where
  up : Bool := false
  cfg : DramCfg
  bootsz : Nat := 1
  reserve : Bool := false
  nextChunk : Nat := 0
  done : List Nat := []
  cur : Nat := 0
  promo : List Nat := []
  complete : Bool := false
  retiring : Option Nat := none
  copied : Nat := 0
  retired : Option Nat := none
  retry : List (Nat × Bool) := []
  periodCorr : Tab Nat := []
  periodDev : Tab Nat := []
  selfRefresh : Bool := false
  unsentCorr : Tab Nat := []
  bus : Tab MemReport := []
  told : List Nat := []
deriving DecidableEq, Repr

/-! ## Keyward (15 R513 to R519, R523) -/

/-- A row of a root key slot: hash, generation, and whether it is complete or killed (15 R513). -/
structure KeyRow where
  hash : BitVec 384
  gen : BitVec 16
  complete : Bool
  killed : Bool
deriving DecidableEq, Repr

/-- A commit entry: slot (true B), row, generation, and whether it is complete or killed (15 R513). -/
structure CommitEntry where
  slotB : Bool
  row : Nat
  gen : BitVec 16
  complete : Bool
  killed : Bool
deriving DecidableEq, Repr

/-- The fuses: life-cycle fuses blown in order, 4 a step (15 R517), the last complete intention record, the serial number, the
partition limits as fused (none, or 0 where the Range has no 0: unprogrammed, R494), the secure-boot and debug policies, the rows of the two root key slots (slot A
keys 0 to 7, slot B 8 to 15), the commit entries, the 16 counters by value and rows used, the HUK once programmed, and whether
the last reset killed a key row or a commit entry; the counters whose last row is incomplete; trim, whose layout the spec does not give
(log 99); and the fused half of SYS_DEVID (01 R20; a 2.0 GHz part of stepping A0, log 7). -/
structure Keyward where
  lcFuses : Nat := 0
  intent : Option Nat := none
  serial : W64 := 0
  secmem : Option Nat := none
  l3sec : Nat := 0
  l2sec : Nat := 0
  l1dsec : Nat := 0
  secthr : Nat := 0
  pq : Bool := false
  dbg : W64 := 0
  rows : Tab KeyRow := []
  commits : List CommitEntry := []
  ctrVal : Tab Nat := []
  ctrRows : Tab Nat := []
  ctrPart : List Nat := []
  huk : Option (List Byte) := none
  cleared : Bool := false
  trim : List Byte := []
  devid : BitVec 32 := 0x00080000
deriving DecidableEq, Repr

/-! ## The machine -/

/-- The whole block. Every table is sparse: an absent key reads as the reset value that its accessor in Ops.lean names. evBind is the
binding that each held event reached the router with (07 R251); ioLog is the IO hub's error log (01 R10, R16); dmaLate names the words
whose DMA access passed its deadline (07 R258); dmaWait is the word for which the engine command in progress must wait (log 48); ecamWrites
lists, oldest first, the configuration writes of threads that await a completion (13 R451). settThreads, bdgThreads and bdgSram are the
threads of Sett's core and of Badger's, and Badger's SRAM (01 R10, 18 R582): what their firmware does there is what the rules say of Sett and
of the island, and no rule says what it keeps there (log 99). -/
structure State where
  pending : List Instr
  fresh : Nat
  cio : Cio
  rlk : Tab RPort
  pair : Pair
  tsn : Tab TsnPort
  hse : Hse
  threads : Tab Thread
  cores : Tab Core
  clusters : Tab Cluster
  l3 : Tab L3Line
  dir : Tab DirEntry
  dirStamp : Nat
  mem : Memory
  regs : Tab W64
  dram : Dram
  scrReady : Nat
  evPend : Tab Data
  evBind : Tab W64
  haltUnread : Bool
  hingeWait : List HingeReq
  hingeOut : Tab HingeReq
  hingeHeld : List HeldReply
  tlbi : List TlbiMsg
  ioLog : List (DmaAgent × Addr)
  dmaLate : List (DmaAgent × Nat)
  dmaWait : Option Nat
  ecamWrites : List (Nat × Addr)
  keyw : Keyward
  cry : Crypto
  aon : AlwaysOn
  boot : Boot
  sett : Sett
  settThreads : Tab Thread
  bdg : Badger
  bdgThreads : Tab Thread
  bdgSram : Memory
deriving DecidableEq, Repr

/-- The machine in the cycle in which device reset ends, after a power-up (16 R527, R530, R531, R533): every register at its reset value,
PHASE 1 in SYS_BOOTSTAT, PWR the reset's cause, the initial safe state in force, no core released, nothing in any array and
nothing waiting. Values that the spec does not give are named in logs 7, 8, 9 and 16. -/
def State.reset : State :=
  { pending := [], fresh := 0, cio := { inhBdg := true }, rlk := [], pair := {}, tsn := [], hse := {}, threads := [], cores := [],
    clusters := [], l3 := [], dir := [], dirStamp := 0, mem := { cells := [], tags := [] }, regs := [(0x70030, 0x0100000000000000)],
    dram := { cfg := { speed := 0, dens := 0, width8 := true, twoRanks := false } }, scrReady := 0, evPend := [], evBind := [],
    haltUnread := false, hingeWait := [], hingeOut := [], hingeHeld := [], tlbi := [], ioLog := [], dmaLate := [], dmaWait := none, ecamWrites := [], keyw := {}, cry := {},
    aon := { cause := 1 }, boot := {}, sett := {}, settThreads := [], bdg := {}, bdgThreads := [],
    bdgSram := { cells := [], tags := [] } }

end Sys2Proof.Machine
end

