-- ==== Sys2Proof/Machine/Ops.lean ====
section
/-! DEFINITION. The named operations over State: sparse tables, bit fields, threads and cores, registers, memory behind the
caches, the caches and the visible value of a word, and raising an event. -/

namespace Sys2Proof.Machine

/-- What a command's meaning answers. -/
abbrev Out := Host.Outcome State Fault Refusal

/-! ## Sparse tables and bit fields -/

/-- What a sparse table holds for key k. -/
def tfind {α : Type} : Tab α → Nat → Option α
  | [], _ => none
  | (a, v) :: r, k => if k = a then some v else tfind r k

/-- What a sparse table holds for key k, with the value of an absent key. -/
def tget {α : Type} (d : α) (t : Tab α) (k : Nat) : α := (tfind t k).getD d

/-- A table without key k. -/
def tdel {α : Type} (t : Tab α) (k : Nat) : Tab α := t.filter (fun e => e.1 != k)

/-- Insertion at the place that keeps keys rising. -/
def tinsert {α : Type} (k : Nat) (v : α) : Tab α → Tab α
  | [] => [(k, v)]
  | e :: r => if k < e.1 then (k, v) :: e :: r else e :: tinsert k v r

/-- A table whose key k holds v. -/
def tput {α : Type} (t : Tab α) (k : Nat) (v : α) : Tab α := tinsert k v (tdel t k)

/-- A table whose key k reads as v, where an absent key reads as d: no entry equal to d is kept. -/
def tset {α : Type} [DecidableEq α] (d : α) (t : Tab α) (k : Nat) (v : α) : Tab α :=
  if v = d then tdel t k else tput t k v

/-- Bits hi to lo of a word, as a number. -/
def bits {n : Nat} (v : BitVec n) (hi lo : Nat) : Nat := (v.toNat >>> lo) % 2 ^ (hi + 1 - lo)

/-- A word with bits hi to lo replaced. -/
def setBits {n : Nat} (v : BitVec n) (hi lo x : Nat) : BitVec n :=
  (v &&& ~~~ (BitVec.ofNat n (2 ^ (hi + 1 - lo) - 1) <<< lo)) ||| (BitVec.ofNat n (x % 2 ^ (hi + 1 - lo)) <<< lo)

/-- Bit i of a word. -/
def bit {n : Nat} (v : BitVec n) (i : Nat) : Bool := v.getLsbD i

/-- A Boolean as a number. -/
def b2n (b : Bool) : Nat := if b then 1 else 0

/-- Addition that stops at a bound (the saturating counters of the register tables). -/
def satAdd (bound a b : Nat) : Nat := if bound < a + b then bound else a + b

/-! ## Threads, cores, clusters -/

/-- Thread t, by its global thread ID (01 R8). -/
def State.thr (s : State) (t : Nat) : Thread := tget (Thread.reset t) s.threads t

def State.setThr (s : State) (t : Nat) (th : Thread) : State :=
  { s with threads := tset (Thread.reset t) s.threads t th }

def State.modThr (s : State) (t : Nat) (f : Thread → Thread) : State := s.setThr t (f (s.thr t))

/-- Core c = cluster × 4 + core (01 R8). -/
def State.core (s : State) (c : Nat) : Core := tget Core.reset s.cores c

def State.setCore (s : State) (c : Nat) (x : Core) : State := { s with cores := tset Core.reset s.cores c x }

def State.modCore (s : State) (c : Nat) (f : Core → Core) : State := s.setCore c (f (s.core c))

def State.cluster (s : State) (k : Nat) : Cluster := tget Cluster.reset s.clusters k

def State.setCluster (s : State) (k : Nat) (x : Cluster) : State :=
  { s with clusters := tset Cluster.reset s.clusters k x }

def State.modCluster (s : State) (k : Nat) (f : Cluster → Cluster) : State := s.setCluster k (f (s.cluster k))

/-- Word n of a thread's Den (02 R43, R48). -/
def Thread.denWord (th : Thread) (n : Nat) : TWord := tget TWord.fresh th.den n

def Thread.setDen (th : Thread) (n : Nat) (w : TWord) : Thread := { th with den := tset TWord.fresh th.den n w }

/-- A core is FENCED by CORE_FENCE, by the rotation test or its failure, or by its loss (02 R37, 15 R498). -/
def Core.fenced (c : Core) : Bool := c.fencedCmd || c.fencedCrt || c.crtFailed || c.lost

/-- THSTAT.STATE as it reads (02 R38, R70): 0 STOPPED, 1 ACTIVE, 2 PARKED, 3 SUSPENDED, 4 FENCED. -/
def State.thState (s : State) (t : Nat) : Nat :=
  if (s.core (t / 16)).fenced then 4 else
  match (s.thr t).st with
  | .stopped => 0
  | .active => 1
  | .parked => 2
  | .suspended => 3

/-! ## Registers of the MMIO window -/

/-- The value a register holds, by its offset in the MMIO window (01 R19). -/
def State.reg (s : State) (k : Nat) : W64 := tget (regReset k) s.regs k

def State.setReg (s : State) (k : Nat) (v : W64) : State := { s with regs := tset (regReset k) s.regs k v }

/-- A field of a register. -/
def State.rf (s : State) (k hi lo : Nat) : Nat := bits (s.reg k) hi lo

/-- One bit of a register. -/
def State.rb (s : State) (k i : Nat) : Bool := bit (s.reg k) i

def State.setRf (s : State) (k hi lo x : Nat) : State := s.setReg k (setBits (s.reg k) hi lo x)

/-- A field that counts and saturates at all ones (07 R260 and the RC fields of the register tables). -/
def State.count (s : State) (k hi lo n : Nat) : State :=
  s.setRf k hi lo (satAdd (2 ^ (hi + 1 - lo) - 1) (s.rf k hi lo) n)

/-- A software write of v to a register by its table's access codes alone (00 R4, R5). -/
def State.writeReg (s : State) (k : Nat) (v : W64) : State :=
  match regAt k with
  | none => s
  | some d => s.setReg k (d.write v (s.reg k))

/-! ## Events -/

/-- A source raises its event with a data word (07 R248): held until delivered under the binding it reached the router with (R251), a
newer one merged with it and counted in EVR_DROP (R253). Sources of bindings that are off deliver nothing (R249 MODE 0). -/
def State.raise (s : State) (src : Nat) (d : Data) : State :=
  if bits (s.reg (Key.evrBind src)) 35 32 = 0 then s
  else match tfind s.evPend src with
    | none => { s with evPend := tput s.evPend src d, evBind := tput s.evBind src (s.reg (Key.evrBind src)) }
    | some _ => { s with evPend := tput s.evPend src d }.count Key.evrDrop 31 0 1

/-! ## Memory behind the caches (02 R50; unlisted bytes read 0 with tag UNINIT: 10 R351, 16 R535, 09 R325) -/

/-- One byte of memory. -/
def Memory.byte (m : Memory) (a : Nat) : Byte := tget 0#8 m.cells a

def Memory.setByte (m : Memory) (a : Nat) (b : Byte) : Memory := { m with cells := tset 0#8 m.cells a b }

/-- The tag of the word with number w (address / 16). -/
def Memory.tag (m : Memory) (w : Nat) : Tag := tget Tag.uninit m.tags w

/-- n bytes at address a as a number, lowest address least significant (02 R50). -/
def Memory.bytes (m : Memory) : Nat → Nat → Nat
  | _, 0 => 0
  | a, n + 1 => (m.byte a).toNat + 256 * m.bytes (a + 1) n

/-- n bytes written at address a, least significant first. -/
def Memory.setBytes (m : Memory) : Nat → Nat → Nat → Memory
  | _, 0, _ => m
  | a, n + 1, v => (m.setByte a (BitVec.ofNat 8 v)).setBytes (a + 1) n (v / 256)

/-- The aligned word with number w. -/
def Memory.word (m : Memory) (w : Nat) : TWord := { data := BitVec.ofNat 128 (m.bytes (16 * w) 16), tag := m.tag w }

def Memory.setWord (m : Memory) (w : Nat) (x : TWord) : Memory :=
  { (m.setBytes (16 * w) 16 x.data.toNat) with tags := tset Tag.uninit m.tags w x.tag }

/-- A word with the bytes that a mask names replaced, and the writer's tag (09 R300, 10 R347). -/
def mergeWord (w : TWord) (mask : BitVec 16) (d : Data) (tag : Tag) : TWord :=
  { data := BitVec.ofNat 128 ((List.range 16).foldl
      (fun acc i => acc + 256 ^ i * (if bit mask i then bits d (8 * i + 7) (8 * i) else bits w.data (8 * i + 7) (8 * i))) 0),
    tag := tag }

/-- The form every memory of a run has: keys strictly rising, nothing listed that an unlisted key reads as. -/
def tabWf {α : Type} [DecidableEq α] (d : α) : Tab α → Bool
  | [] => true
  | [e] => e.2 != d
  | e :: f :: r => (e.2 != d && e.1 < f.1) && tabWf d (f :: r)

def Memory.wf (m : Memory) : Bool := tabWf 0#8 m.cells && tabWf Tag.uninit m.tags

/-! ## Regions of the physical map (01 R15, R16, R17; 09 R324; 10 R351, R357; 15 R491) -/

/-- The regions of 01 R15. -/
inductive Region where
  | dram | sram | scratch | pcie | mmio | unmapped
deriving DecidableEq, Repr

/-- Capacity of one channel in GiB (10 R335). -/
def dramGib (c : DramCfg) : Nat :=
  8 * (if c.width8 then 1 else 2) * (2 + c.dens.toNat) * (if c.twoRanks then 2 else 1)

/-- Installed DRAM of the four channels, in bytes. -/
def Dram.installed (d : Dram) : Nat := 4 * dramGib d.cfg * 2 ^ 30

/-- Top of the DRAM region: the lower three quarters with RESERVE (10 R357); nothing before training has succeeded. -/
def Dram.top (d : Dram) : Nat := if d.up then (if d.reserve then d.installed / 4 * 3 else d.installed) else 0

/-- Scratch unit k is held by slice k mod 12 (09 R324). -/
def scratchOff (pa : Nat) : Nat := pa % 2 ^ 25

/-- The region of a physical address. A scratch unit is reachable once converted, and not while its slice is disabled
(09 R325, R326). -/
def State.region (s : State) (pa : Nat) : Region :=
  if pa < s.dram.top then .dram
  else if 0x7F0000000000 ≤ pa ∧ pa < 0x7F0000800000 then .sram
  else if 0x7F4000000000 ≤ pa ∧ pa < 0x7F4002000000 then
    let k := scratchOff pa / 0x40000
    if k < s.scrReady ∧ !(s.rb (Key.l3Ctl (k % 12)) 0) then .scratch else .unmapped
  else if 0x800000000000 ≤ pa ∧ pa < 0xC00000000000 then .pcie
  else if 0xF00000000000 ≤ pa ∧ pa < 0xF00010000000 then .mmio
  else .unmapped

/-- Regions that hold tagged words and are cached (01 R15, 08 R263). -/
def Region.tagged (r : Region) : Bool := r = .dram || r = .sram || r = .scratch

/-- Some enabled secure DRAM window covers the address (15 R492). -/
def State.inSecWindow (s : State) (pa : Nat) : Bool :=
  (List.range 8).any (fun n =>
    s.rb (Key.l3Secwin n) 63 && decide ((bits (s.reg (Key.l3Secwin n)) 47 24) * 2 ^ 24 ≤ pa) &&
    decide (pa < (bits (s.reg (Key.l3Seclim n)) 47 24) * 2 ^ 24))

/-- Whether an access world reaches a tagged address (15 R491, 09 R324). -/
def State.reaches (s : State) (sec : Bool) (pa : Nat) : Bool :=
  sec || (match s.region pa with
    | .dram => !(s.inSecWindow pa)
    | .sram => false
    | .scratch => decide (bits (s.reg Key.l3Scrcfg) 15 8 ≤ scratchOff pa / 0x40000)
    | _ => true)

/-- The chunk of a DRAM address (10 R351). -/
def chunkOf (pa : Nat) : Nat := pa / 0x40000

/-- Progressive initialisation has reached the word (10 R351, R353). -/
def Dram.ready (d : Dram) (pa : Nat) : Bool := chunkOf pa < d.nextChunk || d.done.contains (chunkOf pa)

/-- An access to a chunk not yet initialised promotes it, 16 at most, the chunk in progress never (10 R353 to R355). -/
def Dram.promote (d : Dram) (pa : Nat) : Dram :=
  let k := chunkOf pa
  if d.ready pa || k == d.cur || d.promo.contains k || decide (16 ≤ d.promo.length) then d
  else { d with promo := d.promo ++ [k] }

/-- A word can be accessed now: it lies in no DRAM chunk that still awaits initialisation. -/
def State.chunkReady (s : State) (pa : Nat) : Bool := s.region pa != .dram || s.dram.ready pa

/-! ## Caches and the visible value (09) -/

/-- A cluster is powered: it has been powered up, and is not in C3 (01 R22; 16 R545). -/
def State.clusterOn (s : State) (k : Nat) : Bool := (s.cluster k).up && !(s.cluster k).off

/-- The line number of an address (09 R298). -/
def lineOf (pa : Nat) : Nat := pa / 64

/-- The home slice of a line (09 R298, R324). -/
def homeSlice (line : Nat) : Nat :=
  if 0x7F4000000000 / 64 ≤ line ∧ line < 0x7F4002000000 / 64 then scratchOff (line * 64) / 0x40000 % 12 else line % 12

/-- An L2 that is looked up: powered and not disabled (09 R23, R326). -/
def Cluster.l2On (k : Cluster) : Bool := !k.off && !(bit k.l2ctl 0)

/-- The way slot of a cluster's L2 that holds a line (09 R317: at most one), held slots not counted. -/
def Cluster.l2Find (k : Cluster) (line : Nat) : Option (Nat × L2Line) :=
  if k.l2On then k.l2.find? (fun e => e.2.line == line && e.2.st != .held) else none

/-- The held slot of a line (09 R323). -/
def Cluster.heldFind (k : Cluster) (line : Nat) : Option (Nat × L2Line) :=
  k.l2.find? (fun e => e.2.line == line && e.2.st == .held)

/-- Key of a way slot in an L3 slice: slice, set, way (09 R297). -/
def l3Key (slice set way : Nat) : Nat := slice * 65536 + set * 16 + way

def l3Set (line : Nat) : Nat := line / 12 % 4096

/-- The L3 slot that holds a line, where its slice is enabled (09 R326). -/
def State.l3Find (s : State) (line : Nat) : Option (Nat × L3Line) :=
  if s.rb (Key.l3Ctl (homeSlice line)) 0 then none
  else s.l3.find? (fun e => e.1 / 65536 == homeSlice line && e.2.line == line)

/-- The L2 copy of a line that its home slice has supplied to a reader: that of the cluster which holds it in M or E (09 R306, R307). -/
def State.l2Any (s : State) (line : Nat) : Option (Nat × L2Line) :=
  s.clusters.findSome? (fun e => (e.2.l2Find line).filter (fun l => l.2.st == .m || l.2.st == .e))

/-- The visible value of the aligned word at pa (09 R300, R307): the copy of an L2 in M or E, else the L3 copy, else memory. -/
def State.visWord (s : State) (pa : Nat) : TWord :=
  match s.l2Any (lineOf pa) with
  | some (_, l) => l.ws.getD (pa / 16 % 4) TWord.fresh
  | none =>
    match s.l3Find (lineOf pa) with
    | some (_, l) => l.ws.getD (pa / 16 % 4) TWord.fresh
    | none => s.mem.word (pa / 16)

/-- The aligned word at pa as a cluster reads it: the copy of its own L2, else what its home slice supplies (09 R306, R307). -/
def State.seenWord (s : State) (k pa : Nat) : TWord :=
  match (s.cluster k).l2Find (lineOf pa) with
  | some (_, l) => l.ws.getD (pa / 16 % 4) TWord.fresh
  | none => s.visWord pa

/-- The four words of a line as memory holds them. -/
def Memory.line (m : Memory) (line : Nat) : List TWord := (List.range 4).map (fun i => m.word (line * 4 + i))

/-- A whole line written to memory. -/
def Memory.setLine (m : Memory) (line : Nat) (ws : List TWord) : Memory :=
  (List.range 4).foldl (fun m i => m.setWord (line * 4 + i) (ws.getD i TWord.fresh)) m

/-- Removes the L1 copies of a line in one core. -/
def Core.dropL1 (c : Core) (line : Nat) : Core :=
  { c with l1d := c.l1d.filter (fun e => e.2 != line), l1i := c.l1i.filter (fun e => e.2 != line) }

/-- Removes the L1I copies of a line in one core (09 R305). -/
def Core.dropL1i (c : Core) (line : Nat) : Core := { c with l1i := c.l1i.filter (fun e => e.2 != line) }

/-- Applies f to the cores of a cluster. -/
def State.modClusterCores (s : State) (k : Nat) (f : Core → Core) : State :=
  (List.range 4).foldl (fun s i => s.modCore (4 * k + i) f) s

/-- An entry is pinned while any L2 holds its line in a locked way, a held slot included (09 R309, R322, R323). -/
def State.dirPinned (s : State) (line : Nat) : Bool :=
  s.clusters.any (fun e => e.2.l2.any (fun f => f.2.line == line && f.2.pin))

/-- The directory's record that cluster k no longer holds the line; the entry goes when no cluster is left and no locked slot pins it
(09 R306, R323). -/
def State.dirRemove (s : State) (line k : Nat) : State :=
  match tfind s.dir line with
  | none => s
  | some e =>
    let p := setBits e.presence k k 0
    if p = 0 && !(s.dirPinned line) then { s with dir := tdel s.dir line }
    else { s with dir := tput s.dir line { e with presence := p, excl := e.excl && !(bit e.presence k) } }

/-- An L2 copy leaves its cluster: its slot becomes held when it is pinned in a locked way (09 R323), its L1 copies go in the
same cycle (R306), and the directory is told. -/
def State.l2Drop (s : State) (k slot : Nat) (l : L2Line) : State :=
  let s := s.modCluster k (fun c =>
    { c with l2 := if l.pin then tput c.l2 slot { l with st := .held, ws := [] } else tdel c.l2 slot })
  let s := s.modClusterCores k (fun c => c.dropL1 l.line)
  s.dirRemove l.line k

/-- Every cached copy of a line is removed, the newest data first written to memory (09 R310, R326). -/
def State.flushLine (s : State) (line : Nat) : State :=
  let s := match s.l3Find line with
    | some (key, l) =>
      let s := if l.dirty then { s with mem := s.mem.setLine line l.ws } else s
      { s with l3 := tdel s.l3 key }
    | none => s
  (List.range 12).foldl (fun s k =>
    match (s.cluster k).l2Find line with
    | some (slot, l) =>
      let s := if l.st = .m then { s with mem := s.mem.setLine line l.ws } else s
      s.l2Drop k slot l
    | none => s) s

/-! ## Mirrored regions (14 R472 to R475) -/

/-- The address lies in a mirrored region. -/
def State.mirrored (s : State) (pa : Nat) : Bool :=
  (List.range 8).any (fun n =>
    s.rb (Key.pairMreg n) 63 && decide (s.rf (Key.pairMreg n) 47 16 * 2 ^ 16 ≤ pa) &&
    decide (pa < s.rf (Key.pairMlim n) 47 16 * 2 ^ 16))

/-- Writes to mirrored regions produce records now (14 R473, R484). -/
def Pair.mirrors (p : Pair) : Bool := p.role == 1 && (p.sync == 1 || p.sync == 2)

/-- A standby refuses the writes of its cores and DMA engines there (14 R475). -/
def State.standbyRefuses (s : State) (pa : Nat) : Bool := s.pair.role == 2 && s.mirrored pa

/-- The 16-byte units of the send queue that a record takes (14 R474 gives the queue's size, the records' layout is log 46). -/
def PairRec.units : PairRec → Nat
  | .framecopy _ f _ => 3 + f.payload.length
  | _ => 2

/-- The units that the send queue holds; 512 fill it (14 R474). -/
def Pair.used (p : Pair) : Nat := (p.sendQ.map PairRec.units).sum

/-- The queue accepts a mirrored word now (14 R474). -/
def State.mirrorRoom (s : State) (pa : Nat) : Bool := !(s.pair.mirrors && s.mirrored pa) || decide (s.pair.used + 2 ≤ 512)

/-- A record is accepted into the send queue, with the next sequence number (14 R473, R474). -/
def Pair.push (p : Pair) (r : PairRec) : Pair :=
  if p.mirrors then { p with sendQ := p.sendQ ++ [r], sendSeq := p.sendSeq + 1 } else p

/-- A frame outside the stream goes to the pair link (14 R468). -/
def State.pairSend (s : State) (f : PairFrame) : State := { s with pair := { s.pair with ctlQ := s.pair.ctlQ ++ [f] } }

/-- A word has been written: a repair of it that is asked for finds it written since (14 R487). -/
def State.noteWritten (s : State) (pa : Nat) : State :=
  if s.pair.repairs.isEmpty then s
  else
    let rs := s.pair.repairs.map (fun (e : Nat × Bool) => if e.1 = pa / 16 * 16 then (e.1, true) else e)
    { s with pair := { s.pair with repairs := rs } }

/-- A word of a mirrored region has been written by a core or a DMA engine (14 R473). -/
def State.mirrorWritten (s : State) (pa : Nat) (w : TWord) : State :=
  let s1 := s.noteWritten pa
  if s1.pair.mirrors && s1.mirrored pa then { s1 with pair := s1.pair.push (.mirror (pa / 16 * 16) w) } else s1

/-- A write performed at the home slice: every cached copy of the line goes, and the merged word is in memory (09 R310,
10 R347). -/
def State.homeWrite (s : State) (pa : Nat) (mask : BitVec 16) (d : Data) (tag : Tag) : State :=
  let s := s.flushLine (lineOf pa)
  { s with mem := s.mem.setWord (pa / 16) (mergeWord (s.mem.word (pa / 16)) mask d tag) }.noteWritten pa

/-- A write at the home slice that a mirrored region mirrors (14 R473). -/
def State.homeMerge (s : State) (pa : Nat) (mask : BitVec 16) (d : Data) (tag : Tag) : State :=
  let s1 := s.homeWrite pa mask d tag
  s1.mirrorWritten pa (s1.mem.word (pa / 16))

/-- The cluster's L2 holds the line in M or E (09 R300). -/
def State.owns (s : State) (k pa : Nat) : Option (Nat × L2Line) :=
  match (s.cluster k).l2Find (lineOf pa) with
  | some (slot, l) => if l.st = .m || l.st = .e then some (slot, l) else none
  | none => none

/-- A store of a core becomes visible (09 R300, R305): merged into the cluster's L2 where it owns the line, else performed at the
home slice. L1I copies of the line go. -/
def State.storeVisible (s : State) (k pa : Nat) (mask : BitVec 16) (d : Data) (tag : Tag) : State :=
  match s.owns k pa with
  | some (slot, l) =>
    let i := pa / 16 % 4
    let w := mergeWord (l.ws.getD i TWord.fresh) mask d tag
    let s := s.modCluster k (fun c => { c with l2 := tput c.l2 slot { l with st := .m, ws := l.ws.set i w } })
    (s.modClusterCores k (fun c => c.dropL1i (lineOf pa))).mirrorWritten pa w
  | none => s.homeMerge pa mask d tag

/-- The slice gives up its copy of a line. -/
def State.l3Drop (s : State) (line : Nat) : State :=
  match s.l3Find line with
  | some (key, _) => { s with l3 := tdel s.l3 key }
  | none => s

/-- A snoop of an L2 for ownership: its copy goes (09 R307). -/
def State.snoopOwn (s : State) (k line : Nat) : State :=
  match (s.cluster k).l2Find line with
  | some (slot, l) => s.l2Drop k slot l
  | none => s

/-- The clusters but k whose L2 holds the line. -/
def State.otherCopies (s : State) (k line : Nat) : List Nat :=
  (List.range 12).filter (fun j => j != k && ((s.cluster j).l2Find line).isSome)

/-- A cluster's L2 that holds a line in S obtains it for a write: every other copy goes (09 R304, R307). -/
def State.upgrade (s : State) (k line : Nat) : State :=
  match (s.cluster k).l2Find line with
  | some (slot, l) =>
    if l.st = .s then
      let s1 := ((s.otherCopies k line).foldl (fun s j => s.snoopOwn j line) s).l3Drop line
      let s2 := s1.modCluster k (fun c => { c with l2 := tput c.l2 slot { l with st := .e } })
      { s2 with dir := tput s2.dir line { presence := setBits 0 k k 1, excl := true, stamp := s2.dirStamp }, dirStamp := s2.dirStamp + 1 }
    else s
  | none => s

/-- The way of an L2 slot, and its access world (09 R316). -/
def slotWay (slot : Nat) : Nat := slot % 16
def slotSec (c : Cluster) (slot : Nat) : Bool := bit c.l2part (slotWay slot)
def l2Slot (line way : Nat) : Nat := line % 2048 * 16 + way

/-- The L2 way into which a miss may allocate: the held slot of the line, the fill way, or a way that is neither locked nor the
fill way, always of the access world (09 R316, R321, R323). -/
def Cluster.wayOk (c : Cluster) (line way core : Nat) (sec : Bool) : Bool :=
  let lock := c.l2lock
  match c.heldFind line with
  | some (slot, _) => slot == l2Slot line way
  | none =>
    decide (way < 16) && bit c.l2part way == sec && !(bit lock (16 + way)) &&
    (match tfind c.l2 (l2Slot line way) with | some l => l.st != .held | none => true) &&
    (if bit lock 0 && bits lock 9 8 == core && bit c.l2part (bits lock 7 4) == sec then way == bits lock 7 4
     else !(bit lock 0 && way == bits lock 7 4))

/-- The line is in the cluster's L2 in a way of the access world (09 R317). -/
def State.l2Has (s : State) (k line : Nat) (sec : Bool) : Option L2Line :=
  match (s.cluster k).l2Find line with
  | some (slot, l) => if slotSec (s.cluster k) slot == sec then some l else none
  | none => none

/-- Some L2 way may take the line for an access world (09 R316, R321, R326). -/
def State.l2Takes (s : State) (c line : Nat) (sec : Bool) : Bool :=
  let k := s.cluster (c / 4)
  k.l2On && (List.range 16).any (fun way => k.wayOk line way (c % 4) sec)

/-- A memory entry can drain: its L2 holds the line in M or E in a way of its world, or the line bypasses the L2 (09 R300, R316, R317,
R326). -/
def State.drainReady (s : State) (c : Nat) (e : SbEntry) : Bool :=
  match s.owns (c / 4) e.pa.toNat with
  | some (slot, _) => slotSec (s.cluster (c / 4)) slot == e.sec
  | none =>
    match (s.cluster (c / 4)).l2Find (lineOf e.pa.toNat) with
    | some (slot, _) => if slotSec (s.cluster (c / 4)) slot == e.sec then false else !(s.l2Takes c (lineOf e.pa.toNat) e.sec)
    | none => !(s.l2Takes c (lineOf e.pa.toNat) e.sec)

/-- An L1 cache is in use: its own disable and its L2's (09 R326). -/
def State.l1On (s : State) (c : Nat) (icache : Bool) : Bool :=
  !(bit (s.core c).l1ctl (if icache then 1 else 0)) && (s.cluster (c / 4)).l2On

/-- L1D holds the line in a way of the access world (09 R316, R317). -/
def State.l1dHit (s : State) (c line : Nat) (sec : Bool) : Bool :=
  (s.core c).l1d.any (fun e => e.2 == line && bit (s.core c).l1dpart (e.1 % 8) == sec)

/-- An access needs no fill: its L1 cache holds the line, or is disabled, or has no way of the access world, or a fill has brought the
line past it (09 R316, R326). -/
def State.l1Ready (s : State) (t : Nat) (icache : Bool) (line : Nat) (sec : Bool) : Bool :=
  let c := t / 16
  !(s.l1On c icache) ||
  (if icache then (s.core c).l1i.any (fun e => e.2 == line) || (s.thr t).codeFill.contains line
   else s.l1dHit c line sec || (s.thr t).filled.contains line ||
     (List.range 8).all (fun w => bit (s.core c).l1dpart w != sec))

/-- The miss registers of the cores of a cluster. -/
def State.clusterMshrs (s : State) (k : Nat) : List Mshr := (List.range 4).flatMap (fun i => (s.core (4 * k + i)).mshr)

/-- Requests of a cluster's L2 to the mesh: the lines its cores miss that it does not hold and has asked for (09 R303). -/
def State.l2Outstanding (s : State) (k : Nat) : List Nat :=
  (((s.clusterMshrs k).filter (fun m => !m.queued)).map (·.line)).filter (fun line => ((s.cluster k).l2Find line).isNone) |>.dedup

/-- The request for a line waits in the L2, which has 64 others outstanding (09 R303). -/
def State.l2Queued (s : State) (k line : Nat) : Bool :=
  (s.clusterMshrs k).any (fun m => m.queued && m.line == line) && !((s.l2Outstanding k).contains line)

/-- A place among the 64 requests of an L2 is free: the first request that waits there is made (09 R303, log 85). -/
def State.l2Admit (s : State) (k : Nat) : State :=
  if (s.l2Outstanding k).length < 64 then
    match (s.clusterMshrs k).find? (·.queued) with
    | some m => s.modClusterCores k (fun c => { c with mshr := c.mshr.map (fun n => if n.line = m.line then { n with queued := false } else n) })
    | none => s
  else s

/-- An access of thread t to a line is made (09 R303; 06 R211): true when it can be performed; else it waits for the fill, by a primary
miss that allocates an MSHR, by a secondary miss that merges into one, or for a free one. A 65th request of an L2 waits there. -/
def State.touchL1 (s : State) (t : Nat) (icache : Bool) (line : Nat) (sec : Bool) : Bool × State :=
  let c := t / 16
  if s.l1Ready t icache line sec then (true, s)
  else match (s.core c).mshr.find? (fun m => m.icache == icache && m.line == line) with
    | some m =>
      if m.thr.contains t || 9 ≤ m.thr.length then (false, s)
      else (false, s.modCore c (fun x => { x with mshr := x.mshr.map (fun n =>
        if n.icache == icache && n.line == line then { n with thr := n.thr ++ [t] } else n) }))
    | none =>
      if ((s.core c).mshr.filter (fun m => m.icache == icache)).length < (if icache then 4 else 16) then
        let out := s.l2Outstanding (c / 4)
        let q := ((s.cluster (c / 4)).l2Find line).isNone && !(out.contains line) && decide (64 ≤ out.length)
        (false, s.modCore c (fun x => { x with mshr := x.mshr ++ [{ icache := icache, line := line, sec := sec, thr := [t], queued := q }] }))
      else (false, s)

end Sys2Proof.Machine
end

