-- ==== Sys2Proof/Machine/CioBase.lean ====
section
/-! DEFINITION. The device timebase and the gate-inhibit path, which other units of the control IO and the safety island use
(11 R365, R391, R400 to R403). -/

namespace Sys2Proof.Machine

/-- The index of a register within its family. -/
def regIdx (base stride count k : Nat) : Option Nat :=
  (List.range count).find? (fun i => k == base + i * stride)

/-! ## The timebase (11 R365, R366) -/

/-- NOW in whole nanoseconds (11 R365). -/
def State.nowNs (s : State) : Nat := s.cio.now / 2 ^ 32 % 2 ^ 64

/-- The timestamp of this instant (11 R365). -/
def State.stamp (s : State) : Nat := s.nowNs % 2 ^ 32

/-- NOW as a data word. -/
def State.nowData (s : State) : Data := BitVec.ofNat 128 s.nowNs

/-- A signed field of n bits as an integer. -/
def signed (n v : Nat) : Int := if 2 ^ (n - 1) ≤ v % 2 ^ n then (v % 2 ^ n : Int) - 2 ^ n else (v % 2 ^ n : Int)

/-- The increment of a tick in units of 2^-32 ns, rounded with ties toward +∞; sl is S in ppm (11 R365). -/
def tickInc (adj sl : Int) : Int := (2 * (625 * 2 ^ 32 * (10 ^ 9 + adj + sl * 1000)) + 10 ^ 12) / (2 * 10 ^ 12)

/-- One tick: NOW advances by the increment of ADJ and by what the slew absorbs in it, at most its remainder (11 R365, R366). -/
def Cio.tick (c : Cio) (adj : Int) : Cio :=
  let base := tickInc adj 0
  let part := if 0 < c.slew then min c.slew (tickInc adj 100 - base)
    else if c.slew < 0 then max c.slew (tickInc adj (-100) - base) else 0
  { c with now := (c.now + (base + part).toNat) % 2 ^ 96, slew := c.slew - part }

/-- Several ticks. -/
def Cio.ticks (c : Cio) (adj : Int) : Nat → Cio
  | 0 => c
  | n + 1 => (c.tick adj).ticks adj n

/-- The adjustment of the rate (11 R366, R369). -/
def State.adj (s : State) : Int := signed 32 (s.rf Key.cioTbRate 31 0)

def State.tbAdvance (s : State) (n : Nat) : State := { s with cio := s.cio.ticks s.adj n }

/-! ## Units and faults (11 R391) -/

def State.gu (s : State) (u : Nat) : GateUnit := tget {} s.cio.gu u

def State.setGu (s : State) (u : Nat) (g : GateUnit) : State := { s with cio := { s.cio with gu := tset {} s.cio.gu u g } }

def State.modGu (s : State) (u : Nat) (f : GateUnit → GateUnit) : State := s.setGu u (f (s.gu u))

def State.sdIn (s : State) (n : Nat) : SdIn := tget {} s.cio.sd n

def State.setSd (s : State) (n : Nat) (x : SdIn) : State := { s with cio := { s.cio with sd := tset {} s.cio.sd n x } }

def State.enc (s : State) (n : Nat) : EncIf := tget {} s.cio.enc n

def State.setEnc (s : State) (n : Nat) (x : EncIf) : State := { s with cio := { s.cio with enc := tset {} s.cio.enc n x } }

def State.resCh (s : State) (n : Nat) : ResCh := tget {} s.cio.res n

def State.setRes (s : State) (n : Nat) (x : ResCh) : State := { s with cio := { s.cio with res := tset {} s.cio.res n x } }

/-- An input fault: bit 0 to 31 an input, 32 to 39 an encoder, 40 to 43 a resolver (11 R391). -/
def State.inputFault (s : State) (b : Nat) : State := s.raise 158 (BitVec.ofNat 128 (2 ^ b))

/-- A gate fault of unit u (11 R391). -/
def State.gateFault (s : State) (u : Nat) : State := s.raise 159 (BitVec.ofNat 128 (2 ^ u))

/-! ## Inhibit and trip (11 R400 to R403) -/

/-- Global inhibit is active (11 R400). -/
def Cio.global (c : Cio) : Bool := c.inhBdg || c.inhPin || c.inhSw

/-- The outputs of unit u are held off by a cause that is active; the pair hold acts as an inhibit does (14 R469). -/
def Cio.inhibited (c : Cio) (u : Nat) : Bool := c.global || c.pairHold || bit c.utrip u

/-- Some channel of the unit is switched by an inhibit: every channel is off, and off since now, and stays so at least to the next
boundary (11 R400, R401, R403). -/
def GateUnit.offNow (g : GateUnit) (now250 : Nat) : GateUnit :=
  { g with on := 0, overlap := 0,
           offAt := (List.range 6).foldl (fun t c => if bit g.on c then tput t c now250 else t) g.offAt }

/-- NOW in units of 250 ps. -/
def State.now250 (s : State) : Nat := s.cio.now / 2 ^ 30

/-- The event that channel c of unit u raises (11 R399). -/
def State.evsel (s : State) (u c : Nat) : Nat := s.rf (Key.guEv u) (3 * c + 2) (3 * c)

/-- Every channel of a unit turns off, those that were on with their events (11 R399). -/
def State.offUnit (s : State) (u at250 : Nat) : State :=
  let g := s.gu u
  (List.range 6).foldl (fun s c => if bit g.on c && s.evsel u c == 4 then s.raise (60 + 6 * u + c) (BitVec.ofNat 128 (at250 / 4)) else s)
    (s.setGu u (g.offNow at250))

/-- The channels of the units that p names go off and are held (11 R400, R401). -/
def State.holdUnits (s : State) (p : Nat → Bool) : State :=
  (List.range 16).foldl (fun s u => if p u then (s.offUnit u s.now250).modGu u (fun g => { g with hold := true }) else s) s

/-- Source 156 when a cause of the global inhibit newly asserts, with every cause active (11 R391). -/
def State.raiseInhibit (s : State) : State :=
  s.raise 156 (BitVec.ofNat 128 (b2n s.cio.inhBdg + 2 * b2n s.cio.inhPin + 4 * b2n s.cio.inhSw))

/-- The ball cause of the global inhibit (11 R400): latched. -/
def State.assertPin (s : State) : State :=
  if s.cio.inhPin then s
  else ({ s with cio := { s.cio with inhPin := true } }.holdUnits (fun _ => true)).raiseInhibit

/-- The software cause (11 R400). -/
def State.assertSw (s : State) : State :=
  if s.cio.inhSw then s
  else ({ s with cio := { s.cio with inhSw := true } }.holdUnits (fun _ => true)).raiseInhibit

/-- The Badger island's cause (11 R400, 18 R586). -/
def State.assertBdg (s : State) : State :=
  if s.cio.inhBdg then s
  else ({ s with cio := { s.cio with inhBdg := true } }.holdUnits (fun _ => true)).raiseInhibit

/-- The units that the mask names trip; source 157 with those newly tripped (11 R391, R400). -/
def State.trip (s : State) (units : BitVec 16) : State :=
  let fresh := units &&& ~~~ s.cio.utrip
  if fresh = 0 then s
  else ({ s with cio := { s.cio with utrip := s.cio.utrip ||| units } }.holdUnits (fun u => bit fresh u)).raise 157
    (fresh.setWidth 128)

/-- A cause was cleared: a unit that is not RUN and has no cause left is no longer held (11 R403). -/
def State.releaseHolds (s : State) : State :=
  (List.range 16).foldl (fun s u => s.modGu u (fun g =>
    if !g.run && !(s.cio.inhibited u) then { g with hold := false } else g)) s

/-- A trip cause of unit u is active: its fault ball, a comparator over range that trips it, or a failed comparison
channel that trips it (11 R402, 18 R593). -/
def State.tripCause (s : State) (u : Nat) : Bool :=
  (bit s.cio.fltLow u && s.rb Key.inhCfg (16 + u)) ||
  (List.range 32).any (fun n => (s.sdIn n).overRange && s.rb (Key.sdCmp n) 63 && s.rb (Key.sdCfg n) 63 &&
    s.rb (Key.sdCmp n) 62 && s.rf (Key.sdCmp n) 59 56 == u) ||
  (List.range 32).any (fun n => s.rb (Key.bdgChstat n) 63 && s.rb (Key.bdgChcfg n) 62 && s.rb (Key.bdgChcfg n) (32 + u))

/-- The gate balls of unit u, none where they are in high impedance: in device reset and until MODE is first written other than 0 (19
R620); then each channel at its level, active low where POL says so (11 R392). -/
def State.gateBalls (s : State) (u : Nat) : Option (BitVec 6) :=
  if s.aon.inReset || !(bit s.cio.driven u) then none else some ((s.gu u).on ^^^ BitVec.ofNat 6 (s.rf (Key.guCfg u) 53 48))

end Sys2Proof.Machine
end

