-- ==== Sys2Proof/Machine/Flags.lean ====
section
/-! DEFINITION. The flags (02 R62, 03 R93), lanes (02 R51), and the flag computation of every operation: each operation answers
a result per lane with its contributions, and the flags are gathered over the enabled lanes. -/

namespace Sys2Proof.Machine

/-- The flags an instruction writes; none leaves a flag unchanged (02 R62). -/
structure FlagUpd where
  n : Option Bool := none
  z : Option Bool := none
  c : Option Bool := none
  v : Option Bool := none
  t : Option Bool := none
deriving DecidableEq, Repr

/-- One flag's new value. -/
def flagBit (old : Bool) (o : Option Bool) : Bool := o.getD old

/-- The five flags after an update: N Z C V T in bits 4 to 0 (02 R629). -/
def applyFlags (f : BitVec 5) (u : FlagUpd) : BitVec 5 :=
  BitVec.ofNat 5 (b2n (flagBit (bit f 4) u.n) * 16 + b2n (flagBit (bit f 3) u.z) * 8 + b2n (flagBit (bit f 2) u.c) * 4 +
    b2n (flagBit (bit f 1) u.v) * 2 + b2n (flagBit (bit f 0) u.t))

/-- Whether a condition holds (03 R93). -/
def condHolds (cond : BitVec 4) (f : BitVec 5) : Bool :=
  let n := bit f 4
  let z := bit f 3
  let c := bit f 2
  let v := bit f 1
  let t := bit f 0
  match cond.toNat with
  | 0 => true
  | 1 => z
  | 2 => !z
  | 3 => c
  | 4 => !c
  | 5 => n
  | 6 => !n
  | 7 => v
  | 8 => c && !z
  | 9 => !c || z
  | 10 => n == v
  | 11 => n != v
  | 12 => !z && n == v
  | 13 => z || n != v
  | 14 => t
  | _ => !t

/-! ## Lanes (02 R51, 03 R90, R92) -/

/-- Lane width of an arrangement. -/
def laneW (arr : Nat) : Nat :=
  match arr with
  | 0 => 128
  | 1 => 64
  | 2 => 32
  | _ => 16

def laneCount (arr : Nat) : Nat := 128 / laneW arr

/-- Lane i of a word. -/
def laneOf (d : Data) (w i : Nat) : Nat := (d.toNat >>> (w * i)) % 2 ^ w

/-- A word from its lanes, lane 0 first. -/
def joinLanes (w : Nat) : List Nat → Nat
  | [] => 0
  | a :: r => a % 2 ^ w + 2 ^ w * joinLanes w r

/-- The bytes that the enabled lanes cover (03 R92). -/
def laneBytes (arr : Nat) (mask : BitVec 8) : BitVec 16 :=
  BitVec.ofNat 16 ((List.range 16).foldl (fun acc i => acc + 2 ^ i * b2n (bit mask (i / (laneW arr / 8)))) 0)

/-- A lane read as signed or unsigned. -/
def laneInt (uns : Bool) (w a : Nat) : Int := if uns then a else if a < 2 ^ (w - 1) then a else (a : Int) - 2 ^ w

/-- A lane that holds an integer modulo 2^w. -/
def wrapLane (w : Nat) (x : Int) : Nat := (x % (2 ^ w : Int)).toNat

def laneMin (uns : Bool) (w : Nat) : Int := if uns then 0 else -(2 ^ (w - 1) : Int)
def laneMax (uns : Bool) (w : Nat) : Int := if uns then 2 ^ w - 1 else 2 ^ (w - 1) - 1

/-- The exact value does not fit its interpretation (04 R120). -/
def overflows (uns : Bool) (w : Nat) (x : Int) : Bool := decide (x < laneMin uns w) || decide (laneMax uns w < x)

/-- The result of an exact value: the nearest bound under SAT, else wrapped (04 R121). -/
def fitLane (sat uns : Bool) (w : Nat) (x : Int) : Nat :=
  if sat && decide (x < laneMin uns w) then wrapLane w (laneMin uns w)
  else if sat && decide (laneMax uns w < x) then wrapLane w (laneMax uns w)
  else wrapLane w x

/-- One lane's result with its contributions to the flags (02 R62, 04 R128). -/
structure LaneOut where
  r : Nat
  n : Bool
  z : Bool
  c : Bool
  v : Bool
deriving DecidableEq, Repr

/-- N and Z of a lane from its bits (02 R62). -/
def laneOut (w r : Nat) (c v : Bool) : LaneOut := { r := r, n := decide (2 ^ (w - 1) ≤ r), z := r == 0, c := c, v := v }

/-- Which flags an opcode writes (the Flags column of 04 and 05). -/
structure FlagSet where
  n : Bool := false
  z : Bool := false
  c : Bool := false
  v : Bool := false
deriving DecidableEq, Repr

def flNZCV : FlagSet := { n := true, z := true, c := true, v := true }
def flNZV : FlagSet := { n := true, z := true, v := true }
def flNZC : FlagSet := { n := true, z := true, c := true }
def flNZ : FlagSet := { n := true, z := true }
def flZ : FlagSet := { z := true }
def flV : FlagSet := { v := true }
def flNone : FlagSet := {}

/-- The flags over the enabled lanes (02 R62, 03 R92). -/
def gatherFlags (fs : FlagSet) (ls : List LaneOut) : FlagUpd :=
  { n := if fs.n then some (ls.any (·.n)) else none, z := if fs.z then some (ls.all (·.z)) else none,
    c := if fs.c then some (ls.any (·.c)) else none, v := if fs.v then some (ls.any (·.v)) else none }

end Sys2Proof.Machine
end

