-- ==== Sys2Proof/Machine/Deliver.lean ====
section
/-! DEFINITION. What reaches a thread from outside its instructions: Den deliveries and wakes (02 R43 to R47; 05 R175, R176), HINGE
requests, replies and failures (05 R188 to R193; 15 R495 to R499), and stopping a thread (05 R200). -/

namespace Sys2Proof.Machine

/-! ## Deliveries and wakes -/

/-- A PARKED thread becomes ACTIVE; under WDCTL.AUTO the watchdog restarts (05 R175, R176; 07 R256, R257). -/
def Thread.unpark (th : Thread) : Thread :=
  { th with st := .active, park := none, wdCount := if bit th.wdctl 60 then 0 else th.wdCount,
            wdDone := th.wdDone && !(bit th.wdctl 60) }

/-- A delivery writes a Den word and wakes a thread that waits for that word to become FULL (02 R46, R47; 05 R175). -/
def Thread.deliver (th : Thread) (n : Nat) (w : TWord) : Thread :=
  let th1 := th.setDen n w
  match th1.park with
  | some (.words _ ws) => if th1.st == .parked && ws.contains n && w.tag == Tag.full then th1.unpark else th1
  | _ => th1

/-- A word delivered FULL (02 R47). -/
def fullWord (d : Data) : TWord := { data := d, tag := Tag.full }

/-- A waking event: it wakes a thread parked in PARK, else sets the pending wake (05 R176). -/
def Thread.wakeUp (th : Thread) : Thread :=
  match th.park with
  | some (.wake _) => if th.st == .parked then th.unpark else { th with wake := true }
  | _ => { th with wake := true }

/-- A sleeping core is woken before a delivery (06 R222). -/
def State.wakeCore (s : State) (c : Nat) : State := s.modCore c (fun x => { x with pwr := .c0 })

/-- Consecutive words are delivered, in ascending order; words beyond D255 are discarded (05 R192). -/
def Thread.deliverRun (th : Thread) : Nat → List TWord → Thread
  | _, [] => th
  | n, w :: r => (if n < 256 then th.deliver n w else th).deliverRun (n + 1) r

/-! ## HINGE (05 R187 to R193; 15 R495 to R499) -/

/-- The service thread that s names, with its window (15 R495, R496). -/
def State.service (s : State) (n : Nat) : Option Nat :=
  let e := s.reg (Key.evrHsvc n)
  let t := bits e 9 0
  if bit e 63 && decide (t ≤ 767) && (s.thr t).sec && bits (s.thr t).hwin 13 8 != 0 then some t else none

/-- L1I lines of a core are invalidated; a fill in flight is not installed (09 R319). -/
def State.dropL1i (s : State) (c : Nat) : State :=
  s.modCore c (fun x => { x with l1i := [], mshr := x.mshr.map (fun m => if m.icache then { m with noInstall := true } else m) })

/-- Both cores of a HINGE lose their L1I lines (09 R319). -/
def State.hingeFlush (s : State) (caller svc : Nat) : State := (s.dropL1i (svc / 16)).dropL1i (caller / 16)

/-- The caller of a request still is the one that waits for it: its thread's accepted HINGE is that HINGE. -/
def State.callerOf (s : State) (r : HingeReq) : Bool :=
  !r.orphan && (s.thr r.caller).hinge.contains { svc := r.svc, slotPc := r.slotPc }

/-- The request of a caller ends: V is set or cleared, and a SUSPENDED caller is ACTIVE at the instruction after its delay slot
(05 R192, 15 R499). -/
def State.resumeCaller (s : State) (r : HingeReq) (v : Bool) : State :=
  let h : HingeCall := { svc := r.svc, slotPc := r.slotPc }
  if s.callerOf r then
    (s.wakeCore (r.caller / 16)).modThr r.caller (fun th =>
      { th with flags := setBits th.flags 1 1 (b2n v), hinge := th.hinge.erase h,
                st := if th.st == .suspended && th.hinge.head? == some h then .active else th.st })
  else s

/-- A request fails (15 R499). -/
def State.failReq (s : State) (r : HingeReq) : State := s.resumeCaller r true

/-- Every request, waiting or outstanding, for which p holds fails (15 R499). -/
def State.failWhere (s : State) (p : HingeReq → Bool) : State :=
  let rs := s.hingeWait.filter p ++ ((s.hingeOut.map (·.2)).filter p)
  let s1 := { s with hingeWait := s.hingeWait.filter (fun r => !(p r)), hingeOut := s.hingeOut.filter (fun e => !(p e.2)) }
  rs.foldl (fun s r => s.failReq r) s1

/-- A core is FENCED until device reset: it is lost or has failed its Core Rotation Test (15 R499; 18 R585, R597). -/
def State.coreGone (s : State) (c : Nat) : Bool := (s.core c).lost || (s.core c).crtFailed

/-- The HINGE that a caller waits for in SUSPENDED is orphaned when the caller is stopped or trapped out of it; a request still waiting
is not written (05 R200, 07 R631). -/
def State.orphan (s : State) (t : Nat) : State :=
  match (s.thr t).hinge with
  | [] => s
  | h :: hs =>
    let its (r : HingeReq) : Bool := r.caller == t && r.slotPc == h.slotPc && r.svc == h.svc
    let s1 := { s with hingeWait := s.hingeWait.filter (fun r => !(its r)),
                       hingeOut := s.hingeOut.map (fun (e : Nat × HingeReq) => (e.1, if its e.2 then { e.2 with orphan := true } else e.2)) }
    s1.modThr t (fun th => { th with hinge := hs })

/-- A reply reaches its caller (05 R192, R193; 15 R498). -/
def State.replyTo (s : State) (r : HingeReq) (ws : List TWord) : State :=
  if s.callerOf r then (s.modThr r.caller (fun th => th.deliverRun r.base ws)).resumeCaller r false else s

/-- Replies held for the threads of a core that has returned to service (15 R498). -/
def State.releaseReplies (s : State) (c : Nat) : State :=
  let mine := s.hingeHeld.filter (fun h => h.req.caller / 16 == c)
  let s1 := { s with hingeHeld := s.hingeHeld.filter (fun h => h.req.caller / 16 != c) }
  mine.foldl (fun s h => s.replyTo h.req h.ws) s1

/-! ## Stopping (05 R200; 07 R246, R257) -/

/-- Nothing of a thread's instruction is in flight; a code request that a TLBI met is made again (08 R291). A read of the PCIe window
that nobody waits for any more still ends (13 R451). -/
def Thread.clear (th : Thread) : Thread :=
  let reads := (th.extReq.toList.map (fun r => r.pa)).filter (fun pa => decide (0x800000000000 ≤ pa.toNat) && decide (pa.toNat < 0xC00000000000))
  { th with extReq := none, orphans := th.orphans ++ reads, stall := none, late := none, extAns := [], xlat := [], block := none, blockOp := none, filled := [], codeXlat := none }

/-- Thread t stops where it is with nothing in flight (07 R246, 05 R200); the values that 02 R74 leaves to the instruction after an own
SYSWR do not outlive the stop (DESIGN CHOICE, log 64). -/
def Thread.halt (th : Thread) (pc : Addr) : Thread :=
  { th.clear with st := .stopped, pc := pc, slot := none, park := none, old := none }

/-- What a thread had in flight is gone: its walks, its requests to untagged regions (06 R225). -/
def State.dropInFlight (s : State) (t : Nat) : State :=
  s.modCore (t / 16) (fun c => { c with walks := c.walks.filter (fun w => w.fetch || w.tid != t) })

/-- The progress of a block instruction in flight goes into the TCW: the steps committed, or those with which it started while it still
resolves or reads its operands (06 R225, R230). -/
def Thread.saveBlock (th : Thread) : Thread :=
  let word (opc step : Nat) : W64 := BitVec.ofNat 64 (2 ^ 63 + opc * 2 ^ 48 + step)
  match th.block, th.blockOp with
  | some b, _ => { th with tcw := word b.opc b.step }
  | none, some (opc, step) => { th with tcw := word opc step }
  | none, none => th

/-- The PC at which a parked thread resumes is its WAITD or PARK; any other thread's is its next instruction (05 R178, R200). -/
def Thread.resumePc (th : Thread) : Addr :=
  match th.park with
  | some (.wake pc) => pc
  | some (.words pc _) => pc
  | none => th.pc

/-- A thread becomes STOPPED: what it had in flight is abandoned, a block instruction's progress is kept, a SUSPENDED thread's
request becomes orphaned, requests that it serves fail (05 R200, 15 R499). A pending delay slot is lost (log 79). -/
def State.stopThread (s : State) (t : Nat) : State :=
  let s1 := s.dropInFlight t
  let th := (s1.thr t).saveBlock
  let s2 := s1.setThr t (th.halt th.resumePc)
  let s3 := if th.st == .suspended then s2.orphan t else s2
  s3.failWhere (fun r => r.svc == t)

end Sys2Proof.Machine
end

