-- ==== Sys2Proof/Machine/Trap.lean ====
section
/-! DEFINITION. The result of a part of an instruction, and taking a trap: the one operation by which every trap, displacing
interrupt and watchdog expiry enters its handler (07 R234 to R246). -/

namespace Sys2Proof.Machine

/-! ## Results of a part of an instruction -/

/-- A part of an instruction is done, raises a trap, or waits and is not yet performed (log 3). -/
inductive Res (α : Type) where
  | ok (a : α) (s : State)
  | trap (x : Exn) (s : State)
  | wait (s : State)

def Res.bind {α β : Type} (r : Res α) (f : α → State → Res β) : Res β :=
  match r with
  | .ok a s => f a s
  | .trap x s => .trap x s
  | .wait s => .wait s

/-- Runs a list of parts in order and gathers what they answer. -/
def Res.seq {α β : Type} (f : α → State → Res β) : List α → State → Res (List β)
  | [], s => .ok [] s
  | a :: r, s => (f a s).bind (fun b s => (Res.seq f r s).bind (fun bs s => .ok (b :: bs) s))

/-! ## Taking a trap (07 R234 to R246) -/

/-- The handler class of a code (07 R234). -/
def trapClass (code : Nat) : Nat :=
  if code = 0x20 ∨ code = 0x21 then 1 else if code = 0x30 then 2 else if code = 0x31 then 3 else 0

/-- The TROUTE bit of a code (07 R237); none for codes it does not route. -/
def routeBit (code : Nat) : Option Nat :=
  if code = 0x20 then some 7
  else if code = 0x1A ∨ code = 0x19 then some 6
  else if code = 0x18 then some 5
  else if 0x10 ≤ code ∧ code ≤ 0x15 then some 4
  else if code = 0x0C ∨ code = 0x0D then some 3
  else if 0x06 ≤ code ∧ code ≤ 0x09 then some 2
  else if 0x03 ≤ code ∧ code ≤ 0x05 then some 1
  else if code = 0x01 ∨ code = 0x02 then some 0
  else none

/-- Whether a trap chooses bank U (07 R236); named is the bank that a binding's TLVL or the watchdog's ACT names. -/
def chooseU (th : Thread) (x : Exn) (named : Bool) : Bool :=
  if 2 ≤ th.lvl.toNat then true
  else if x.code = 0x21 then true
  else if x.code = 0x31 ∨ x.code = 0x30 then named
  else if x.stage = 2 then true
  else match routeBit x.code with
    | some b => bit th.troute b
    | none => false

/-- The level of the bank's owner (07 R236). -/
def ownerLvl (sec u : Bool) : BitVec 2 := if u then (if sec then 3 else 2) else 1

/-- The saved status of 07 R240. -/
def statusWord (esc : Bool) (ctl : BitVec 8) (lvl : BitVec 2) (flags : BitVec 5) : W64 :=
  BitVec.ofNat 64 (b2n esc * 2 ^ 33 + 2 ^ 32 + ctl.toNat * 2 ^ 16 + lvl.toNat * 2 ^ 8 + flags.toNat)

/-- The cause word of 07 R241. -/
def causeWord (x : Exn) : W64 :=
  BitVec.ofNat 64 (x.callno * 2 ^ 48 + x.src * 2 ^ 32 + x.stage * 2 ^ 16 + x.step * 2 ^ 12 + x.opnd * 2 ^ 10 +
    b2n x.half * 2 ^ 9 + b2n x.wr * 2 ^ 8 + x.code)

/-- The bank that trap entry writes (07 R243); the vector word stays. A delay slot whose length settles the pending next instruction or a
return address is noted beside its word (05 R163, R165; log 62). -/
def TrapBank.entered (b : TrapBank) (th : Thread) (x : Exn) (esc : Bool) (pc : Addr) (npc : Option Addr) : TrapBank :=
  { b with
    pc := pc.setWidth 64,
    npc := match npc with | none => 0 | some a => (1#64 <<< 63) ||| a.setWidth 64,
    slot := if npc.isSome then th.slot.filter (fun sl => sl.next.isNone || sl.call) else none,
    stat := statusWord esc th.ctl th.lvl th.flags,
    cause := causeWord x,
    addr := x.addr.setWidth 64,
    ipa := x.ipa.setWidth 64,
    tcw := th.tcw }

/-- Trap entry (07 R236, R239, R243, R245, R246, 06 R231): pc is the saved PC, npc the pending next instruction when the saved
PC is a delay slot, stopPc where a double trap stops. What 02 R74 and 08 R267 leave to the instruction after an own SYSWR does not
outlive the entry (DESIGN CHOICE, log 64). The handler's first line is requested anew (06 R224). -/
def State.trapEnter (s : State) (t : Nat) (x : Exn) (named : Bool) (pc : Addr) (npc : Option Addr) (stopPc : Addr) : State :=
  let th := s.thr t
  let u0 := chooseU th x named
  let esc := !u0 && bit th.bankS.stat 32 && x.code != 0x30
  let u := u0 || esc
  let s := s.dropInFlight t
  if u && bit th.bankU.stat 32 && x.code != 0x30 then
    let s := s.setThr t (th.halt stopPc)
    let s := s.setReg Key.evrHaltlog (BitVec.ofNat 64 (b2n s.haltUnread * 2 ^ 63 + t))
    ({ s with haltUnread := true }.raise (416 + t / 64) 0).failWhere (fun r => r.svc == t)
  else
    let b := if u then th.bankU else th.bankS
    let b' := b.entered th x esc pc npc
    let vec := b.vec
    let th' := { th.clear with
      st := .active, lvl := ownerLvl th.sec u, ctl := setBits th.ctl 0 0 (b2n (bit vec 0)),
      pc := BitVec.ofNat 48 (bits vec 47 8 * 256 + 0x40 * trapClass x.code), tcw := 0, slot := none, park := none, old := none,
      entered := true, fetch := [], codeFill := [], fetchBad := none, codeXlat := none, asked := none, mmioW := none,
      mmioOld := (th.mmioW.map (fun w => { w with bankU := u, after := true, depth := 0 })).toList ++
        th.mmioOld.map (fun w => if w.bankU == u then { w with depth := w.depth + 1 } else w),
      bankS := if u then th.bankS else b', bankU := if u then b' else th.bankU }
    s.setThr t th'

/-- The record of an MMIO write's fault (03 R108, R111; 07 R258). -/
def MmioWait.exn (w : MmioWait) (code : Nat) : Exn :=
  { code := code, step := 8, opnd := w.opnd, half := w.half, wr := true, addr := w.addr }

/-- The write that a thread waits for ends with a fault, at the write, or for a thread displaced since at the instruction after it (03
R111; 06 R226; 07 R243). -/
def State.refuseWrite (s : State) (t : Nat) (w : MmioWait) (code : Nat) : State :=
  let th := s.thr t
  let s1 := s.setThr t { th with mmioW := none }
  if th.st == .stopped then s1
  else if w.after then s1.trapEnter t (w.exn code) false th.pc (th.slot.bind (·.next)) th.pc
  else s1.trapEnter t (w.exn code) false w.pc (w.slot.map (fun sl => sl.next.getD (w.pc + BitVec.ofNat 48 w.len))) w.pc

end Sys2Proof.Machine
end

