-- ==== Sys2Proof/Machine/Translate.lean ====
section
/-! DEFINITION. Address translation (08): contexts, TLBs, the walk as a machine of one table read at a time, the walk cache,
permissions, flag updates and invalidation. -/

namespace Sys2Proof.Machine

/-! ## Contexts (08 R261 to R266) -/

/-- The context of an access by its world and level, from the translation words in force (08 R261, R266). -/
def mkXCtx (sec : Bool) (lvl : BitVec 2) (xs1 xs1h xs2 : W64) : XCtx :=
  { sec := sec, upper := decide (2 ≤ lvl.toNat), user := decide (lvl = 0), xs1 := if 2 ≤ lvl.toNat then xs1h else xs1,
    xs2 := if !sec && decide (lvl.toNat < 2) then xs2 else 0 }

def XCtx.en1 (x : XCtx) : Bool := bit x.xs1 0
def XCtx.en2 (x : XCtx) : Bool := bit x.xs2 0

/-- The effective VMID (08 R266). -/
def XCtx.vmid (x : XCtx) : BitVec 16 := if x.en2 then (x.xs2 >>> 48).setWidth 16 else 0

def XCtx.asid (x : XCtx) : BitVec 16 := (x.xs1 >>> 48).setWidth 16

/-- The level-0 table address that a context word names (08 R265). -/
def tableBase (w : W64) : Addr := BitVec.ofNat 48 (bits w 47 8 * 256)

/-! ## Tables (08 R268 to R272) -/

/-- The index of an input address at a level (08 R268). -/
def tblIndex (a : Addr) : Nat → Nat
  | 0 => bits a 47 44
  | 1 => bits a 43 34
  | 2 => bits a 33 24
  | _ => bits a 23 14

/-- log2 of what a leaf at a level covers, and of a TLB entry's size (08 R268, R282). -/
def leafBits (lvl : Nat) : Nat := if lvl = 1 then 34 else if lvl = 2 then 24 else 14
def sizeBits (size : Nat) : Nat := 14 + 10 * size

/-- An address with its low k bits cleared. -/
def alignTo (a : Addr) (k : Nat) : Addr := BitVec.ofNat 48 (a.toNat >>> k <<< k)

/-- An entry is a table pointer (08 R269). -/
def isTable (d : Data) (lvl : Nat) : Bool := bit d 1 && decide (lvl < 3)

/-- The output address of an entry (08 R269). -/
def entryOA (d : Data) : Addr := BitVec.ofNat 48 (bits d 47 14 * 2 ^ 14)

/-- V, T and OA of an entry, which a flag update compares (08 R278). -/
def leafSig (d : Data) : Data := d &&& 0x0000FFFFFFFFC003

/-- A malformed entry (08 R271, R272); leaf rules for stage 1 in a normal or secure regime, or stage 2. -/
def malformed (w : TWord) (lvl : Nat) (stage2 sec : Bool) : Bool :=
  let d := w.data
  !(w.tag = Tag.bits || w.tag = Tag.int || w.tag = Tag.ptr) ||
  !(bit d 0) ||
  (!(bit d 1) && (lvl == 0 || lvl == 3)) ||
  bits d 63 48 != 0 || bits d 13 7 != 0 ||
  (!(isTable d lvl) &&
    (bit d 4 || bit d 71 || bit d 67 ||
     (stage2 && (bits d 70 68 != 0 || bit d 5)) ||
     (bit d 6 && (stage2 || !sec)) ||
     (lvl == 2 && bits d 23 14 != 0) || (lvl == 1 && bits d 33 14 != 0) ||
     (bit d 65 && !(bit d 64)) || (bit d 69 && !(bit d 68))))

/-! ## TLBs (08 R282 to R285, R288) -/

/-- An entry translates an access address of a context (08 R284). -/
def TlbEntry.hits (e : TlbEntry) (x : XCtx) (va : Addr) : Bool :=
  !e.stage2Only && e.sec == x.sec && e.upper == x.upper && e.vmid == x.vmid && (e.global || e.asid == x.asid) &&
  alignTo va (sizeBits e.size) == e.va

/-- A stage-2 entry translates an IPA of a context (08 R283, R284). -/
def TlbEntry.hits2 (e : TlbEntry) (x : XCtx) (ipa : Addr) : Bool :=
  e.stage2Only && e.sec == x.sec && e.upper == x.upper && e.vmid == x.vmid && alignTo ipa (sizeBits e.size) == e.va

/-- Two entries with equal tags, kind, size and range. -/
def TlbEntry.same (a b : TlbEntry) : Bool :=
  a.stage2Only == b.stage2Only && a.sec == b.sec && a.upper == b.upper && a.vmid == b.vmid &&
  (a.stage2Only || (a.global == b.global && a.asid == b.asid)) && a.size == b.size && a.va == b.va

/-- The L2 TLB set of an entry (08 R282). -/
def TlbEntry.set (e : TlbEntry) : Nat := bits e.va (sizeBits e.size + 7) (sizeBits e.size)

/-- Fully associative LRU: the newest first, at most n entries. -/
def lruInsert (n : Nat) (e : TlbEntry) (l : List TlbEntry) : List TlbEntry := (e :: l.filter (fun f => !(f.same e))).take n

/-- Removes the last entry for which p holds. -/
def dropLast (p : TlbEntry → Bool) (l : List TlbEntry) : List TlbEntry := (l.reverse.eraseP p).reverse

/-- The L2 TLB takes an entry: its set keeps 8 ways, the least recent unlocked one leaves (08 R282); a set whose ways are all
locked cannot be reached since at most two lock (R294). -/
def l2tlbInsert (e : TlbEntry) (l : List TlbEntry) : List TlbEntry :=
  let l := l.filter (fun f => !(f.same e) || f.lock.isSome)
  if l.any (fun f => f.same e) then l
  else if 8 ≤ (l.filter (fun f => f.set == e.set)).length then e :: dropLast (fun f => f.set == e.set && f.lock.isNone) l
  else e :: l

/-- Moves an entry to the front of a recency list. -/
def touchEntry (e : TlbEntry) (l : List TlbEntry) : List TlbEntry := e :: l.erase e

/-- A walk-cache entry holds the table of a level for an input address (08 R288). -/
def WalkEntry.hits (e : WalkEntry) (x : XCtx) (stage2 : Bool) (a : Addr) : Bool :=
  e.stage2 == stage2 && e.sec == x.sec && e.upper == x.upper && e.vmid == x.vmid && (stage2 || e.asid == x.asid) &&
  alignTo a (if e.lvl = 0 then 44 else leafBits e.lvl) == e.va

/-- The deepest table entry that the walk cache holds for an input address (08 R288). -/
def Core.walkHit (c : Core) (x : XCtx) (stage2 : Bool) (a : Addr) : Option WalkEntry :=
  [2, 1, 0].findSome? (fun l => c.wcache.find? (fun e => e.lvl == l && e.hits x stage2 a))

/-- Where a walk of a stage starts: after the deepest table entry that the walk cache holds; the hit renews its recency (08 R288). -/
def walkFrom (c : Nat) (x : XCtx) (stage2 : Bool) (a base : Addr) (s : State) : Nat × Addr × State :=
  match (s.core c).walkHit x stage2 a with
  | some e => (e.lvl + 1, e.oa, s.modCore c (fun k => { k with wcache := e :: k.wcache.erase e }))
  | none => (0, base, s)

/-- A stage-2 entry of the L2 TLB translates an IPA for a walk; the hit renews its recency (08 R282, R285). -/
def l2Stage2 (c : Nat) (x : XCtx) (ipa : Addr) (s : State) : Option (TlbEntry × State) :=
  ((s.core c).l2tlb.find? (fun e => e.hits2 x ipa)).map (fun e =>
    (e, s.modCore c (fun k => { k with l2tlb := touchEntry e k.l2tlb })))

/-- The walk cache takes a table entry: 64 entries, newest first (08 R288). -/
def Core.wcacheAdd (c : Core) (x : XCtx) (stage2 : Bool) (lvl : Nat) (a oa : Addr) : Core :=
  let e : WalkEntry := { stage2 := stage2, sec := x.sec, upper := x.upper, vmid := x.vmid, asid := x.asid, lvl := lvl,
                         va := alignTo a (if lvl = 0 then 44 else leafBits lvl), oa := oa }
  { c with wcache := (e :: c.wcache.erase e).take 64 }

/-! ## The walk (08 R274 to R281) -/

/-- The trap record of a walk's fault (08 R281). -/
def Walk.exn (w : Walk) (code stage : Nat) (wr : Bool) (ipa : Addr) : Exn :=
  { code := code, step := if w.fetch then 1 else 5, opnd := w.opnd, half := w.half, wr := wr, stage := stage, addr := w.va,
    ipa := if stage = 2 then ipa else 0 }

/-- What a walk answers: it goes on, or it has the entry of its access. -/
inductive WalkOut where
  | more (w : Walk)
  | found (e : TlbEntry)

/-- The stage-1 entry that a leaf at a level gives; its pa is the output page, an IPA when stage 2 follows. -/
def leafEntry1 (x : XCtx) (va : Addr) (lvl : Nat) (d : Data) (at1 ipa1 : Addr) (tw : Bool) : TlbEntry :=
  { stage2Only := false, has1 := true, has2 := false, sec := x.sec, upper := x.upper, vmid := x.vmid, asid := x.asid,
    global := bit d 5, size := 3 - lvl, va := alignTo va (leafBits lvl), pa := entryOA d, ipa := entryOA d,
    perm1 := BitVec.ofNat 6 (bits d 70 68 * 8 + bits d 66 64), perm2 := 7, nsa := bit d 6, df1 := bit d 3, df2 := true,
    leaf1 := at1, leaf1Ipa := ipa1, leaf1W := tw, leaf2 := 0, sig1 := leafSig d, sig2 := 0, lock := none }

/-- Stage 1 flat under stage 2 (08 R262, R283). -/
def flatEntry1 (x : XCtx) (va : Addr) : TlbEntry :=
  { stage2Only := false, has1 := false, has2 := false, sec := x.sec, upper := x.upper, vmid := x.vmid, asid := x.asid,
    global := false, size := 2, va := alignTo va 34, pa := alignTo va 34, ipa := alignTo va 34, perm1 := 0x3F, perm2 := 7,
    nsa := false, df1 := true, df2 := true, leaf1 := 0, leaf1Ipa := 0, leaf1W := true, leaf2 := 0, sig1 := 0, sig2 := 0, lock := none }

/-- The stage-2 entry that a leaf at a level gives (08 R283). -/
def leafEntry2 (x : XCtx) (ipa : Addr) (lvl : Nat) (d : Data) (at2 : Addr) : TlbEntry :=
  { stage2Only := true, has1 := false, has2 := true, sec := x.sec, upper := x.upper, vmid := x.vmid, asid := 0, global := false,
    size := 3 - lvl, va := alignTo ipa (leafBits lvl), pa := entryOA d, ipa := alignTo ipa (leafBits lvl), perm1 := 0x3F,
    perm2 := BitVec.ofNat 3 (bits d 66 64), nsa := false, df1 := true, df2 := bit d 3, leaf1 := 0, leaf1Ipa := 0,
    leaf1W := true, leaf2 := at2, sig1 := 0, sig2 := leafSig d, lock := none }

/-- The combined entry: the smaller of the two leaves (08 R283). -/
def combineEntry (e1 e2 : TlbEntry) (va : Addr) : TlbEntry :=
  let size := Nat.min e1.size e2.size
  let vb := alignTo va (sizeBits size)
  let ib := e1.pa + (vb - e1.va)
  { e1 with has2 := true, size := size, va := vb, ipa := ib, pa := e2.pa + (ib - e2.va), perm2 := e2.perm2, df2 := e2.df2,
            leaf2 := e2.leaf2, sig2 := e2.sig2 }

/-- The next stage-1 table entry is located, through stage 2 where it applies (08 R276, R277). -/
def walkSettle1 (c : Nat) (w : Walk) (s : State) : Res WalkOut :=
  let a := w.tab1 + BitVec.ofNat 48 (16 * tblIndex w.va w.lvl1)
  if !w.x.en2 then .ok (.more { w with pa1 := some (a, true), s2 := none }) s
  else match l2Stage2 c w.x a s with
    | some (e, s) =>
      if bit e.perm2 0 then .ok (.more { w with pa1 := some (e.pa + (a - e.va), bit e.perm2 1), s2 := none }) s
      else .trap (w.exn 0x07 2 w.wr a) s
    | none =>
      let f := walkFrom c w.x true a (tableBase w.x.xs2) s
      .ok (.more { w with pa1 := none, s2 := some (a, f.1, f.2.1) }) f.2.2

/-- The stage-1 part has ended with e1: its output is translated by stage 2 where it applies (08 R276). -/
def walkSettle2 (c : Nat) (w : Walk) (e1 : TlbEntry) (s : State) : Res WalkOut :=
  let ipa := e1.pa + (w.va - e1.va)
  if !w.x.en2 then .ok (.found e1) s
  else match l2Stage2 c w.x ipa s with
    | some (e, s) => .ok (.found (combineEntry e1 e w.va)) s
    | none =>
      let f := walkFrom c w.x true ipa (tableBase w.x.xs2) s
      .ok (.more { w with done1 := some e1, pa1 := none, s2 := some (ipa, f.1, f.2.1) }) f.2.2

/-- A walk starts (08 R276). -/
def walkStart (c : Nat) (w : Walk) (s : State) : Res WalkOut :=
  if w.x.en1 then
    let f := walkFrom c w.x false w.va (tableBase w.x.xs1) s
    walkSettle1 c { w with lvl1 := f.1, tab1 := f.2.1 } f.2.2
  else walkSettle2 c w (flatEntry1 w.x w.va) s

/-- A table word is read: region, initialisation, tag and form (08 R271, R272, R274, R275; 10 R353). -/
def walkRead (c : Nat) (w : Walk) (pa : Addr) (stage : Nat) (ipa : Addr) (lvl : Nat) (s : State) : Res TWord :=
  let a := pa.toNat
  if !((s.region a).tagged && s.reaches w.x.sec a) then .trap (w.exn 0x08 stage w.wr ipa) s
  else if !(s.chunkReady a) then .wait { s with dram := s.dram.promote a }
  else
    let d := s.seenWord (c / 4) a
    if d.tag = Tag.poison then .trap (w.exn 0x09 stage w.wr ipa) s
    else if malformed d lvl (stage == 2) w.x.sec then .trap (w.exn 0x06 stage w.wr ipa) s
    else .ok d s

/-- A flag of a leaf is set: every other bit and the tag stay; the L2 that the walk read the line through keeps it (08 R274, R278). -/
def State.setLeafFlag (s : State) (cluster : Nat) (pa : Addr) (mask : Data) : State :=
  let w := s.seenWord cluster pa.toNat
  if w.data &&& mask = mask then s
  else (s.upgrade cluster (lineOf pa.toNat)).storeVisible cluster pa.toNat 0xFFFF (w.data ||| mask) w.tag

/-- A flag of a leaf has to be set in a mirrored region of a standby, which refuses the write (14 R475, log 86). -/
def State.flagRefused (s : State) (pa : Addr) (mask : Data) : Bool :=
  s.standbyRefuses pa.toNat && (s.visWord pa.toNat).data &&& mask != mask

/-- A flag of a leaf has to be set, and its record finds no room in the send queue (14 R473, R474). -/
def State.flagWaits (s : State) (pa : Addr) (mask : Data) : Bool :=
  !(s.mirrorRoom pa.toNat) && (s.visWord pa.toNat).data &&& mask != mask

/-- One table read of a walk (08 R276): the entry is checked, AF is set in a leaf (R278), and the walk goes on or ends. -/
def walkStep (c : Nat) (w : Walk) (s : State) : Res WalkOut :=
  match w.s2 with
  | some (ipa, lvl, tab) =>
    let pa := tab + BitVec.ofNat 48 (16 * tblIndex ipa lvl)
    (walkRead c w pa 2 ipa lvl s).bind fun d s =>
      if isTable d.data lvl then
        .ok (.more { w with s2 := some (ipa, lvl + 1, entryOA d.data) })
          (if w.install then s.modCore c (fun k => k.wcacheAdd w.x true lvl ipa (entryOA d.data)) else s)
      else if s.flagRefused pa 4 then .trap (w.exn 0x0C 0 true 0) s
      else if s.flagWaits pa 4 then .wait s
      else
        let s := s.setLeafFlag (c / 4) pa 4
        let e := leafEntry2 w.x ipa lvl d.data pa
        let s := if w.install then s.modCore c (fun k => { k with l2tlb := l2tlbInsert e k.l2tlb }) else s
        match w.done1 with
        | some e1 => .ok (.found (combineEntry e1 e w.va)) s
        | none =>
          if bit e.perm2 0 then .ok (.more { w with pa1 := some (e.pa + (ipa - e.va), bit e.perm2 1), s2 := none }) s
          else .trap (w.exn 0x07 2 w.wr ipa) s
  | none =>
    match w.pa1 with
    | none => walkSettle1 c w s
    | some (pa, tw) =>
      let ipa := w.tab1 + BitVec.ofNat 48 (16 * tblIndex w.va w.lvl1)
      (walkRead c w pa 1 0 w.lvl1 s).bind fun d s =>
        if isTable d.data w.lvl1 then
          walkSettle1 c { w with lvl1 := w.lvl1 + 1, tab1 := entryOA d.data }
            (if w.install then s.modCore c (fun k => k.wcacheAdd w.x false w.lvl1 w.va (entryOA d.data)) else s)
        else if !(bit d.data 2) && !tw then .trap (w.exn 0x07 2 true ipa) s
        else if s.flagRefused pa 4 then .trap (w.exn 0x0C 0 true 0) s
        else if s.flagWaits pa 4 then .wait s
        else walkSettle2 c w (leafEntry1 w.x w.va w.lvl1 d.data pa ipa tw) (s.setLeafFlag (c / 4) pa 4)

/-- The table word that a walk reads next lies in a line that its L2 holds, or that goes past the L2 (08 R274, 09 R316). -/
def State.walkReady (s : State) (core : Nat) (w : Walk) : Bool :=
  let at' : Option Addr := match w.s2 with
    | some (ipa, lvl, tab) => some (tab + BitVec.ofNat 48 (16 * tblIndex ipa lvl))
    | none => w.pa1.map (·.1)
  match at' with
  | some a =>
    !((s.region a.toNat).tagged && s.reaches w.x.sec a.toNat) || !(s.chunkReady a.toNat) ||
      (s.l2Has (core / 4) (lineOf a.toNat) w.x.sec).isSome || !(s.l2Takes core (lineOf a.toNat) w.x.sec)
  | none => true

/-- The end of a walk: the entry fills the L2 TLB and the L1 TLB, unless a TLBI met the walk (08 R283, R291). -/
def Core.fillTlb (k : Core) (w : Walk) (e : TlbEntry) : Core :=
  if !w.install then k
  else
    let k := { k with l2tlb := l2tlbInsert e k.l2tlb }
    if w.fetch then { k with itlb := lruInsert 32 e k.itlb } else { k with dtlb := lruInsert 48 e k.dtlb }

/-- The translation that a lookup finds: the L1 TLB, the L2 TLB, then a result delivered to this access alone (08 R276, R282,
R291). Hits renew recency. -/
def tlbLookup (c t : Nat) (fetch : Bool) (x : XCtx) (va : Addr) (s : State) : Option (TlbEntry × State) :=
  let k := s.core c
  match (if fetch then k.itlb else k.dtlb).find? (fun e => e.hits x va) with
  | some e => some (e, s.setCore c (if fetch then { k with itlb := touchEntry e k.itlb }
                                    else { k with dtlb := touchEntry e k.dtlb }))
  | none =>
    match k.l2tlb.find? (fun e => e.hits x va) with
    | some e =>
      let k := { k with l2tlb := touchEntry e k.l2tlb }
      let e1 := { e with lock := none }
      some (e, s.setCore c (if fetch then { k with itlb := lruInsert 32 e1 k.itlb }
                            else { k with dtlb := lruInsert 48 e1 k.dtlb }))
    | none =>
      match (if fetch then (s.thr t).codeXlat.toList else (s.thr t).xlat).find? (fun e => e.hits x va) with
      | some e => some (e, s)
      | none => none

/-- A walk's access has what it needs, or must go on reading. -/
def walkPost (c : Nat) (w : Walk) (r : Res WalkOut) : Res (Option TlbEntry) :=
  r.bind fun o s => match o with
    | .more w => .wait (s.modCore c (fun k => { k with walks := k.walks ++ [w] }))
    | .found e => .ok (some e) (s.modCore c (fun k => k.fillTlb w e))

/-- Translation of one operand half (08 R262, R276, R285): flat answers none; a TLB answers its entry; else a walk starts, or
waits for one of the two walkers. -/
def translate (t : Nat) (x : XCtx) (va : Addr) (opnd : Nat) (half wr : Bool) (s : State) : Res (Option TlbEntry) :=
  let c := t / 16
  if !x.en1 && !x.en2 then .ok none s
  else match (s.thr t).late.filter (fun e => e.step == 5 && e.opnd == opnd && e.half == half && e.addr == va) with
  | some e => .trap e s
  | none =>
  match tlbLookup c t false x va s with
    | some (e, s) => .ok (some e) s
    | none =>
      let ws := (s.core c).walks
      if ws.any (fun w => w.tid == t && !w.fetch) || 2 ≤ ws.length then .wait s
      else
        let w : Walk := { tid := t, fetch := false, opnd := opnd, half := half, wr := wr, va := va, x := x, lvl1 := 0, tab1 := 0,
                          pa1 := none, s2 := none, done1 := none, install := true }
        walkPost c w (walkStart c w s)

/-- The physical address of a translated virtual address. -/
def physOf (e : Option TlbEntry) (va : Addr) : Addr :=
  match e with
  | none => va
  | some e => e.pa + (va - e.va)

/-- The intermediate physical address of a translated virtual address (08 R281). -/
def ipaOf (e : Option TlbEntry) (va : Addr) : Addr :=
  match e with
  | none => va
  | some e => e.ipa + (va - e.va)

/-- The access world after translation: a secure stage-1 leaf with NSA makes it normal (09 R316). -/
def worldOf (sec : Bool) (e : Option TlbEntry) : Bool :=
  match e with
  | none => sec
  | some e => sec && !e.nsa

/-- Permission of one half at one stage: bit 0 read, 1 write, 2 execute (08 R277). -/
def perm1Ok (user : Bool) (e : TlbEntry) (b : Nat) : Bool := !e.has1 || bit e.perm1 (if user then b else b + 3)
def perm2Ok (e : TlbEntry) (b : Nat) : Bool := !e.has2 || bit e.perm2 b

/-- The first permission check of a half that fails: stage 1 read, stage 1 write, stage 2 read, stage 2 write (08 R277). -/
def permCheck (user rd wr : Bool) (opnd : Nat) (half : Bool) (va : Addr) (e : Option TlbEntry) : Option Exn :=
  match e with
  | none => none
  | some e =>
    let x (stage : Nat) (w : Bool) : Exn :=
      { code := 0x07, step := 5, opnd := opnd, half := half, wr := w, stage := stage, addr := va,
        ipa := if stage = 2 then ipaOf (some e) va else 0 }
    if rd && !(perm1Ok user e 0) then some (x 1 false)
    else if wr && !(perm1Ok user e 1) then some (x 1 true)
    else if rd && !(perm2Ok e 0) then some (x 2 false)
    else if wr && !(perm2Ok e 1) then some (x 2 true)
    else if wr && e.has1 && e.has2 && !e.df1 && !e.leaf1W then
      some { code := 0x07, step := 5, opnd := opnd, half := half, wr := true, stage := 2, addr := va, ipa := e.leaf1Ipa }
    else none

/-- The dirty flag of a destination page's leaf lies where a standby refuses writes: a fault where R279 checks the flag's page (14 R475, log
86). -/
def State.dirtyRefused (s : State) (opnd : Nat) (half : Bool) (va : Addr) (e : Option TlbEntry) : Option Exn :=
  match e with
  | none => none
  | some e =>
    if (!e.df1 && e.has1 && s.flagRefused e.leaf1 8) || (!e.df2 && e.has2 && s.flagRefused e.leaf2 8) then
      some { code := 0x0C, step := 5, opnd := opnd, half := half, wr := true, addr := va }
    else none

/-- A leaf still is what the TLB entry was filled from (08 R278, R279): V, T and OA as they were, and no POISON. -/
def leafSame (w : TWord) (sig : Data) : Bool := w.tag != Tag.poison && leafSig w.data == sig

/-- The dirty flags of a destination page are set at both stages (08 R279); false when an entry was found changed: then the TLB entries
for the page are removed, the stage-2 entry of a changed stage-2 leaf too, and the instruction is abandoned whole, a block instruction's
steps recorded; false too while a flag's record waits for the send queue (14 R474). -/
def dirtyPage (t : Nat) (e : Option TlbEntry) (s : State) : Bool × State :=
  match e with
  | none => (true, s)
  | some e =>
    if e.df1 && e.df2 then (true, s)
    else
      let c := t / 16
      if (!e.df1 && s.flagWaits e.leaf1 8) || (!e.df2 && s.flagWaits e.leaf2 8) then (false, s) else
      let ok1 := e.df1 || leafSame (s.seenWord (c / 4) e.leaf1.toNat) e.sig1
      let ok2 := e.df2 || leafSame (s.seenWord (c / 4) e.leaf2.toNat) e.sig2
      if ok1 && ok2 then
        let s1 := if e.df1 then s else s.setLeafFlag (c / 4) e.leaf1 8
        let s1 := if e.df2 then s1 else s1.setLeafFlag (c / 4) e.leaf2 8
        let upd (f : TlbEntry) : TlbEntry := if f.same e then { f with df1 := true, df2 := true } else f
        let s1 := s1.modCore c (fun k => { k with dtlb := k.dtlb.map upd, l2tlb := k.l2tlb.map upd })
        (true, s1)
      else
        let gone (f : TlbEntry) : Bool := f.same e || (!ok2 && f.stage2Only && f.leaf2 == e.leaf2)
        let s1 := s.modCore c (fun k => { k with dtlb := k.dtlb.filter (fun f => !(gone f)), l2tlb := k.l2tlb.filter (fun f => !(gone f)) })
        (false, s1.modThr t (fun th => th.saveBlock.clear))

end Sys2Proof.Machine
end

