-- ==== Sys2Proof/Machine/Operands.lean ====
section
/-! DEFINITION. Operands (03): the extensions and their legality, the 32 addressing modes, tag checks, splitting, the read of a
source, the preparation of a destination and the writes of step 8. -/

namespace Sys2Proof

/-- Bytes of the extension of a mode (03 R95). -/
def extBytes (m : Nat) : Nat :=
  [2, 2, 2, 2, 2, 2, 2, 4, 8, 4, 8, 4, 4, 2, 4, 8, 4, 4, 4, 2, 4, 4, 4, 8, 8, 2, 4, 4, 4, 4, 8, 8].getD m 2

/-- The mode and the extension of operand k (03 R86, R95). -/
def Enc.mode (e : Enc) (k : Nat) : Nat := (if k = 1 then e.m1 else if k = 2 then e.m2 else e.m3).toNat
def Enc.ext (e : Enc) (k : Nat) : BitVec 64 := if k = 1 then e.x1 else if k = 2 then e.x2 else e.x3

/-- The bytes of a full-mode instruction (03 R83): head, lane modifier where AX is its escape, one extension per operand. -/
def Enc.len (e : Enc) (axIsLm : Bool) : Nat :=
  4 + (if axIsLm && e.ax then 2 else 0) + ((List.range e.form.toNat).map (fun i => extBytes (e.mode (i + 1)))).sum

end Sys2Proof

namespace Sys2Proof.Machine

/-- What an instruction runs under (03 R107, 02 R74, 05 R160): thread, PC, length, world, level, THCTL and translation context in
force, delay-slot record, THTCW, and of a full-mode instruction its encoding with arrangement, lane mask, signedness and saturation. -/
structure Ctx where
  t : Nat
  pc : Addr
  len : Nat
  sec : Bool
  lvl : BitVec 2
  ctl : BitVec 8
  x : XCtx
  slot : Option Slot
  tcw : W64
  compact : Bool
  e : Enc
  arr : Nat
  mask : BitVec 8
  uns : Bool
  sat : Bool
deriving DecidableEq, Repr

def Ctx.core (x : Ctx) : Nat := x.t / 16
def Ctx.cluster (x : Ctx) : Nat := x.t / 64
def Ctx.uie (x : Ctx) : Bool := bit x.ctl 2
def Ctx.pck (x : Ctx) : Bool := bit x.ctl 3
def Ctx.cck (x : Ctx) : Bool := bit x.ctl 4
def Ctx.ftz (x : Ctx) : Bool := bit x.ctl 5
def Ctx.rnd (x : Ctx) : Nat := bits x.ctl 7 6

/-- The role of an operand (03 R89): source, destination, or both. -/
inductive Role where
  | src | dst | both
deriving DecidableEq, Repr

def Role.reads (r : Role) : Bool := r != .dst
def Role.writes (r : Role) : Bool := r != .src

/-! ## Encodings (03 R83 to R96) -/

/-- How many low bits of an extension the mode table names; from bit 0 without a gap in every mode (03 R95). -/
def extNamed (m : Nat) : Nat :=
  [8, 8, 16, 16, 11, 0, 16, 32, 64, 19, 52, 32, 32, 16, 32, 56, 32, 23, 20, 16, 32, 32, 32, 48, 58, 16, 26, 18, 32, 32, 48,
   58].getD m 0

/-- Modes that can be a destination (03 R95). -/
def modeDest (m : Nat) : Bool := m = 0 || m = 2 || m = 5 || 0x0D ≤ m

def isMemMode (m : Nat) : Bool := 0x0D ≤ m
def isTakeMode (m : Nat) : Bool := m = 1 || m = 3
def isIndMode (m : Nat) : Bool := 0x19 ≤ m

/-- The lane-modifier rule of an opcode (04 R115): the arrangements it may name, whether SAT and UNS may be 1; none when the
opcode takes no lane modifier. -/
structure LmRule where
  arrs : List Nat
  sat : Bool
  uns : Bool
deriving DecidableEq, Repr

/-- The tags that a source of a class accepts (02 R53), none for the tag-transparent class. FULL is accepted as BITS. -/
abbrev Accept := Option (List Tag)

def accInt : Accept := some [Tag.int, Tag.bits]
def accFix : Accept := some [Tag.fix, Tag.bits]
def accFlt : Accept := some [Tag.flt, Tag.bits]
def accBit : Accept := some [Tag.bits, Tag.int, Tag.fix, Tag.flt]
def accPtr : Accept := some [Tag.ptr]
def accAny : Accept := none
def accNamed (t : Tag) : Accept := some [t, Tag.bits]

/-- An opcode as the tables of 04 and 05 give it: forms with the roles of their operands, lane-modifier rule with default
arrangement and saturation, modes that an operand is restricted to, tags each source accepts, further encoding checks, the
level and world rule of step 3, and whether it may stand in a delay slot (05 R162). -/
structure Spec where
  group : Nat
  forms : List (Nat × List Role)
  lm : Option LmRule := none
  arr0 : Nat := 0
  sat0 : Bool := false
  flt : Bool := false
  noTake : Bool := false
  modes : Nat → Option (List Nat) := fun _ => none
  acc : Nat → Accept := fun _ => accAny
  illegal : Enc → Option Nat := fun _ => none
  denied : Bool → BitVec 2 → Thread → Enc → Option Nat := fun _ _ _ _ => none
  noSlot : Bool := false

/-- The group's AX is the lane-modifier escape (03 R88). -/
def Spec.axIsLm (sp : Spec) : Bool := decide (sp.group < 6)

def Spec.roles (sp : Spec) (form : Nat) : Option (List Role) := (sp.forms.find? (fun f => f.1 == form)).map (·.2)

/-- Arrangement in force: the modifier's, else the opcode's default (03 R91, 04 R115). -/
def Spec.arrOf (sp : Spec) (e : Enc) : Nat := if sp.axIsLm && e.ax then bits e.lm 1 0 else sp.arr0
def Spec.maskOf (sp : Spec) (e : Enc) : BitVec 8 :=
  if sp.axIsLm && e.ax then BitVec.ofNat 8 (bits e.lm 9 2) else BitVec.ofNat 8 (2 ^ laneCount sp.arr0 - 1)
def Spec.satOf (sp : Spec) (e : Enc) : Bool := if sp.axIsLm && e.ax then bit e.lm 10 else sp.sat0
def Spec.unsOf (sp : Spec) (e : Enc) : Bool := sp.axIsLm && e.ax && bit e.lm 11

/-- An extension field of an operand is illegal (03 R95, R96). -/
def extIllegal (sp : Spec) (e : Enc) (k : Nat) : Bool :=
  let m := e.mode k
  let x := e.ext k
  let arr := sp.arrOf e
  decide (2 ^ extNamed m ≤ x.toNat) ||
  (m == 4 && decide (laneCount arr ≤ bits x 10 8)) ||
  (m == 0x11 && decide (bits x 20 16 < 4)) ||
  (m == 0x12 && bits x 19 16 == 0) ||
  (m == 9 && bits x 18 16 == 7 && sp.axIsLm && e.ax && arr == 3 && !(bit e.lm 9))

/-- An operand's mode cannot stand in its place: a mode that the opcode does not take, a destination, a take (03 R95, R99; 05 R158). -/
def placeIllegal (sp : Spec) (e : Enc) (k : Nat) (r : Role) : Bool :=
  let m := e.mode k
  (match sp.modes k with | none => false | some l => !(l.contains m)) ||
  (r.writes && !(modeDest m)) || (sp.noTake && isTakeMode m)

/-- An operand is a TLIT with a reserved tag (03 R101). -/
def tlitIllegal (e : Enc) (k : Nat) : Bool := e.mode k == 0x0A && Tag.reserved (BitVec.ofNat 4 (bits (e.ext k) 51 48))

/-- The lane modifier is illegal (03 R91, 04 R115, 02 R52). -/
def lmIllegal (sp : Spec) (e : Enc) : Bool :=
  sp.axIsLm && e.ax &&
  (match sp.lm with
   | none => true
   | some l =>
     let arr := bits e.lm 1 0
     bits e.lm 15 12 != 0 || !(l.arrs.contains arr) || (bit e.lm 10 && !l.sat) || (bit e.lm 11 && !l.uns) ||
     bits e.lm 9 2 == 0 || decide (2 ^ laneCount arr ≤ bits e.lm 9 2) || (sp.flt && (arr == 0 || arr == 3)))

/-- Step 2 of 03 R107, its checks in the order of its row: the operand number of the first encoding check that fails (0 when none names an
operand). Checks that the row does not list stand here: AX of groups 9 and A after the mode fields, restricted modes with the destination
check, an opcode's own fields and the delay slot last (DESIGN CHOICE, log 14). -/
def decodeCheck (sp : Spec) (inSlot : Bool) (e : Enc) : Option Nat :=
  let form := e.form.toNat
  match sp.roles form with
  | none => some 0
  | some roles =>
    match ((List.range 3).map (· + 1)).find? (fun k => decide (form < k) && e.mode k != 0) with
    | some k => some k
    | none =>
      let first (p : Nat → Role → Bool) : Option Nat := ((roles.zipIdx 1).find? (fun q => p q.2 q.1)).map (·.2)
      if !(sp.group == 8) && !sp.axIsLm && e.ax then some 0
      else match first (fun k _ => extIllegal sp e k) with
      | some k => some k
      | none => match first (placeIllegal sp e) with
        | some k => some k
        | none =>
          if 2 ≤ ((List.range form).filter (fun i => isTakeMode (e.mode (i + 1)))).length then some 0
          else if lmIllegal sp e then some 0
          else match first (fun k _ => tlitIllegal e k) with
          | some k => some k
          | none => match sp.illegal e with
            | some k => some k
            | none => if inSlot && sp.noSlot then some 0 else none

/-- A tag that a level or world may not write: SEALED outside the secure world, POISON below supervisor (02 R60, 03 R101). -/
def tagDenied (sec : Bool) (lvl : BitVec 2) (tag : Tag) : Bool :=
  (tag = Tag.sealed && !sec) || (tag = Tag.poison && lvl = 0)

/-- A level meets a minimum: 1 supervisor, 2 hypervisor, 3 monitor; levels compare within one world, the monitor above all
(02 R31). -/
def lvlMeets (sec : Bool) (lvl : BitVec 2) (need : Nat) : Bool :=
  match need with
  | 0 => true
  | 1 => decide (1 ≤ lvl.toNat)
  | 2 => lvl = 3 || (lvl = 2 && !sec)
  | _ => decide (lvl = 3)

/-- Step 3 of 03 R107: opcode level and world with what an opcode denies for an operand, as TAGSET for its tag, then the level of TLIT tags
(R101), in this order (DESIGN CHOICE, log 14). -/
def levelCheck (sp : Spec) (sec : Bool) (lvl : BitVec 2) (th : Thread) (e : Enc) : Option Nat :=
  match sp.denied sec lvl th e with
  | some k => some k
  | none =>
    ((List.range e.form.toNat).map (· + 1)).find?
      (fun k => e.mode k == 0x0A && tagDenied sec lvl (BitVec.ofNat 4 (bits (e.ext k) 51 48)))

/-! ## Tag checks (02 R53 to R58) -/

/-- Consuming a source word: the word as consumed, or the code of the first check that fails (02 R55). -/
def consume (sec uie : Bool) (acc : Accept) (w : TWord) : Except Nat TWord :=
  match acc with
  | none => .ok w
  | some ts =>
    if w.tag = Tag.poison then .error 0x10
    else if w.tag.reserved then .error 0x11
    else if w.tag = Tag.sealed && !sec then .error 0x12
    else if w.tag = Tag.uninit && uie then .error 0x13
    else if w.tag = Tag.empty then .error 0x14
    else
      let v : TWord := if w.tag = Tag.uninit then { data := 0, tag := Tag.bits }
                       else if w.tag = Tag.full then { w with tag := Tag.bits } else w
      if ts.contains v.tag then .ok v else .error 0x15

/-- The tags of an address word (02 R57) and of a code word (R58). -/
def Ctx.accAddr (x : Ctx) : Accept := if x.pck then some [Tag.ptr] else some [Tag.ptr, Tag.int, Tag.bits]
def Ctx.accCode (x : Ctx) : Accept := if x.cck then some [Tag.code] else some [Tag.code, Tag.int, Tag.bits]

/-- Consumption with its trap record. -/
def Ctx.consume (x : Ctx) (acc : Accept) (w : TWord) (step opnd : Nat) (half : Bool) (addr : Addr) (s : State) : Res TWord :=
  match Machine.consume x.sec x.uie acc w with
  | .ok v => .ok v s
  | .error c => .trap { code := c, step := step, opnd := opnd, half := half, addr := addr } s

/-- The tag of a split operand (03 R104), and which half a tag fault of it names: the high one where that alone supplied the tag
(DESIGN CHOICE, log 90). -/
def splitTag (lo hi : Tag) : Tag × Bool :=
  if lo = hi then (lo, false)
  else
    let pick (t : Tag) : Tag × Bool := (t, lo != t)
    if lo = Tag.poison || hi = Tag.poison then pick Tag.poison
    else if lo.reserved then (lo, false)
    else if hi.reserved then (hi, true)
    else if lo = Tag.sealed || hi = Tag.sealed then pick Tag.sealed
    else if lo = Tag.uninit || hi = Tag.uninit then pick Tag.uninit
    else if lo = Tag.empty || hi = Tag.empty then pick Tag.empty
    else (Tag.bits, false)

/-! ## Places (03 R95 to R106) -/

/-- The part of a memory operand that lies in one aligned word (03 R103): address, physical address, access world, translation,
which half, byte offset in the word, bytes, and bytes of the operand before it. -/
structure Part where
  va : Addr
  pa : Addr
  sec : Bool
  tr : Option TlbEntry
  half : Bool
  off : Nat
  n : Nat
  skip : Nat
deriving DecidableEq, Repr

/-- Where an operand lies after step 5. -/
inductive Place where
  | den (n : Nat) (take : Bool)
  | lane (n j : Nat)
  | nul
  | imm (w : TWord)
  | mem (ea : Addr) (parts : List Part)
deriving DecidableEq, Repr

/-- Sign extension of the low n bits to 64 bits. -/
def sext64 (v n : Nat) : BitVec 64 := BitVec.ofInt 64 (if v % 2 ^ n < 2 ^ (n - 1) then (v % 2 ^ n : Int) else (v % 2 ^ n : Int) - 2 ^ n)

/-- An immediate supplied to every lane (03 R100). -/
def immWord (arr n v : Nat) : TWord :=
  let w := laneW arr
  let lane := if n ≤ w then wrapLane w (laneInt false n (v % 2 ^ n)) else v % 2 ^ w
  { data := BitVec.ofNat 128 (joinLanes w (List.replicate (laneCount arr) lane)), tag := Tag.bits }

/-- A base word (03 R97). -/
def baseWord (x : Ctx) (k n : Nat) (s : State) : Res (BitVec 64) :=
  (x.consume x.accAddr ((s.thr x.t).denWord n) 5 k false 0 s).bind fun w s => .ok (w.data.setWidth 64) s

/-- An index word, scaled (03 R97). -/
def indexWord (x : Ctx) (k m sc : Nat) (s : State) : Res (BitVec 64) :=
  (x.consume accInt ((s.thr x.t).denWord m) 5 k false 0 s).bind fun w s =>
    .ok (w.data.setWidth 64 * BitVec.ofNat 64 (4 ^ sc)) s

/-- Bit reversal of the low k bits (03 R95 BREV). -/
def bitRev : Nat → Nat → Nat
  | 0, _ => 0
  | k + 1, v => (v % 2) * 2 ^ k + bitRev k (v / 2)

/-- The address that a mode forms before any pointer fetch, and the index that DIIX and AIX add to the pointer (03 R95). -/
def modeAddr (x : Ctx) (k : Nat) (m : Nat) (v : BitVec 64) (s : State) : Res (BitVec 64 × BitVec 64) :=
  let pc : BitVec 64 := x.pc.setWidth 64
  let n := bits v 7 0
  let m8 := bits v 15 8
  let base (d : BitVec 64) := (baseWord x k n s).bind fun b s => Res.ok (b + d, 0#64) s
  match m with
  | 0x0B => base (sext64 (bits v 31 8) 24)
  | 0x0C => .ok (pc + sext64 (bits v 31 0) 32, 0) s
  | 0x0D => base (16 * sext64 (bits v 15 8) 8)
  | 0x0E => base (sext64 (bits v 31 8) 24)
  | 0x0F => base (sext64 (bits v 55 8) 48)
  | 0x10 => (baseWord x k n s).bind fun b s => (indexWord x k m8 (bits v 17 16) s).bind fun i s =>
      .ok (b + i + sext64 (bits v 31 18) 14, 0) s
  | 0x11 => (baseWord x k n s).bind fun b s => (indexWord x k m8 (bits v 22 21) s).bind fun i s =>
      .ok (b + BitVec.ofNat 64 (i.toNat % 2 ^ bits v 20 16), 0) s
  | 0x12 => (baseWord x k n s).bind fun b s => (indexWord x k m8 0 s).bind fun i s =>
      .ok (b + BitVec.ofNat 64 (16 * bitRev (bits v 19 16) i.toNat), 0) s
  | 0x13 => .ok (pc + sext64 (bits v 15 0) 16, 0) s
  | 0x14 => .ok (pc + sext64 (bits v 31 0) 32, 0) s
  | 0x15 => (indexWord x k n (bits v 9 8) s).bind fun i s => .ok (pc + sext64 (bits v 31 10) 22 + i, 0) s
  | 0x16 => .ok (BitVec.ofNat 64 (bits v 31 0), 0) s
  | 0x17 => .ok (BitVec.ofNat 64 (bits v 47 0), 0) s
  | 0x18 => (indexWord x k (bits v 55 48) (bits v 57 56) s).bind fun i s => .ok (BitVec.ofNat 64 (bits v 47 0) + i, 0) s
  | 0x19 => base (16 * sext64 (bits v 15 8) 8)
  | 0x1A => (baseWord x k n s).bind fun b s => (indexWord x k (bits v 23 16) (bits v 25 24) s).bind fun i s =>
      .ok (b + 16 * sext64 (bits v 15 8) 8, i) s
  | 0x1B => (baseWord x k n s).bind fun b s => (indexWord x k m8 (bits v 17 16) s).bind fun i s => .ok (b + i, 0) s
  | 0x1C => .ok (pc + sext64 (bits v 31 0) 32, 0) s
  | 0x1D => (indexWord x k n (bits v 9 8) s).bind fun i s => .ok (pc + sext64 (bits v 31 10) 22 + i, 0) s
  | 0x1E => .ok (BitVec.ofNat 64 (bits v 47 0), 0) s
  | _ => (indexWord x k (bits v 55 48) (bits v 57 56) s).bind fun i s => .ok (BitVec.ofNat 64 (bits v 47 0), i) s

/-- The address-size check (03 R98). -/
def sizeCheck (k : Nat) (a : BitVec 64) (s : State) : Res Addr :=
  if bits a 63 48 = 0 then .ok (a.setWidth 48) s
  else .trap { code := 0x04, step := 5, opnd := k, addr := a.setWidth 48 } s

/-! ## Reads (03 R107 step 6; 01 R16 to R18; 09 R301, R303; 10 R353) -/

/-- The bytes of one aligned word that a read covers overlap an undrained store of the thread (09 R301). -/
def State.ownStore (s : State) (t : Nat) (pa : Nat) (mask : BitVec 16) : Bool :=
  (s.core (t / 16)).sb.any (fun e => e.tid == t && e.pa.toNat / 16 == pa / 16 && (e.mask &&& mask != 0))

/-- An instruction waits for the mesh under entry 2 of the timeout hierarchy: the record of its timeout, and what it waits for; a chunk
that it waits for is promoted (07 R258; 10 R353, R354). -/
def State.stallOn (s : State) (t : Nat) (e : Exn) (on : StallOn) : State :=
  let s1 := s.modThr t (fun th => { th with stall := some (e, on) })
  match on with
  | .chunk a => { s1 with dram := s1.dram.promote a.toNat }
  | _ => s1

/-- The record of the timeout of a fence, a TLBI, SYNC.T or a LOAD: it names step 7 (05 R197, 18 R584). -/
def meshExn : Exn := { code := 0x0D, step := 7 }

/-- A fence, a TLBI or SYNC.T goes on once what it waits for has come; a wait is bounded by entry 2, and what comes after the deadline is
too late (05 R197, 18 R584). -/
def untilMesh (x : Ctx) (on : StallOn) (done : Bool) (s : State) : Res Unit :=
  if (s.thr x.t).late == some meshExn then .trap meshExn s
  else if done then .ok () s
  else .wait (s.stallOn x.t meshExn on)

/-- A read outside memory: the answer that has arrived, an error response, or a request and a wait (01 R630, 13 R451). -/
def extRead (x : Ctx) (key : Nat) (part : Nat) (p : Part) (err : Exn) (s : State) : Res TWord :=
  let th := s.thr x.t
  match tfind th.extAns key with
  | some (some w) => .ok w s
  | some none => .trap err s
  | none =>
    match th.extReq with
    | some _ => .wait s
    | none => .wait (s.setThr x.t { th with
        extReq := some { key := key, pa := p.pa, part := part, sec := p.sec, lvl := x.lvl, tmo := { err with code := 0x0D }, tr := p.tr } })

/-- The aligned word that a part lies in is read: the visible value in a tagged region, an answer elsewhere. -/
def readPart (x : Ctx) (step opnd key : Nat) (p : Part) (whole : Bool) (s : State) : Res TWord :=
  let a := p.pa.toNat
  let err : Exn := { code := 0x0C, step := step, opnd := opnd, half := p.half, addr := p.va }
  let mask : BitVec 16 := BitVec.ofNat 16 ((2 ^ p.n - 1) * 2 ^ p.off)
  let tmo : Exn := { err with code := 0x0D }
  if (s.thr x.t).late == some tmo then .trap tmo s else
  match s.region a with
  | .unmapped => .trap err s
  | .mmio =>
    if s.ownStore x.t a mask then .wait s
    else if x.compact then
      if whole && p.n == 4 && (p.off == 0 || p.off == 4) then extRead x key (if p.off == 0 then 1 else 2) p err s
      else .trap err s
    else if whole && p.n == 16 then extRead x key 0 p err s else .trap err s
  | .pcie => if s.ownStore x.t a mask then .wait s else extRead x key 0 p err s
  | _ =>
    if !(s.reaches p.sec a) then .trap err s
    else if s.ownStore x.t a mask then .wait s
    else if !(s.chunkReady a) then .wait (s.stallOn x.t tmo (.chunk p.pa))
    else match s.touchL1 x.t false (lineOf a) p.sec with
      | (false, s) => .wait (s.stallOn x.t tmo (.fill (lineOf a) p.sec))
      | (true, s) => .ok (s.seenWord x.cluster a) s

/-- The parts of an n-byte operand at ea (03 R103), translated low then high (R107 step 5) as the access rd, wr. -/
def splitParts (x : Ctx) (k : Nat) (ea : Addr) (n : Nat) (wrOnly : Bool) (s : State) : Res (List Part) :=
  let off := ea.toNat % 16
  let n1 := if off + n ≤ 16 then n else 16 - off
  (translate x.t x.x ea k false wrOnly s).bind fun tr s =>
    let lo : Part := { va := ea, pa := physOf tr ea, sec := worldOf x.sec tr, tr := tr, half := false, off := off, n := n1,
                       skip := 0 }
    if n1 = n then .ok [lo] s
    else
      let va2 := ea + BitVec.ofNat 48 n1
      (translate x.t x.x va2 k true wrOnly s).bind fun tr2 s =>
        .ok [lo, { va := va2, pa := physOf tr2 va2, sec := worldOf x.sec tr2, tr := tr2, half := true, off := 0, n := n - n1,
                   skip := n1 }] s

/-- Permission of every part, in the order of 08 R277. -/
def partsPerm (x : Ctx) (k : Nat) (rd wr : Bool) (ps : List Part) (s : State) : Res Unit :=
  match ps.findSome? (fun p => permCheck x.x.user rd wr k p.half p.va p.tr) with
  | some e => .trap e s
  | none =>
    match if wr then ps.findSome? (fun p => s.dirtyRefused k p.half p.va p.tr) else none with
    | some e => .trap e s
    | none => .ok () s

/-- An n-byte memory operand at an address is resolved (03 R98, R103, R106, R107 step 5); a translation fault of an operand that is
read and written is one of the read (log 80). -/
def memPlace (x : Ctx) (k : Nat) (ea : Addr) (n align : Nat) (r : Role) (s : State) : Res Place :=
  if ea.toNat % align ≠ 0 then .trap { code := 0x05, step := 5, opnd := k, addr := ea } s
  else if 2 ^ 48 < ea.toNat + n then
    .trap { code := 0x04, step := 5, opnd := k, half := true, addr := ea } s
  else
    (splitParts x k ea n (r == .dst) s).bind fun ps s =>
      (partsPerm x k r.reads r.writes ps s).bind fun _ s => .ok (.mem ea ps) s

/-- Step 5 for one operand of a full-mode instruction (03 R95 to R107); align is 16 for an operand that is never split. -/
def resolve (x : Ctx) (k : Nat) (align : Nat) (r : Role) (s : State) : Res Place :=
  let m := x.e.mode k
  let v := x.e.ext k
  let th := s.thr x.t
  match m with
  | 0 => .ok (.den (bits v 7 0) false) s
  | 1 => .ok (.den (bits v 7 0) true) s
  | 2 => (x.consume accInt (th.denWord (bits v 15 8)) 5 k false 0 s).bind fun w s =>
      .ok (.den ((bits v 7 0 + bits w.data 7 0) % 256) false) s
  | 3 => (x.consume accInt (th.denWord (bits v 15 8)) 5 k false 0 s).bind fun w s =>
      .ok (.den ((bits v 7 0 + bits w.data 7 0) % 256) true) s
  | 4 => .ok (.lane (bits v 7 0) (bits v 10 8)) s
  | 5 => .ok .nul s
  | 6 => .ok (.imm (immWord x.arr 16 (bits v 15 0))) s
  | 7 => .ok (.imm (immWord x.arr 32 (bits v 31 0))) s
  | 8 => .ok (.imm (immWord x.arr 64 (bits v 63 0))) s
  | 9 => .ok (.imm { data := BitVec.ofNat 128 (bits v 15 0 * 2 ^ (16 * bits v 18 16)), tag := Tag.bits }) s
  | 0x0A => .ok (.imm { data := BitVec.ofNat 128 (bits v 47 0), tag := BitVec.ofNat 4 (bits v 51 48) }) s
  | 0x0B => (modeAddr x k m v s).bind fun a s => .ok (.imm { data := a.1.setWidth 128, tag := Tag.ptr }) s
  | 0x0C => (modeAddr x k m v s).bind fun a s => .ok (.imm { data := a.1.setWidth 128, tag := Tag.code }) s
  | _ =>
    (modeAddr x k m v s).bind fun a s => (sizeCheck k a.1 s).bind fun ea s =>
      if isIndMode m then
        if ea.toNat % 16 ≠ 0 then .trap { code := 0x05, step := 5, opnd := k, addr := ea } s
        else
          (splitParts x k ea 16 false s).bind fun ps s => (partsPerm x k true false ps s).bind fun _ s =>
            match ps with
            | p :: _ => (readPart x 5 k (4 * k + 1) p true s).bind fun w s =>
                (x.consume x.accAddr w 5 k false ea s).bind fun w s =>
                  (sizeCheck k (w.data.setWidth 64 + a.2) s).bind fun ea s => memPlace x k ea 16 align r s
            | [] => .wait s
      else memPlace x k ea 16 align r s

/-- The bytes of an operand, gathered from its parts. -/
def gatherBytes (l : List (Part × TWord)) : Nat :=
  l.foldl (fun acc q => acc + (q.2.data.toNat >>> (8 * q.1.off)) % 2 ^ (8 * q.1.n) * 2 ^ (8 * q.1.skip)) 0

/-- The bytes and tag of a memory operand, low half before high half (03 R104, R107 step 6). -/
def readMem (x : Ctx) (k : Nat) (ps : List Part) (s : State) : Res (Nat × Tag × Bool) :=
  (Res.seq (fun (p : Part) s => (readPart x 6 k (4 * k + 2 * b2n p.half) p (ps.length == 1) s).bind fun w s => .ok (p, w) s) ps
      s).bind fun l s =>
    let tg : Tag × Bool := match l with
      | [(_, w)] => (w.tag, false)
      | [(_, a), (_, b)] => splitTag a.tag b.tag
      | _ => (Tag.bits, false)
    .ok (gatherBytes l, tg.1, tg.2) s

/-- The address of the half that a tag fault names. -/
def halfAddr (ps : List Part) (half : Bool) : Addr :=
  match ps.find? (fun p => p.half == half) with
  | some p => p.va
  | none => 0

/-- Step 6 for a source: read, assembled, checked; a taken word that is EMPTY faults in every class (02 R55, 03 R99, R104). -/
def takeSource (x : Ctx) (k : Nat) (acc : Accept) (pl : Place) (s : State) : Res TWord :=
  match pl with
  | .den n take =>
    let w := (s.thr x.t).denWord n
    (x.consume acc w 6 k false 0 s).bind fun v s =>
      if take && w.tag = Tag.empty then .trap { code := 0x14, step := 6, opnd := k } s else .ok v s
  | .lane n j =>
    let w := (s.thr x.t).denWord n
    let lw := laneW x.arr
    x.consume acc { data := BitVec.ofNat 128 (joinLanes lw (List.replicate (laneCount x.arr) (laneOf w.data lw j))), tag := w.tag }
      6 k false 0 s
  | .nul => x.consume acc { data := 0, tag := Tag.bits } 6 k false 0 s
  | .imm w => x.consume acc w 6 k false 0 s
  | .mem _ ps =>
    (readMem x k ps s).bind fun r s =>
      x.consume acc { data := BitVec.ofNat 128 r.1, tag := r.2.1 } 6 k r.2.2 (halfAddr ps r.2.2) s

/-- Step 6 for a destination: the lines of a tagged region are obtained, an address that refuses stores faults (03 R107, 01 R16);
an MMIO page answers at step 8 only (R111). -/
def obtainPart (x : Ctx) (k : Nat) (p : Part) (s : State) : Res Unit :=
  let a := p.pa.toNat
  let err : Exn := { code := 0x0C, step := 6, opnd := k, half := p.half, wr := true, addr := p.va }
  let tmo : Exn := { err with code := 0x0D }
  if (s.thr x.t).late == some tmo then .trap tmo s else
  match s.region a with
  | .unmapped => .trap err s
  | .mmio => .ok () s
  | .pcie => .ok () s
  | _ =>
    if !(s.reaches p.sec a) || s.standbyRefuses a then .trap err s
    else if !(s.chunkReady a) then .wait (s.stallOn x.t tmo (.chunk p.pa))
    else match s.touchL1 x.t false (lineOf a) p.sec with
      | (false, s) => .wait (s.stallOn x.t tmo (.fill (lineOf a) p.sec))
      | (true, s) => .ok () s

def obtainDest (x : Ctx) (k : Nat) (pl : Place) (s : State) : Res Unit :=
  match pl with
  | .mem _ ps => (Res.seq (obtainPart x k) ps s).bind fun _ s => .ok () s
  | _ => .ok () s

/-! ## Writes (03 R107 step 8, R110, R111; 09 R300) -/

/-- How many store-buffer entries a place takes (09 R300). -/
def Place.entries : Place → Nat
  | .mem _ ps => ps.length
  | _ => 0

/-- A part's region is an MMIO page. -/
def State.partMmio (s : State) (p : Part) : Bool := s.region p.pa.toNat = .mmio

/-- The store-buffer entry of a part of a destination: its bytes, mask and tag (09 R300), and whether a register takes it
(01 R18). -/
def mkEntry (x : Ctx) (s : State) (p : Part) (single : Bool) (v : Nat) (mask : BitVec 16) (tag : Tag) : SbEntry :=
  let kind := match s.region p.pa.toNat with
    | .mmio => SbKind.mmio
    | .pcie => SbKind.pcie
    | _ => SbKind.mem
  let m := BitVec.ofNat 16 (((mask.toNat >>> p.skip) % 2 ^ p.n) * 2 ^ p.off)
  { tid := x.t, kind := kind, pa := alignTo p.pa 4, data := BitVec.ofNat 128 ((v >>> (8 * p.skip)) % 2 ^ (8 * p.n) * 2 ^ (8 * p.off)),
    mask := m, tag := tag, sec := p.sec, lvl := x.lvl, tr := p.tr,
    legal := single && (if x.compact then m = 0x000F || m = 0x00F0 else p.n == 16 && m &&& 0x00FF = 0x00FF) }

/-- A part is written: one store-buffer entry; an MMIO write also holds the thread until it is answered (03 R111). -/
def State.pushPart (s : State) (x : Ctx) (k : Nat) (p : Part) (single : Bool) (v : Nat) (mask : BitVec 16) (tag : Tag) : State :=
  let en := mkEntry x s p single v mask tag
  let s1 := s.modCore x.core (fun c => { c with sb := c.sb ++ [en] })
  if en.kind = .mmio then
    let w : MmioWait := { pc := x.pc, slot := x.slot, len := x.len, opnd := k, half := p.half, addr := p.va, result := none,
                          bankU := false }
    s1.modThr x.t (fun th => { th with mmioW := some w })
  else s1

/-- A destination is written: v with the bytes of mask, tag for the whole word; the parts outside MMIO pages when io is false,
those in MMIO pages when it is true (03 R92, R105, R107 step 8). Where a split write lies in MMIO pages on both sides, its low half is
refused (01 R18) and the high half is not sent. -/
def State.writePlace (s : State) (x : Ctx) (k : Nat) (pl : Place) (v : Nat) (mask : BitVec 16) (tag : Tag) (io : Bool) : State :=
  match pl with
  | .den n _ =>
    if io then s else s.modThr x.t (fun th => th.setDen n (mergeWord (th.denWord n) mask (BitVec.ofNat 128 v) tag))
  | .mem _ ps =>
    if io then
      match ps.find? (fun p => s.partMmio p) with
      | some p => s.pushPart x k p (ps.length == 1) v mask tag
      | none => s
    else ps.foldl (fun s p => if s.partMmio p then s else s.pushPart x k p (ps.length == 1) v mask tag) s
  | _ => s

/-- The dirty flags of every page of a destination, low half first; false when the instruction is abandoned (08 R279). -/
def dirtyParts (t : Nat) : List Part → State → Bool × State
  | [], s => (true, s)
  | p :: r, s =>
    match dirtyPage t p.tr s with
    | (true, s) => dirtyParts t r s
    | (false, s) => (false, s)

/-- The taken words become EMPTY, but the one that operand 1 writes (03 R99). -/
def State.takeWords (s : State) (x : Ctx) (dest : Option Place) (pls : List Place) : State :=
  pls.foldl (fun s pl => match pl with
    | .den n true =>
      if (match dest with | some (.den d _) => d == n | _ => false) then s
      else s.modThr x.t (fun th => th.setDen n { data := (th.denWord n).data, tag := Tag.empty })
    | _ => s) s

end Sys2Proof.Machine
end

