-- ==== Sys2Proof/Machine/Peek.lean ====
section
/-! DEFINITION. What the code at an address says before it issues: its translation, bytes and length, and how far a thread's next
instructions reach (03 R83; 04 R149; 06 R215, R219). -/

namespace Sys2Proof.Machine

/-- The context of a thread's next instruction (02 R74, 08 R261, R267). -/
def mkCtx (s : State) (t : Nat) (compact : Bool) (e : Enc) (len arr : Nat) (mask : BitVec 8) (uns sat : Bool) : Ctx :=
  let th := s.thr t
  let o := th.old.getD { ctl := th.ctl, xs1 := th.xs1, xs1h := th.xs1h, xs2 := th.xs2 }
  { t := t, pc := th.pc, len := len, sec := th.sec, lvl := th.lvl, ctl := o.ctl, x := mkXCtx th.sec th.lvl o.xs1 o.xs1h o.xs2,
    slot := th.slot, tcw := th.tcw, compact := compact, e := e, arr := arr, mask := mask, uns := uns, sat := sat }

/-- The fields of an instruction that has none. -/
def emptyEnc : Enc := { cond := 0, form := 0, ax := false, m1 := 0, m2 := 0, m3 := 0, lm := 0, x1 := 0, x2 := 0, x3 := 0 }

/-- The context in which a thread's code is fetched. -/
def fetchCtx (s : State) (t : Nat) : Ctx := mkCtx s t (bit (s.thr t).ctl 0) emptyEnc 0 0 1 false false

/-- What n more table words tell of a translation, with nothing changed (08 R276). -/
def peekWalk (c : Nat) : Nat → Walk → State → Option TlbEntry
  | 0, _, _ => none
  | n + 1, w, s =>
    match walkStep c w s with
    | .ok (.found e) _ => some e
    | .ok (.more w1) s1 => peekWalk c n w1 s1
    | _ => none

/-- A walk for a code address (08 R273, R276). -/
def Ctx.codeWalk (x : Ctx) (va : Addr) (install : Bool) : Walk :=
  { tid := x.t, fetch := true, opnd := 0, half := false, wr := false, va := va, x := x.x, lvl1 := 0, tab1 := 0, pa1 := none,
    s2 := none, done1 := none, install := install }

/-- The physical address that a code address has: by a TLB, or by the tables. -/
def State.peekAddr (s : State) (x : Ctx) (va : Addr) : Option Addr :=
  let k := s.core x.core
  if !x.x.en1 && !x.x.en2 then some va
  else match (k.itlb ++ k.l2tlb).find? (fun e => e.hits x.x va) with
    | some e => some (physOf (some e) va)
    | none =>
      let e : Option TlbEntry := match walkStart x.core (x.codeWalk va false) s with
        | .ok (.found e) _ => some e
        | .ok (.more w) s1 => peekWalk x.core 64 w s1
        | _ => none
      e.map (fun e => physOf (some e) va)

/-- One byte of the code that a thread would fetch. -/
def State.peekByte (s : State) (x : Ctx) (va : Addr) : Option Nat :=
  match s.peekAddr x va with
  | some p => if (s.region p.toNat).tagged then some (bits (s.seenWord x.cluster p.toNat).data (8 * (p.toNat % 16) + 7) (8 * (p.toNat % 16)))
              else none
  | none => none

/-- A 32-bit code word, its first byte least significant (03 R83, 04 R149). -/
def State.peekHead (s : State) (x : Ctx) (va : Addr) : Option (BitVec 32) :=
  match s.peekByte x va, s.peekByte x (va + 1), s.peekByte x (va + 2), s.peekByte x (va + 3) with
  | some a, some b, some c, some d => some (BitVec.ofNat 32 (a + 256 * b + 65536 * c + 16777216 * d))
  | _, _, _, _ => none

/-- The length of the instruction at an address, by its head word (03 R83, R86; 04 R149). -/
def State.peekLen (s : State) (x : Ctx) (va : Addr) : Option Nat :=
  match s.peekHead x va with
  | some w =>
    if x.compact then some (if bit w 3 then 8 else 4)
    else
      let e : Enc := { cond := 0, form := BitVec.ofNat 2 (bits w 17 16), ax := bit w 15, m1 := BitVec.ofNat 5 (bits w 4 0),
                       m2 := BitVec.ofNat 5 (bits w 9 5), m3 := BitVec.ofNat 5 (bits w 14 10), lm := 0, x1 := 0, x2 := 0, x3 := 0 }
      some (e.len (!([8, 9, 10].contains (bits w 27 24))))
  | none => none

/-- The length of the instruction at a code address; at least its head word where it cannot be read. -/
def State.codeLen (s : State) (t : Nat) (a : Addr) : Nat := (s.peekLen (fetchCtx s t) a).getD 4

/-- The instruction that follows the one at a code address is needed with it: the delay slot of a transfer, and what follows a WAITD or
PARK, which the buffer holds before the thread is PARKED (05 R160; 06 R215, R219). -/
def State.bringsNext (s : State) (t : Nat) (a : Addr) : Bool :=
  let x := fetchCtx s t
  match s.peekHead x a with
  | some w =>
    let op := if x.compact then bits w 27 20 else bits w 27 18
    (if x.compact then [0x40, 0x41, 0x42, 0x43, 0x48, 0x49] else [0x200, 0x201, 0x202, 0x203, 0x240, 0x241]).contains op
  | none => false

/-- The thread's delay slot is a HINGE's, which leaves it SUSPENDED. -/
def Thread.hingeSlot (th : Thread) : Bool := th.slot.isSome && th.hinge.any (fun h => h.slotPc == th.pc) && th.st == .active

/-- The thread's next instruction, or one needed with it, extends into the next sequential line (06 R215). -/
def State.needsSecond (s : State) (t : Nat) : Bool :=
  let th := s.thr t
  let a := th.pc + BitVec.ofNat 48 (s.codeLen t th.pc)
  let stop := if th.hingeSlot || (th.slot.isNone && s.bringsNext t th.pc) then a + BitVec.ofNat 48 (s.codeLen t a) else a
  alignTo (stop - 1) 6 != alignTo th.pc 6

/-- The fetch buffer holds every byte of the instruction that follows, or its request found a fault: a thread can become PARKED or
SUSPENDED (06 R219). -/
def State.holdsNext (s : State) (x : Ctx) : Bool :=
  let a := x.pc + BitVec.ofNat 48 x.len
  let th := s.thr x.t
  let n := s.codeLen x.t a
  th.fetchBad.isSome || (List.range n).all (fun i => th.fetch.any (fun l => l.va == alignTo (a + BitVec.ofNat 48 i) 6))

end Sys2Proof.Machine
end

