-- ==== Sys2Proof/Machine/Issue.lean ====
section
/-! DEFINITION. The issue of an instruction: who may issue, steps 1 to 4 of 03 R107, the end of an instruction, its trap, and the
shared flow of the data instructions (steps 5 to 8). -/

namespace Sys2Proof.Machine


/-- Every byte of n from a virtual address is in the thread's fetch buffer, and none carried POISON (06 R207, R215; 03 R107 step 1). -/
def Thread.holdsCode (th : Thread) (va : Addr) (n : Nat) : Bool :=
  (List.range n).all (fun i =>
    let a := va + BitVec.ofNat 48 i
    th.fetch.any (fun l => l.va == alignTo a 6 && !(bit l.poison (a.toNat / 16 % 4))))

/-- The thread can issue (02 R34, R37; 03 R111): its core is released, in service and powered, the thread ACTIVE, and
no MMIO answer is outstanding. -/
def State.canIssue (s : State) (t : Nat) : Bool :=
  let c := s.core (t / 16)
  let th := s.thr t
  c.released && !c.fenced && !(s.cluster (t / 64)).off && c.pwr == .c0 && th.st == .active && th.mmioW.isNone

/-- The issue effects before decode: THTCW is cleared when V is 1 (06 R232), the values of an own SYSWR come into force (02 R74), a
handler's first instruction has issued (07 R254), its core's next heartbeat may be sent (18 R584), and the return address that a CALL or HINGE left to the length of its delay slot is fixed (05 R165). -/
def Thread.onIssue (th : Thread) (len : Nat) : Thread :=
  let after := th.pc + BitVec.ofNat 48 len
  let th1 := { th with tcw := if bit th.tcw 63 then 0 else th.tcw, old := none, entered := false, issued := true }
  match th.slot with
  | none => th1
  | some sl => if sl.call then { th1 with rs := tset 0 th1.rs (th1.rsPtr - 1).toNat after } else th1

/-- The pending next instruction of a delay slot (05 R160, R163). -/
def Ctx.pending (x : Ctx) : Option Addr :=
  x.slot.map (fun sl => sl.next.getD (x.pc + BitVec.ofNat 48 x.len))

/-- A third line in the buffer stands in the target slot until the delay slot has issued: then it replaces a line that neither the next
instruction nor what follows it lies in (06 R216). -/
def Thread.dropThird (th : Thread) : Thread :=
  let first := alignTo th.pc 6
  if th.fetch.length < 3 then th
  else { th with fetch := th.fetch.eraseP (fun l => l.va != first && l.va != first + 64) }

/-- The end of an instruction: what was in flight is gone and the thread goes to its next instruction; the delay slot of an
accepted HINGE leaves the caller SUSPENDED (05 R160, R188). Of three lines held, one that is no longer needed goes (06 R216, log 66). -/
def Thread.finish (th : Thread) (x : Ctx) : Thread :=
  let th1 := th.clear
  match x.slot with
  | none => { th1 with pc := x.pc + BitVec.ofNat 48 x.len }
  | some sl =>
    let th2 := ({ th1 with pc := sl.next.getD (x.pc + BitVec.ofNat 48 x.len), slot := none }).dropThird
    if th2.hinge.any (fun h => h.slotPc == x.pc) && th2.st == .active then { th2 with st := .suspended } else th2

/-- The trap of an instruction (07 R243): the saved PC is the instruction, or the one after an SVC or HVC. -/
def State.trapInstr (s : State) (x : Ctx) (e : Exn) : State :=
  let call := e.code = 0x20 ∨ e.code = 0x21
  s.trapEnter x.t e false (if call then x.pc + BitVec.ofNat 48 x.len else x.pc) (if call then none else x.pending) x.pc

/-- Steps 1 to 4 of 03 R107 around a body that performs steps 5 to 8 and answers whether the thread advances to its next
instruction. align is the instruction alignment of the mode (03 R84, 04 R149). The delay slot of an accepted HINGE goes on once the buffer
holds the instruction after it, since its end leaves the thread SUSPENDED with those lines (06 R219). -/
def issue (compact : Bool) (x : Ctx) (align : Nat) (illegal denied : Option Nat) (cond : BitVec 4)
    (body : Ctx → State → Res Bool) (s : State) : Out :=
  if 768 ≤ x.t then .fault .noSuchUnit
  else
    let th := s.thr x.t
    if !(s.canIssue x.t) || bit th.ctl 0 != compact then .next s
    else if x.pc.toNat % align ≠ 0 then .next (s.trapEnter x.t { code := 0x03, step := 1, addr := x.pc } false x.pc
      (x.slot.map (fun sl => sl.next.getD (x.pc + BitVec.ofNat 48 x.len))) x.pc)
    else if !(th.holdsCode x.pc x.len) then .next s
    else
      let s1 := s.setThr x.t (th.onIssue x.len)
      match illegal with
      | some k => .next (s1.trapInstr x { code := 0x01, step := 2, opnd := k })
      | none =>
        match denied with
        | some k => .next (s1.trapInstr x { code := 0x02, step := 3, opnd := k })
        | none =>
          if th.hingeSlot && !(s.holdsNext x) then .next s
          else if (match x.slot with | some sl => sl.annul | none => false) || !(condHolds cond th.flags) then
            .next (s1.modThr x.t (fun th => th.finish x))
          else match body x s1 with
            | .ok true s2 => .next (s2.modThr x.t (fun th => th.finish x))
            | .ok false s2 => .next s2
            | .trap e s2 => .next (s2.trapInstr x e)
            | .wait s2 => .next (s2.modThr x.t (fun u => { u with old := th.old, issued := th.issued }))

/-- A full-mode instruction of a thread, by its opcode's specification and its body. -/
def fullInstr (t : Nat) (e : Enc) (sp : Spec) (body : Ctx → State → Res Bool) (s : State) : Out :=
  let th := s.thr t
  let x := mkCtx s t false e (e.len sp.axIsLm) (sp.arrOf e) (sp.maskOf e) (sp.unsOf e) (sp.satOf e)
  issue false x 2 (decodeCheck sp th.slot.isSome e) (levelCheck sp th.sec th.lvl th e) e.cond body s

/-! ## Data instructions: steps 5 to 8 (03 R107) -/

/-- Step 5 of every operand in turn. -/
def resolveAll (x : Ctx) (al : Nat → Nat) : Nat → List Role → State → Res (List Place)
  | _, [], s => .ok [] s
  | k, r :: rs, s => (resolve x k (al k) r s).bind fun p s => (resolveAll x al (k + 1) rs s).bind fun ps s => .ok (p :: ps) s

/-- Step 6 of every operand in turn: sources answer their word, destinations a word that nothing uses. -/
def takeAll (x : Ctx) (acc : Nat → Accept) : Nat → List Role → List Place → State → Res (List TWord)
  | k, r :: rs, p :: ps, s =>
    (if r.reads then takeSource x k (acc k) p s else (obtainDest x k p s).bind fun _ s => .ok TWord.fresh s).bind fun w s =>
      (if r == .both then obtainDest x k p s else .ok () s).bind fun _ s =>
        (takeAll x acc (k + 1) rs ps s).bind fun ws s => .ok (w :: ws) s
  | _, _, _, s => .ok [] s

/-- What an operation computes at step 7: the word for operand 1 with the bytes written, if any, and the flags. -/
structure DataOut where
  res : Option (Data × BitVec 16 × Tag)
  fl : FlagUpd
deriving DecidableEq, Repr

/-- The parts of a place. -/
def Place.parts : Place → List Part
  | .mem _ ps => ps
  | _ => []

/-- Step 8 (03 R107, R110): room in the store buffer, dirty flags, destinations outside MMIO pages, flags and takes, then a
destination in an MMIO page. -/
def commit (x : Ctx) (dest : Option Place) (pls : List Place) (o : DataOut) (s : State) : Res Bool :=
  match dest, o.res with
  | some pl, some (d, mask, tag) =>
    if 16 < (s.core x.core).sb.length + pl.entries then .wait s
    else match dirtyParts x.t pl.parts s with
      | (false, s) => .wait s
      | (true, s) =>
        let s := s.writePlace x 1 pl d.toNat mask tag false
        let s := (s.modThr x.t (fun th => { th with flags := applyFlags th.flags o.fl })).takeWords x dest pls
        .ok true (s.writePlace x 1 pl d.toNat mask tag true)
  | _, _ =>
    .ok true ((s.modThr x.t (fun th => { th with flags := applyFlags th.flags o.fl })).takeWords x none pls)

/-- The body of a data instruction: compute answers the result or the code of an arithmetic fault (step 7). -/
def dataBody (sp : Spec) (compute : Ctx → List TWord → State → Except Nat DataOut) (x : Ctx) (s : State) : Res Bool :=
  let roles := (sp.roles x.e.form.toNat).getD []
  (resolveAll x (fun _ => 1) 1 roles s).bind fun pls s =>
    (takeAll x sp.acc 1 roles pls s).bind fun ws s =>
      match compute x ws s with
      | .error c => .trap { code := c, step := 7 } s
      | .ok o => commit x (if (roles.getD 0 .src).writes then pls.head? else none) pls o s

/-- A data instruction. -/
def dataInstr (t : Nat) (e : Enc) (sp : Spec) (compute : Ctx → List TWord → State → Except Nat DataOut) (s : State) : Out :=
  fullInstr t e sp (dataBody sp compute) s

end Sys2Proof.Machine
end

