-- ==== Sys2Proof/Machine/IntGroup.lean ====
section
/-! DEFINITION. The integer group (04 R119 to R122), with the helpers that every lane-by-lane group shares. -/

namespace Sys2Proof.Machine

/-- Forms of a two-source operation (04 R114). -/
def formsBin : List (Nat × List Role) := [(2, [.both, .src]), (3, [.dst, .src, .src])]

/-- Forms of a one-source operation (04 R119 NEG). -/
def formsUn : List (Nat × List Role) := [(1, [.both]), (2, [.dst, .src])]

/-- Forms of a multiply-accumulate, of a compare, of a form-3 operation and of a form-2 conversion. -/
def formsAcc : List (Nat × List Role) := [(3, [.both, .src, .src])]
def formsCmp : List (Nat × List Role) := [(2, [.src, .src])]
def formsThree : List (Nat × List Role) := [(3, [.dst, .src, .src])]
def formsCvt : List (Nat × List Role) := [(2, [.dst, .src])]

/-- The first and second source of a two-source operation (04 R114, R118). -/
def srcA (ws : List TWord) : TWord := if ws.length = 3 then ws.getD 1 TWord.fresh else ws.getD 0 TWord.fresh
def srcB (ws : List TWord) : TWord := if ws.length = 3 then ws.getD 2 TWord.fresh else ws.getD 1 TWord.fresh

/-- The source of a one-source operation. -/
def srcU (ws : List TWord) : TWord := if ws.length = 2 then ws.getD 1 TWord.fresh else ws.getD 0 TWord.fresh

/-- The enabled lanes of an instruction. -/
def enabledLanes (x : Ctx) : List Nat := (List.range (laneCount x.arr)).filter (fun i => bit x.mask i)

/-- A result formed lane by lane, written with a tag, and the flags over the enabled lanes (02 R62, 03 R92). -/
def lanesOut (x : Ctx) (fs : FlagSet) (tag : Tag) (f : Nat → LaneOut) : DataOut :=
  { res := some (BitVec.ofNat 128 (joinLanes (laneW x.arr) ((List.range (laneCount x.arr)).map (fun i => (f i).r))),
                 laneBytes x.arr x.mask, tag),
    fl := gatherFlags fs ((enabledLanes x).map f) }

/-- A two-source operation on lanes: width, first and second lane. -/
def binOp (fs : FlagSet) (tag : Tag) (f : Ctx → Nat → Nat → Nat → LaneOut) (x : Ctx) (ws : List TWord) (_ : State) :
    Except Nat DataOut :=
  let w := laneW x.arr
  .ok (lanesOut x fs tag (fun i => f x w (laneOf (srcA ws).data w i) (laneOf (srcB ws).data w i)))

/-- A one-source operation on lanes. -/
def unOp (fs : FlagSet) (tag : Tag) (f : Ctx → Nat → Nat → LaneOut) (x : Ctx) (ws : List TWord) (_ : State) : Except Nat DataOut :=
  let w := laneW x.arr
  .ok (lanesOut x fs tag (fun i => f x w (laneOf (srcU ws).data w i)))

/-- A multiply-accumulate on lanes: width, lanes of operands 1, 2 and 3. -/
def accOp (fs : FlagSet) (tag : Tag) (f : Ctx → Nat → Nat → Nat → Nat → LaneOut) (x : Ctx) (ws : List TWord) (_ : State) :
    Except Nat DataOut :=
  let w := laneW x.arr
  .ok (lanesOut x fs tag (fun i => f x w (laneOf (ws.getD 0 TWord.fresh).data w i) (laneOf (ws.getD 1 TWord.fresh).data w i)
    (laneOf (ws.getD 2 TWord.fresh).data w i)))

/-- A compare on lanes: flags only. -/
def cmpOp (fs : FlagSet) (f : Ctx → Nat → Nat → Nat → LaneOut) (x : Ctx) (ws : List TWord) (_ : State) : Except Nat DataOut :=
  let w := laneW x.arr
  .ok { res := none,
        fl := gatherFlags fs ((enabledLanes x).map (fun i =>
          f x w (laneOf (ws.getD 0 TWord.fresh).data w i) (laneOf (ws.getD 1 TWord.fresh).data w i))) }

/-- An exact value becomes a lane (04 R120, R121). -/
def exactOut (x : Ctx) (w : Nat) (v : Int) (c : Bool) : LaneOut :=
  laneOut w (fitLane x.sat x.uns w v) c (overflows x.uns w v)

def laneAdd (x : Ctx) (w a b : Nat) : LaneOut :=
  exactOut x w (laneInt x.uns w a + laneInt x.uns w b) (decide (2 ^ w ≤ a + b))

def laneSub (x : Ctx) (w a b : Nat) : LaneOut :=
  exactOut x w (laneInt x.uns w a - laneInt x.uns w b) (decide (b ≤ a))

/-- Carry-in forms (04 R119 ADC, SBC, R120). -/
def laneAdc (cin : Bool) (x : Ctx) (w a b : Nat) : LaneOut :=
  exactOut x w (laneInt x.uns w a + laneInt x.uns w b + b2n cin) (decide (2 ^ w ≤ a + b + b2n cin))

def laneSbc (cin : Bool) (x : Ctx) (w a b : Nat) : LaneOut :=
  exactOut x w (laneInt x.uns w a - laneInt x.uns w b - (1 - b2n cin : Int)) (decide (b + 1 ≤ a + b2n cin))

def laneNeg (x : Ctx) (w a : Nat) : LaneOut := exactOut x w (-(laneInt false w a)) (a == 0)
def laneAbs (x : Ctx) (w a : Nat) : LaneOut := exactOut x w |laneInt false w a| false
def laneMul (x : Ctx) (w a b : Nat) : LaneOut := exactOut x w (laneInt x.uns w a * laneInt x.uns w b) false
def laneMulh (x : Ctx) (w a b : Nat) : LaneOut :=
  laneOut w (wrapLane w ((laneInt x.uns w a * laneInt x.uns w b) / 2 ^ w)) false false
def laneMac (x : Ctx) (w d a b : Nat) : LaneOut :=
  exactOut x w (laneInt x.uns w d + laneInt x.uns w a * laneInt x.uns w b) false
def laneDiv (x : Ctx) (w a b : Nat) : LaneOut :=
  let q := (laneInt x.uns w a).tdiv (laneInt x.uns w b)
  laneOut w (wrapLane w q) false (overflows x.uns w q)
def laneRem (x : Ctx) (w a b : Nat) : LaneOut :=
  laneOut w (wrapLane w ((laneInt x.uns w a).tmod (laneInt x.uns w b))) false false
def laneLesser (x : Ctx) (w a b : Nat) : LaneOut := laneOut w (if laneInt x.uns w b < laneInt x.uns w a then b else a) false false
def laneGreater (x : Ctx) (w a b : Nat) : LaneOut := laneOut w (if laneInt x.uns w a < laneInt x.uns w b then b else a) false false

/-- Division with the divide-by-zero fault of an enabled lane (04 R122). -/
def divOp (fs : FlagSet) (tag : Tag) (f : Ctx → Nat → Nat → Nat → LaneOut) (x : Ctx) (ws : List TWord) (s : State) :
    Except Nat DataOut :=
  if (enabledLanes x).any (fun i => laneOf (srcB ws).data (laneW x.arr) i == 0) then .error 0x18
  else binOp fs tag f x ws s

/-- The integer group's opcode specification (04 R119). -/
def intSpec (forms : List (Nat × List Role)) (arrs : List Nat) (sat uns : Bool) (arr0 : Nat) : Spec :=
  { group := 0, forms := forms, lm := some { arrs := arrs, sat := sat, uns := uns }, arr0 := arr0, acc := fun _ => accInt }

/-- ADD (04 R119, R120, R121). -/
def execAdd (t : Nat) (e : Enc) (s : State) : Out :=
  dataInstr t e (intSpec formsBin [0, 1, 2, 3] true true 1) (binOp flNZCV Tag.int laneAdd) s

/-- SUB (04 R119, R120, R121). -/
def execSub (t : Nat) (e : Enc) (s : State) : Out :=
  dataInstr t e (intSpec formsBin [0, 1, 2, 3] true true 1) (binOp flNZCV Tag.int laneSub) s

/-- ADC, 1 × 128 only (04 R119, R120). -/
def execAdc (t : Nat) (e : Enc) (s : State) : Out :=
  dataInstr t e (intSpec formsBin [0] false false 0)
    (fun x ws s => binOp flNZCV Tag.int (laneAdc (bit (s.thr t).flags 2)) x ws s) s

/-- SBC, 1 × 128 only (04 R119, R120). -/
def execSbc (t : Nat) (e : Enc) (s : State) : Out :=
  dataInstr t e (intSpec formsBin [0] false false 0)
    (fun x ws s => binOp flNZCV Tag.int (laneSbc (bit (s.thr t).flags 2)) x ws s) s

/-- NEG (04 R119, R121). -/
def execNeg (t : Nat) (e : Enc) (s : State) : Out :=
  dataInstr t e (intSpec formsUn [0, 1, 2, 3] true false 1) (unOp flNZCV Tag.int laneNeg) s

/-- ABS (04 R119, R121). -/
def execAbs (t : Nat) (e : Enc) (s : State) : Out :=
  dataInstr t e (intSpec formsUn [0, 1, 2, 3] true false 1) (unOp flNZV Tag.int laneAbs) s

/-- MUL (04 R119, R121). -/
def execMul (t : Nat) (e : Enc) (s : State) : Out :=
  dataInstr t e (intSpec formsBin [1, 2, 3] true true 1) (binOp flNZV Tag.int laneMul) s

/-- MULH (04 R119). -/
def execMulh (t : Nat) (e : Enc) (s : State) : Out :=
  dataInstr t e (intSpec formsBin [1, 2, 3] false true 1) (binOp flNZ Tag.int laneMulh) s

/-- MAC (04 R119, R121). -/
def execMac (t : Nat) (e : Enc) (s : State) : Out :=
  dataInstr t e (intSpec formsAcc [1, 2, 3] true true 1) (accOp flNZV Tag.int laneMac) s

/-- DIV (04 R119, R122). -/
def execDiv (t : Nat) (e : Enc) (s : State) : Out :=
  dataInstr t e (intSpec formsBin [1, 2, 3] false true 1) (divOp flNZV Tag.int laneDiv) s

/-- REM (04 R119, R122). -/
def execRem (t : Nat) (e : Enc) (s : State) : Out :=
  dataInstr t e (intSpec formsBin [1, 2, 3] false true 1) (divOp flNZ Tag.int laneRem) s

/-- MIN (04 R119). -/
def execMin (t : Nat) (e : Enc) (s : State) : Out :=
  dataInstr t e (intSpec formsBin [0, 1, 2, 3] false true 1) (binOp flNZ Tag.int laneLesser) s

/-- MAX (04 R119). -/
def execMax (t : Nat) (e : Enc) (s : State) : Out :=
  dataInstr t e (intSpec formsBin [0, 1, 2, 3] false true 1) (binOp flNZ Tag.int laneGreater) s

/-- CMP (04 R119, R120). -/
def execCmp (t : Nat) (e : Enc) (s : State) : Out :=
  dataInstr t e (intSpec formsCmp [0, 1, 2, 3] false true 1) (cmpOp flNZCV laneSub) s

end Sys2Proof.Machine
end

