-- ==== Sys2Proof/Machine/FixGroup.lean ====
section
/-! DEFINITION. The fixed-point group (04 R123 to R126). -/

namespace Sys2Proof.Machine

/-- The fixed-point group's opcode specification: default 4 × 32, signed, saturating (04 R123, R124). -/
def fixSpec (forms : List (Nat × List Role)) (sat uns : Bool) : Spec :=
  { group := 1, forms := forms, lm := some { arrs := [1, 2, 3], sat := sat, uns := uns }, arr0 := 2, sat0 := true,
    acc := fun _ => accFix }

/-- The rounded product, ties toward plus infinity (04 R125). -/
def fixProduct (uns : Bool) (w a b : Nat) : Int :=
  if uns then (laneInt true w a * laneInt true w b + 2 ^ (w - 1)) / 2 ^ w
  else (laneInt false w a * laneInt false w b + 2 ^ (w - 2)) / 2 ^ (w - 1)

/-- The count of a lane (04 R126, R132). -/
def shiftCount (b : Nat) : Nat := b % 256

def laneFxmul (x : Ctx) (w a b : Nat) : LaneOut := exactOut x w (fixProduct x.uns w a b) false
def laneFxmac (x : Ctx) (w d a b : Nat) : LaneOut := exactOut x w (laneInt x.uns w d + fixProduct x.uns w a b) false
def laneFxshl (x : Ctx) (w a b : Nat) : LaneOut := exactOut x w (laneInt x.uns w a * 2 ^ shiftCount b) false

/-- rnd(a / 2^s), ties toward plus infinity; 0 for a count of the width or more (04 R126). -/
def laneFxshr (x : Ctx) (w a b : Nat) : LaneOut :=
  let k := shiftCount b
  let r : Int := if w ≤ k then 0 else if k = 0 then laneInt x.uns w a else (laneInt x.uns w a + 2 ^ (k - 1)) / 2 ^ k
  laneOut w (wrapLane w r) false false

/-- FXADD (04 R124). -/
def execFxadd (t : Nat) (e : Enc) (s : State) : Out :=
  dataInstr t e (fixSpec formsBin true true) (binOp flNZCV Tag.fix laneAdd) s

/-- FXSUB (04 R124). -/
def execFxsub (t : Nat) (e : Enc) (s : State) : Out :=
  dataInstr t e (fixSpec formsBin true true) (binOp flNZCV Tag.fix laneSub) s

/-- FXNEG (04 R124). -/
def execFxneg (t : Nat) (e : Enc) (s : State) : Out :=
  dataInstr t e (fixSpec formsUn true false) (unOp flNZV Tag.fix laneNeg) s

/-- FXABS (04 R124). -/
def execFxabs (t : Nat) (e : Enc) (s : State) : Out :=
  dataInstr t e (fixSpec formsUn true false) (unOp flNZV Tag.fix laneAbs) s

/-- FXMUL (04 R124, R125). -/
def execFxmul (t : Nat) (e : Enc) (s : State) : Out :=
  dataInstr t e (fixSpec formsBin true true) (binOp flNZV Tag.fix laneFxmul) s

/-- FXMAC (04 R124, R125). -/
def execFxmac (t : Nat) (e : Enc) (s : State) : Out :=
  dataInstr t e (fixSpec formsAcc true true) (accOp flNZV Tag.fix laneFxmac) s

/-- FXSHL (04 R124, R126). -/
def execFxshl (t : Nat) (e : Enc) (s : State) : Out :=
  dataInstr t e (fixSpec formsThree true true) (binOp flNZV Tag.fix laneFxshl) s

/-- FXSHR (04 R124, R126). -/
def execFxshr (t : Nat) (e : Enc) (s : State) : Out :=
  dataInstr t e (fixSpec formsThree false true) (binOp flNZ Tag.fix laneFxshr) s

/-- FXMIN (04 R124). -/
def execFxmin (t : Nat) (e : Enc) (s : State) : Out :=
  dataInstr t e (fixSpec formsBin false true) (binOp flNZ Tag.fix laneLesser) s

/-- FXMAX (04 R124). -/
def execFxmax (t : Nat) (e : Enc) (s : State) : Out :=
  dataInstr t e (fixSpec formsBin false true) (binOp flNZ Tag.fix laneGreater) s

/-- A compare never saturates: SAT is not in its Modifier column, and its difference only sets flags (04 R119 CMP, R124). -/
def laneFxcmp (x : Ctx) (w a b : Nat) : LaneOut := laneSub { x with sat := false } w a b

/-- FXCMP (04 R124). -/
def execFxcmp (t : Nat) (e : Enc) (s : State) : Out :=
  dataInstr t e (fixSpec formsCmp false true) (cmpOp flNZCV laneFxcmp) s

end Sys2Proof.Machine
end

