-- ==== Sys2Proof/Machine/BitGroup.lean ====
section
/-! DEFINITION. The bitwise and shift group (04 R131, R132). -/

namespace Sys2Proof.Machine

/-- The group's opcode specification: default 1 × 128, no SAT, no UNS (04 R131). -/
def bitSpec (forms : List (Nat × List Role)) : Spec :=
  { group := 3, forms := forms, lm := some { arrs := [0, 1, 2, 3], sat := false, uns := false }, arr0 := 0,
    acc := fun _ => accBit }

/-- A lane from its bits, with C. -/
def bitOut (w r : Nat) (c : Bool) : LaneOut := laneOut w (r % 2 ^ w) c false

def laneShl (_ : Ctx) (w a b : Nat) : LaneOut :=
  let k := shiftCount b
  bitOut w (a <<< k) (decide (0 < k ∧ k ≤ w) && a.testBit (w - k))

def laneShr (_ : Ctx) (w a b : Nat) : LaneOut :=
  let k := shiftCount b
  bitOut w (a >>> k) (decide (0 < k) && a.testBit (k - 1))

/-- The sign bit fills; the last bit shifted out beyond the width is the sign bit (04 R132). -/
def laneSar (_ : Ctx) (w a b : Nat) : LaneOut :=
  let k := shiftCount b
  let v := laneInt false w a
  bitOut w (wrapLane w (v / 2 ^ k)) (decide (0 < k) && decide ((v / 2 ^ (k - 1)) % 2 = 1))

def laneRol (_ : Ctx) (w a b : Nat) : LaneOut :=
  let k := shiftCount b % w
  let r := ((a <<< k) ||| (a >>> (w - k))) % 2 ^ w
  bitOut w r (decide (0 < k) && r.testBit 0)

def laneRor (_ : Ctx) (w a b : Nat) : LaneOut :=
  let k := shiftCount b % w
  let r := ((a >>> k) ||| (a <<< (w - k))) % 2 ^ w
  bitOut w r (decide (0 < k) && r.testBit (w - 1))

def lanePopc (_ : Ctx) (w a : Nat) : LaneOut := bitOut w ((List.range w).filter (fun i => a.testBit i)).length false

/-- Leading zeros of a lane (04 R131 CLZ). -/
def laneClz (_ : Ctx) (w a : Nat) : LaneOut :=
  bitOut w (match ((List.range w).reverse.find? (fun i => a.testBit i)) with | some i => w - 1 - i | none => w) false

/-- AND (04 R131). -/
def execAnd (t : Nat) (e : Enc) (s : State) : Out :=
  dataInstr t e (bitSpec formsBin) (binOp flNZ Tag.bits (fun _ w a b => bitOut w (a &&& b) false)) s

/-- OR (04 R131). -/
def execOr (t : Nat) (e : Enc) (s : State) : Out :=
  dataInstr t e (bitSpec formsBin) (binOp flNZ Tag.bits (fun _ w a b => bitOut w (a ||| b) false)) s

/-- XOR (04 R131). -/
def execXor (t : Nat) (e : Enc) (s : State) : Out :=
  dataInstr t e (bitSpec formsBin) (binOp flNZ Tag.bits (fun _ w a b => bitOut w (a ^^^ b) false)) s

/-- ANDN (04 R131). -/
def execAndn (t : Nat) (e : Enc) (s : State) : Out :=
  dataInstr t e (bitSpec formsBin) (binOp flNZ Tag.bits (fun _ w a b => bitOut w (a &&& (2 ^ w - 1 - b)) false)) s

/-- NOT (04 R131). -/
def execNot (t : Nat) (e : Enc) (s : State) : Out :=
  dataInstr t e (bitSpec formsUn) (unOp flNZ Tag.bits (fun _ w a => bitOut w (2 ^ w - 1 - a) false)) s

/-- SHL (04 R131, R132). -/
def execShl (t : Nat) (e : Enc) (s : State) : Out := dataInstr t e (bitSpec formsBin) (binOp flNZC Tag.bits laneShl) s

/-- SHR (04 R131, R132). -/
def execShr (t : Nat) (e : Enc) (s : State) : Out := dataInstr t e (bitSpec formsBin) (binOp flNZC Tag.bits laneShr) s

/-- SAR (04 R131, R132). -/
def execSar (t : Nat) (e : Enc) (s : State) : Out := dataInstr t e (bitSpec formsBin) (binOp flNZC Tag.bits laneSar) s

/-- ROL (04 R131, R132). -/
def execRol (t : Nat) (e : Enc) (s : State) : Out := dataInstr t e (bitSpec formsBin) (binOp flNZC Tag.bits laneRol) s

/-- ROR (04 R131, R132). -/
def execRor (t : Nat) (e : Enc) (s : State) : Out := dataInstr t e (bitSpec formsBin) (binOp flNZC Tag.bits laneRor) s

/-- POPC (04 R131). -/
def execPopc (t : Nat) (e : Enc) (s : State) : Out := dataInstr t e (bitSpec formsUn) (unOp flZ Tag.bits lanePopc) s

/-- CLZ (04 R131). -/
def execClz (t : Nat) (e : Enc) (s : State) : Out := dataInstr t e (bitSpec formsUn) (unOp flZ Tag.bits laneClz) s

end Sys2Proof.Machine
end

