-- ==== Sys2Proof/Machine/FloatGroup.lean ====
section
/-! DEFINITION. The floating-point group (04 R127 to R130): IEEE 754 binary32 and binary64 on exact integers, rounded once. -/

namespace Sys2Proof.Machine

/-! ## Formats and values -/

/-- Precision and bias of the format of a lane width (02 R51). -/
def fPrec (w : Nat) : Nat := if w = 32 then 24 else 53
def fBias (w : Nat) : Nat := if w = 32 then 127 else 1023

/-- Exponent field, fraction field and sign of a lane. -/
def fExp (w a : Nat) : Nat := (a >>> (fPrec w - 1)) % 2 ^ (w - fPrec w)
def fFrac (w a : Nat) : Nat := a % 2 ^ (fPrec w - 1)
def fSign (w a : Nat) : Bool := a.testBit (w - 1)

/-- All ones in the exponent field. -/
def fExpMax (w : Nat) : Nat := 2 ^ (w - fPrec w) - 1

def isNan (w a : Nat) : Bool := fExp w a == fExpMax w && fFrac w a != 0
def isSnan (w a : Nat) : Bool := isNan w a && !(a.testBit (fPrec w - 2))
def isInf (w a : Nat) : Bool := fExp w a == fExpMax w && fFrac w a == 0
def isZero (w a : Nat) : Bool := fExp w a == 0 && fFrac w a == 0
def isSub (w a : Nat) : Bool := fExp w a == 0 && fFrac w a != 0

/-- A lane of a sign and the other bits. -/
def fPack (w : Nat) (sg : Bool) (m : Nat) : Nat := b2n sg * 2 ^ (w - 1) + m
def fInf (w : Nat) (sg : Bool) : Nat := fPack w sg (fExpMax w * 2 ^ (fPrec w - 1))
def fMaxFinite (w : Nat) (sg : Bool) : Nat := fPack w sg (fExpMax w * 2 ^ (fPrec w - 1) - 1)

/-- The default NaN, and a NaN made quiet (04 R129). -/
def fDefNan (w : Nat) : Nat := fExpMax w * 2 ^ (fPrec w - 1) + 2 ^ (fPrec w - 2)
def fQuiet (w a : Nat) : Nat := a ||| 2 ^ (fPrec w - 2)

/-- A subnormal source under FTZ is zero of the same sign (04 R130). -/
def fFlush (ftz : Bool) (w a : Nat) : Nat := if ftz && isSub w a then fPack w (fSign w a) 0 else a

/-- A finite value as mantissa × 2^exponent. -/
def fMant (w a : Nat) : Nat := if fExp w a = 0 then fFrac w a else 2 ^ (fPrec w - 1) + fFrac w a
def fScale (w a : Nat) : Int := (if fExp w a = 0 then 1 else fExp w a : Int) - fBias w - (fPrec w - 1 : Int)

/-- A finite value as a signed integer × 2^fScale. -/
def fInt (w a : Nat) : Int := if fSign w a then -(fMant w a : Int) else fMant w a

/-! ## Rounding -/

/-- Whether a magnitude is rounded up: kept bits odd, comparison of the rest with half (0 exact, 1 below, 2 half, 3 above), the
mode of THCTL.RND and the sign (02 R71). -/
def roundUp (rnd : Nat) (sg odd : Bool) (rest : Nat) : Bool :=
  if rest = 0 then false
  else match rnd with
    | 0 => decide (rest = 3) || (decide (rest = 2) && odd)
    | 1 => false
    | 2 => !sg
    | _ => sg

/-- How the bits cut off by a right shift of k compare with half, with a sticky bit below. -/
def restOf (m k : Nat) (sticky : Bool) : Nat :=
  if k = 0 then b2n sticky
  else
    let r := m % 2 ^ k
    let h := 2 ^ (k - 1)
    if r = 0 && !sticky then 0 else if r < h then 1 else if r = h && !sticky then 2 else 3

/-- A magnitude m × 2^e (with a sticky bit below m) rounded to an integer of unit 2^q. -/
def roundAt (rnd : Nat) (sg : Bool) (m : Nat) (e q : Int) (sticky : Bool) : Nat :=
  if e < q then
    let k := (q - e).toNat
    let keep := m >>> k
    keep + b2n (roundUp rnd sg (decide (keep % 2 = 1)) (restOf m k sticky))
  else
    let keep := m <<< (e - q).toNat
    keep + b2n (roundUp rnd sg (decide (keep % 2 = 1)) (b2n sticky))

/-- A non-zero magnitude m × 2^e rounded to the format: the lane and whether it overflowed (04 R127, R130). -/
def fRound (w rnd : Nat) (ftz sg : Bool) (m : Nat) (e : Int) (sticky : Bool) : Nat × Bool :=
  let p := fPrec w
  let emin : Int := 1 - fBias w - (p - 1 : Int)
  let q : Int := max (e + Nat.size m - p) emin
  let keep := roundAt rnd sg m e q sticky
  let (keep, q) := if 2 ^ p ≤ keep then (keep / 2, q + 1) else (keep, q)
  if keep < 2 ^ (p - 1) then (fPack w sg (if ftz then 0 else keep), false)
  else
    let ef := (q - emin).toNat + 1
    if fExpMax w ≤ ef then
      (if rnd = 0 ∨ (rnd = 2 ∧ sg = false) ∨ (rnd = 3 ∧ sg = true) then fInf w sg else fMaxFinite w sg, true)
    else (fPack w sg (ef * 2 ^ (p - 1) + (keep - 2 ^ (p - 1))), false)

/-- The sign of an exact zero sum of values of different sign (IEEE 754, 04 R127). -/
def zeroSumSign (rnd : Nat) : Bool := decide (rnd = 3)

/-- An exact signed integer × 2^e rounded; a zero takes the given sign. -/
def fOfInt (w rnd : Nat) (ftz : Bool) (v : Int) (e : Int) (zs : Bool) : Nat × Bool :=
  if v = 0 then (fPack w zs 0, false) else fRound w rnd ftz (decide (v < 0)) v.natAbs e false

/-! ## Lanes -/

/-- A floating-point lane: N the sign bit, Z for either zero, V as given (04 R128). -/
def fOut (w r : Nat) (v : Bool) : LaneOut := { r := r, n := fSign w r, z := isZero w r, c := false, v := v }

/-- The first NaN operand made quiet; V when any is signalling (04 R128, R129). -/
def fNans (w : Nat) (l : List Nat) : Option LaneOut :=
  match l.find? (isNan w) with
  | some a => some (fOut w (fQuiet w a) (l.any (isSnan w)))
  | none => none

def fInvalid (w : Nat) : LaneOut := fOut w (fDefNan w) true

/-- The exact sum of two finite values, as an integer and its exponent. -/
def fSum (_w : Nat) (ma : Int) (ea : Int) (mb : Int) (eb : Int) : Int × Int :=
  let e := min ea eb
  (ma * 2 ^ (ea - e).toNat + mb * 2 ^ (eb - e).toNat, e)

def laneFadd (x : Ctx) (w a0 b0 : Nat) : LaneOut :=
  let a := fFlush x.ftz w a0
  let b := fFlush x.ftz w b0
  match fNans w [a, b] with
  | some o => o
  | none =>
    if isInf w a then (if isInf w b && fSign w a != fSign w b then fInvalid w else fOut w a false)
    else if isInf w b then fOut w b false
    else
      let zs := if fSign w a == fSign w b then fSign w a else zeroSumSign x.rnd
      let v := fSum w (fInt w a) (fScale w a) (fInt w b) (fScale w b)
      let r := fOfInt w x.rnd x.ftz v.1 v.2 zs
      fOut w r.1 r.2

/-- Subtraction is addition of the negated second operand, but a NaN passes unchanged (04 R129). -/
def laneFsub (x : Ctx) (w a b : Nat) : LaneOut :=
  if isNan w b then laneFadd x w a b else laneFadd x w a (b ^^^ 2 ^ (w - 1))

def laneFmul (x : Ctx) (w a0 b0 : Nat) : LaneOut :=
  let a := fFlush x.ftz w a0
  let b := fFlush x.ftz w b0
  let sg := fSign w a != fSign w b
  match fNans w [a, b] with
  | some o => o
  | none =>
    if isInf w a || isInf w b then (if isZero w a || isZero w b then fInvalid w else fOut w (fInf w sg) false)
    else if isZero w a || isZero w b then fOut w (fPack w sg 0) false
    else
      let r := fRound w x.rnd x.ftz sg (fMant w a * fMant w b) (fScale w a + fScale w b) false
      fOut w r.1 r.2

def laneFdiv (x : Ctx) (w a0 b0 : Nat) : LaneOut :=
  let a := fFlush x.ftz w a0
  let b := fFlush x.ftz w b0
  let sg := fSign w a != fSign w b
  match fNans w [a, b] with
  | some o => o
  | none =>
    if isInf w a then (if isInf w b then fInvalid w else fOut w (fInf w sg) false)
    else if isInf w b then fOut w (fPack w sg 0) false
    else if isZero w b then (if isZero w a then fInvalid w else fOut w (fInf w sg) true)
    else if isZero w a then fOut w (fPack w sg 0) false
    else
      let k := 2 * fPrec w + 4
      let n := fMant w a <<< k
      let r := fRound w x.rnd x.ftz sg (n / fMant w b) (fScale w a - fScale w b - k) (n % fMant w b != 0)
      fOut w r.1 r.2

/-- Square root of a positive magnitude, on an even exponent with bits to spare. -/
def laneFsqrt (x : Ctx) (w a0 : Nat) : LaneOut :=
  let a := fFlush x.ftz w a0
  match fNans w [a] with
  | some o => o
  | none =>
    if isZero w a then fOut w a false
    else if fSign w a then fInvalid w
    else if isInf w a then fOut w a false
    else
      let k := 2 * fPrec w + 4
      let odd : Nat := if (fScale w a - k) % 2 = 0 then 0 else 1
      let n := fMant w a <<< (k + odd)
      let q := Nat.sqrt n
      let r := fRound w x.rnd x.ftz false q ((fScale w a - k - odd) / 2) (q * q != n)
      fOut w r.1 r.2

def laneFma (x : Ctx) (w d0 a0 b0 : Nat) : LaneOut :=
  let a := fFlush x.ftz w a0
  let b := fFlush x.ftz w b0
  let d := fFlush x.ftz w d0
  let sg := fSign w a != fSign w b
  let infZero := (isInf w a && isZero w b) || (isZero w a && isInf w b)
  match fNans w [a, b, d] with
  | some o => if infZero && !o.v then { o with v := Config.fmaInfZeroQuiet } else o
  | none =>
    if infZero then fInvalid w
    else if isInf w a || isInf w b then (if isInf w d && fSign w d != sg then fInvalid w else fOut w (fInf w sg) false)
    else if isInf w d then fOut w d false
    else
      let m : Int := fInt w a * fInt w b
      let zs := if sg == fSign w d then sg else zeroSumSign x.rnd
      let v := fSum w m (fScale w a + fScale w b) (fInt w d) (fScale w d)
      let r := fOfInt w x.rnd x.ftz v.1 v.2 zs
      fOut w r.1 r.2

/-- a < b and a ≤ b of values that are no NaN. -/
def fLt (w a b : Nat) : Bool :=
  if isInf w a then fSign w a && !(isInf w b && fSign w b)
  else if isInf w b then !(fSign w b)
  else decide ((fSum w (fInt w a) (fScale w a) (-(fInt w b)) (fScale w b)).1 < 0)

def fEq (w a b : Nat) : Bool := a == b || (isZero w a && isZero w b)

/-- The minimum or maximum, −0 below +0; one quiet NaN gives the other operand (04 R127, R129). -/
def laneFminmax (big : Bool) (x : Ctx) (w a0 b0 : Nat) : LaneOut :=
  let a := fFlush x.ftz w a0
  let b := fFlush x.ftz w b0
  if isSnan w a || isSnan w b then (fNans w [a, b]).getD (fInvalid w)
  else if isNan w a && !(isNan w b) then fOut w b false
  else if isNan w b && !(isNan w a) then fOut w a false
  else match fNans w [a, b] with
    | some o => o
    | none =>
      let aFirst := if isZero w a && isZero w b then fSign w a else fLt w a b
      fOut w (if aFirst != big then a else b) false

/-- A compare lane: all ones where the relation holds; N when it holds, Z when not (04 R127, R128). -/
def cmpOut (w : Nat) (rel v : Bool) : LaneOut := { r := if rel then 2 ^ w - 1 else 0, n := rel, z := !rel, c := false, v := v }

def laneFcmpeq (x : Ctx) (w a b : Nat) : LaneOut :=
  cmpOut w (!(isNan w a) && !(isNan w b) && fEq w (fFlush x.ftz w a) (fFlush x.ftz w b)) (isSnan w a || isSnan w b)

def laneFcmplt (x : Ctx) (w a b : Nat) : LaneOut :=
  let nan := isNan w a || isNan w b
  cmpOut w (!nan && fLt w (fFlush x.ftz w a) (fFlush x.ftz w b)) nan

def laneFcmple (x : Ctx) (w a b : Nat) : LaneOut :=
  let nan := isNan w a || isNan w b
  let a := fFlush x.ftz w a
  let b := fFlush x.ftz w b
  cmpOut w (!nan && (fLt w a b || fEq w a b)) nan

def laneFcmpun (_ : Ctx) (w a b : Nat) : LaneOut := cmpOut w (isNan w a || isNan w b) false

/-- The group's opcode specification: default 2 × 64 (04 R127, 02 R52). -/
def fltSpec (forms : List (Nat × List Role)) : Spec :=
  { group := 2, forms := forms, lm := some { arrs := [1, 2], sat := false, uns := false }, arr0 := 1, flt := true,
    acc := fun _ => accFlt }

/-- FADD (04 R127). -/
def execFadd (t : Nat) (e : Enc) (s : State) : Out := dataInstr t e (fltSpec formsBin) (binOp flNZV Tag.flt laneFadd) s

/-- FSUB (04 R127). -/
def execFsub (t : Nat) (e : Enc) (s : State) : Out := dataInstr t e (fltSpec formsBin) (binOp flNZV Tag.flt laneFsub) s

/-- FMUL (04 R127). -/
def execFmul (t : Nat) (e : Enc) (s : State) : Out := dataInstr t e (fltSpec formsBin) (binOp flNZV Tag.flt laneFmul) s

/-- FDIV (04 R127). -/
def execFdiv (t : Nat) (e : Enc) (s : State) : Out := dataInstr t e (fltSpec formsBin) (binOp flNZV Tag.flt laneFdiv) s

/-- FSQRT (04 R127). -/
def execFsqrt (t : Nat) (e : Enc) (s : State) : Out := dataInstr t e (fltSpec formsUn) (unOp flNZV Tag.flt laneFsqrt) s

/-- FMA (04 R127). -/
def execFma (t : Nat) (e : Enc) (s : State) : Out := dataInstr t e (fltSpec formsAcc) (accOp flNZV Tag.flt laneFma) s

/-- FMIN (04 R127, R129). -/
def execFmin (t : Nat) (e : Enc) (s : State) : Out :=
  dataInstr t e (fltSpec formsBin) (binOp flNZV Tag.flt (laneFminmax false)) s

/-- FMAX (04 R127, R129). -/
def execFmax (t : Nat) (e : Enc) (s : State) : Out :=
  dataInstr t e (fltSpec formsBin) (binOp flNZV Tag.flt (laneFminmax true)) s

/-- FABS (04 R127, R129). -/
def execFabs (t : Nat) (e : Enc) (s : State) : Out :=
  dataInstr t e (fltSpec formsUn) (unOp flNZ Tag.flt (fun _ w a => fOut w (a % 2 ^ (w - 1)) false)) s

/-- FNEG (04 R127, R129). -/
def execFneg (t : Nat) (e : Enc) (s : State) : Out :=
  dataInstr t e (fltSpec formsUn) (unOp flNZ Tag.flt (fun _ w a => fOut w (a ^^^ 2 ^ (w - 1)) false)) s

/-- FCMPEQ (04 R127, R128). -/
def execFcmpeq (t : Nat) (e : Enc) (s : State) : Out :=
  dataInstr t e (fltSpec formsThree) (binOp flNZV Tag.flt laneFcmpeq) s

/-- FCMPLT (04 R127, R128). -/
def execFcmplt (t : Nat) (e : Enc) (s : State) : Out :=
  dataInstr t e (fltSpec formsThree) (binOp flNZV Tag.flt laneFcmplt) s

/-- FCMPLE (04 R127, R128). -/
def execFcmple (t : Nat) (e : Enc) (s : State) : Out :=
  dataInstr t e (fltSpec formsThree) (binOp flNZV Tag.flt laneFcmple) s

/-- FCMPUN (04 R127, R128). -/
def execFcmpun (t : Nat) (e : Enc) (s : State) : Out :=
  dataInstr t e (fltSpec formsThree) (binOp flNZ Tag.flt laneFcmpun) s

end Sys2Proof.Machine
end

