-- ==== Sys2Proof/Machine/PtrGroup.lean ====
section
/-! DEFINITION. The pointer, conversion and tag-changing group (04 R133 to R136). -/

namespace Sys2Proof.Machine

/-! ## Pointer arithmetic (04 R133, R134) -/

/-- PADD, PSUB and PALIGN take a PTR base and an integer offset, and no lane modifier (04 R133). -/
def ptrSpec : Spec :=
  { group := 4, forms := formsThree, acc := fun k => if k = 2 then accPtr else accInt }

/-- The low half is replaced, the high half kept; V says that the result is no address (04 R133, R134). -/
def ptrOut (f : BitVec 64 → BitVec 64 → BitVec 64) (_ : Ctx) (ws : List TWord) (_ : State) : Except Nat DataOut :=
  let a := (srcA ws).data
  let r := f (a.setWidth 64) ((srcB ws).data.setWidth 64)
  .ok { res := some (setBits a 63 0 r.toNat, 0xFFFF, Tag.ptr), fl := { v := some (bits r 63 48 != 0) } }

/-- PALIGN clears k low bits, 48 at most (04 R133). -/
def alignPtr (a b : BitVec 64) : BitVec 64 :=
  let k := Nat.min (bits b 5 0) 48
  (a >>> k) <<< k

/-- PADD (04 R133, R134). -/
def execPadd (t : Nat) (e : Enc) (s : State) : Out := dataInstr t e ptrSpec (ptrOut (· + ·)) s

/-- PSUB (04 R133, R134). -/
def execPsub (t : Nat) (e : Enc) (s : State) : Out := dataInstr t e ptrSpec (ptrOut (· - ·)) s

/-- PALIGN (04 R133, R134). -/
def execPalign (t : Nat) (e : Enc) (s : State) : Out := dataInstr t e ptrSpec (ptrOut alignPtr) s

/-! ## Conversions (04 R133, R135) -/

/-- A conversion's opcode specification: its arrangements, the default being the first, and the named source. -/
def cvtSpec (arrs : List Nat) (uns : Bool) (named : Accept) : Spec :=
  { group := 4, forms := formsCvt, lm := some { arrs := arrs, sat := false, uns := uns }, arr0 := arrs.headD 1,
    acc := fun _ => named }

/-- Fraction bits of a fixed-point lane (04 R123). -/
def fixFrac (uns : Bool) (w : Nat) : Nat := if uns then w else w - 1

/-- A lane that holds an integer × 2^−k becomes floating (04 R135); V only on overflow, which cannot occur here. -/
def laneToFloat (k : Ctx → Nat → Nat) (x : Ctx) (w a : Nat) : LaneOut :=
  let r := fOfInt w x.rnd x.ftz (laneInt x.uns w a) (-(k x w : Int)) false
  fOut w r.1 r.2

/-- A floating lane times 2^k rounded to a lane; a NaN gives 0 with V, a rounded value out of range the nearest bound with V
(04 R135, R130). -/
def laneFromFloat (k : Ctx → Nat → Nat) (x : Ctx) (w a0 : Nat) : LaneOut :=
  let a := fFlush x.ftz w a0
  if isNan w a then laneOut w 0 false true
  else if isInf w a then laneOut w (wrapLane w (if fSign w a then laneMin x.uns w else laneMax x.uns w)) false true
  else
    let m : Int := roundAt x.rnd (fSign w a) (fMant w a) (fScale w a + k x w) 0 false
    let v := if fSign w a then -m else m
    laneOut w (fitLane true x.uns w v) false (overflows x.uns w v)

/-- A lane of one format in the other: NaNs made quiet with their leading fraction bits, subnormals under R130, one rounding; V
only on overflow (04 R128, R129, R130, R135). -/
def floatToFloat (x : Ctx) (wi wo a0 : Nat) : Nat × Bool :=
  let a := fFlush x.ftz wi a0
  if isNan wi a then
    let fr := fFrac wi a <<< 52 >>> (fPrec wi - 1) >>> (53 - fPrec wo)
    (fQuiet wo (fInf wo (fSign wi a) + fr), false)
  else if isInf wi a then (fInf wo (fSign wi a), false)
  else if isZero wi a then (fPack wo (fSign wi a) 0, false)
  else fRound wo x.rnd x.ftz (fSign wi a) (fMant wi a) (fScale wi a) false

/-- CVT.SD and CVT.DS: lanes 0 and 1 of one format to lanes 0 and 1 of the other, further lanes 0 (04 R133). -/
def floatCvt (wi : Nat) (x : Ctx) (ws : List TWord) (_ : State) : Except Nat DataOut :=
  let w := laneW x.arr
  .ok (lanesOut x flV Tag.flt (fun i =>
    if i < 2 then
      let r := floatToFloat x wi w (laneOf (srcU ws).data wi i)
      fOut w r.1 r.2
    else fOut w 0 false))

/-- CVT_IF (04 R133, R135). -/
def execCvtIf (t : Nat) (e : Enc) (s : State) : Out :=
  dataInstr t e (cvtSpec [1, 2] true accInt) (unOp flV Tag.flt (laneToFloat (fun _ _ => 0))) s

/-- CVT_FI (04 R133, R135). -/
def execCvtFi (t : Nat) (e : Enc) (s : State) : Out :=
  dataInstr t e (cvtSpec [1, 2] true accFlt) (unOp flV Tag.int (laneFromFloat (fun _ _ => 0))) s

/-- CVT_XF (04 R133, R135). -/
def execCvtXf (t : Nat) (e : Enc) (s : State) : Out :=
  dataInstr t e (cvtSpec [1, 2] true accFix) (unOp flV Tag.flt (laneToFloat (fun x w => fixFrac x.uns w))) s

/-- CVT_FX (04 R133, R135). -/
def execCvtFx (t : Nat) (e : Enc) (s : State) : Out :=
  dataInstr t e (cvtSpec [1, 2] true accFlt) (unOp flV Tag.fix (laneFromFloat (fun x w => fixFrac x.uns w))) s

/-- CVT_SD (04 R133, R135). -/
def execCvtSd (t : Nat) (e : Enc) (s : State) : Out := dataInstr t e (cvtSpec [1] false accFlt) (floatCvt 32) s

/-- CVT_DS (04 R133, R135). -/
def execCvtDs (t : Nat) (e : Enc) (s : State) : Out := dataInstr t e (cvtSpec [2] false accFlt) (floatCvt 64) s

/-! ## Retagging (04 R133, R136) -/

/-- A conversion that changes the tag alone. -/
def asSpec (named : Accept) : Spec := { group := 4, forms := formsCvt, acc := fun _ => named }

/-- SEAL and UNSEAL: the secure world only (04 R116), SEALED, BITS or FULL (R133). -/
def sealSpec : Spec :=
  { asSpec (some [Tag.sealed, Tag.bits]) with denied := fun sec _ _ _ => if sec then none else some 0 }

/-- The data unchanged under another tag. -/
def retag (tag : Tag) (_ : Ctx) (ws : List TWord) (_ : State) : Except Nat DataOut :=
  .ok { res := some ((srcU ws).data, 0xFFFF, tag), fl := {} }

/-- ASPTR (04 R133). -/
def execAsptr (t : Nat) (e : Enc) (s : State) : Out := dataInstr t e (asSpec accInt) (retag Tag.ptr) s

/-- ASCODE (04 R133). -/
def execAscode (t : Nat) (e : Enc) (s : State) : Out := dataInstr t e (asSpec accInt) (retag Tag.code) s

/-- ASINT_P (04 R133). -/
def execAsintP (t : Nat) (e : Enc) (s : State) : Out := dataInstr t e (asSpec (accNamed Tag.ptr)) (retag Tag.int) s

/-- ASINT_X (04 R133). -/
def execAsintX (t : Nat) (e : Enc) (s : State) : Out := dataInstr t e (asSpec accFix) (retag Tag.int) s

/-- ASFIX (04 R133). -/
def execAsfix (t : Nat) (e : Enc) (s : State) : Out := dataInstr t e (asSpec accInt) (retag Tag.fix) s

/-- SEAL (04 R133, R136). -/
def execSeal (t : Nat) (e : Enc) (s : State) : Out := dataInstr t e sealSpec (retag Tag.sealed) s

/-- UNSEAL (04 R133, R136). -/
def execUnseal (t : Nat) (e : Enc) (s : State) : Out := dataInstr t e sealSpec (retag Tag.bits) s

end Sys2Proof.Machine
end

