-- ==== Sys2Proof/Machine/MoveGroup.lean ====
section
/-! DEFINITION. The move, tag and tag-test group (04 R137 to R139) and the block instructions (R140 to R147). -/

namespace Sys2Proof.Machine

/-! ## Single-word instructions -/

/-- MOV: every arrangement, for MASK and for the replication of an immediate; default 1 × 128 (04 R137). -/
def movSpec : Spec :=
  { group := 5, forms := formsCvt, lm := some { arrs := [0, 1, 2, 3], sat := false, uns := false } }

/-- MOV (04 R137, R139). -/
def execMov (t : Nat) (e : Enc) (s : State) : Out :=
  dataInstr t e movSpec
    (fun x ws _ => .ok { res := some ((srcU ws).data, laneBytes x.arr x.mask, (srcU ws).tag), fl := {} }) s

/-- TAGR (04 R137, R139). -/
def execTagr (t : Nat) (e : Enc) (s : State) : Out :=
  dataInstr t e { group := 5, forms := formsCvt }
    (fun _ ws _ => .ok { res := some ((srcU ws).tag.setWidth 128, 0xFFFF, Tag.int), fl := { z := some ((srcU ws).tag == 0) } }) s

/-- The tag that operand 3 of TAGSET names. -/
def tagsetTag (e : Enc) : Tag := BitVec.ofNat 4 (bits e.x3 3 0)

/-- TAGSET (04 R116, R137, R138). -/
def execTagset (t : Nat) (e : Enc) (s : State) : Out :=
  dataInstr t e
    { group := 5, forms := formsThree, modes := fun k => if k = 3 then some [6] else none,
      acc := fun k => if k = 2 then some [Tag.bits, Tag.int, Tag.fix, Tag.flt, Tag.ptr, Tag.code] else accAny,
      illegal := fun e => if bits e.x3 15 4 != 0 || (tagsetTag e).reserved then some 3 else none,
      denied := fun sec lvl _ e => if tagDenied sec lvl (tagsetTag e) then some 3 else none }
    (fun x ws _ => .ok { res := some ((srcA ws).data, 0xFFFF, tagsetTag x.e), fl := {} }) s

/-- TTST (04 R137 to R139). -/
def execTtst (t : Nat) (e : Enc) (s : State) : Out :=
  dataInstr t e
    { group := 5, forms := formsCmp, modes := fun k => if k = 2 then some [6] else none }
    (fun x ws _ => .ok { res := none, fl := { t := some (bit x.e.x2 (ws.getD 0 TWord.fresh).tag.toNat) } }) s

/-! ## Block instructions (04 R140 to R147; 06 R229 to R232) -/

/-- A block instruction's opcode specification (04 R140, R141, 05 R162). -/
def blockSpec (roles : List Role) : Spec :=
  { group := 5, forms := [(3, roles)], noTake := true, noSlot := true }

/-- The TCW that records steps committed by a block instruction (06 R229, R230). -/
def tcwWord (opc step : Nat) : W64 := BitVec.ofNat 64 (2 ^ 63 + opc * 2 ^ 48 + step)

/-- A fault of a block instruction leaves its progress in the TCW (06 R230). -/
def withTcw {α : Type} (t opc step : Nat) (r : Res α) : Res α :=
  match r with
  | .trap e s => .trap e (s.modThr t (fun th => { th with tcw := tcwWord opc step }))
  | r => r

/-- The progress with which a block instruction starts (06 R232). -/
def Ctx.progress (x : Ctx) (opc : Nat) : Nat := if bit x.tcw 63 && bits x.tcw 57 48 == opc then bits x.tcw 47 0 else 0

/-- The progress with which a block instruction in flight started, or starts now (06 R230, R232). -/
def Ctx.startStep (x : Ctx) (opc : Nat) (s : State) : Nat :=
  match (s.thr x.t).blockOp with
  | some (o, k) => if o = opc then k else x.progress opc
  | none => x.progress opc

/-- A count or an address of a block instruction (04 R141). -/
def BlockRun.count (b : BlockRun) : Nat := bits b.c.data 47 0
def wordAddr (w : TWord) : Nat := bits w.data 63 0

/-- The operands that hold addresses. -/
def BlockRun.addrs (b : BlockRun) : List (Nat × TWord) :=
  if b.opc = 0x148 then [(1, b.a), (2, b.b)] else if b.opc = 0x149 then [(1, b.a)] else [(2, b.b)]

/-- A block instruction starts or resumes: its operands are resolved and read, and every address is a multiple of 16 (04 R140,
R141, R145); an unaligned one is found after all operands are read, and recorded with step 5 (DESIGN CHOICE, log 14). -/
def blockStart (opc k0 : Nat) (x : Ctx) (s : State) : Res BlockRun :=
  let roles : List Role := if opc = 0x14A then [.dst, .src, .src] else [.src, .src, .src]
  let acc (k : Nat) : Accept :=
    if k = 3 then accInt else if k = 2 then (if opc = 0x149 then accAny else x.accAddr) else x.accAddr
  (resolveAll x (fun _ => 1) 1 roles s).bind fun pls s =>
    (takeAll x acc 1 roles pls s).bind fun ws s =>
      let b : BlockRun :=
        { opc := opc, a := ws.getD 0 TWord.fresh, b := ws.getD 1 TWord.fresh, c := ws.getD 2 TWord.fresh,
          dest := match pls.headD .nul with
            | .den n _ => .den n
            | .mem ea _ => .mem ea
            | _ => .nul,
          step := k0 }
      match b.addrs.find? (fun p => wordAddr p.2 % 16 != 0) with
      | some p => .trap { code := 0x05, step := 5, opnd := p.1, addr := p.2.data.setWidth 48 } s
      | none => .ok b (s.modThr x.t (fun th => { th.clear with block := some b }))

/-- The word that a step touches as operand k, resolved by step 5 of R107 (04 R142). -/
def stepPart (x : Ctx) (k : Nat) (va : BitVec 64) (wr : Bool) (s : State) : Res Part :=
  (sizeCheck k va s).bind fun ea s =>
    (splitParts x k ea 16 wr s).bind fun ps s =>
      (partsPerm x k (!wr) wr ps s).bind fun _ s =>
        match ps with
        | p :: _ => .ok p s
        | [] => .wait s

/-- An MMIO page is refused at step 6 of the operand (04 R147; 03 R107). -/
def stepMmio (k : Nat) (wr : Bool) (p : Part) (s : State) : Res Unit :=
  if s.region p.pa.toNat = .mmio then .trap { code := 0x0C, step := 6, opnd := k, wr := wr, addr := p.va } s else .ok () s

/-- The end of a step: it is committed, and what it had in flight is gone. -/
def State.stepDone (s : State) (t : Nat) (b : BlockRun) : State :=
  s.modThr t (fun th => { th.clear with block := some { b with step := b.step + 1 } })

/-- A step's store (03 R110, 09 R300). -/
def stepStore (x : Ctx) (p : Part) (w : TWord) (s : State) : Res Unit :=
  if 16 ≤ (s.core x.core).sb.length then .wait s
  else match dirtyPage x.t p.tr s with
    | (false, s) => .wait s
    | (true, s) => .ok () (s.pushPart x 1 p true w.data.toNat 0xFFFF w.tag)

/-- The word number of step j (04 R143). -/
def BlockRun.index (b : BlockRun) : Nat :=
  if b.opc = 0x148 ∧ wordAddr b.b < wordAddr b.a ∧ wordAddr b.a < wordAddr b.b + 16 * b.count then b.count - 1 - b.step else b.step

/-- One step of BMOV (04 R140, R142). -/
def bmovStep (x : Ctx) (b : BlockRun) (s : State) : Res Bool :=
  let off : BitVec 64 := BitVec.ofNat 64 (16 * b.index)
  (stepPart x 1 (b.a.data.setWidth 64 + off) true s).bind fun d s =>
    (stepPart x 2 (b.b.data.setWidth 64 + off) false s).bind fun r s =>
      (stepMmio 1 true d s).bind fun _ s => (obtainPart x 1 d s).bind fun _ s =>
        (stepMmio 2 false r s).bind fun _ s => (readPart x 6 2 8 r true s).bind fun w s =>
          (stepStore x d w s).bind fun _ s => .ok false (s.stepDone x.t b)

/-- One step of BFILL (04 R140, R142). -/
def bfillStep (x : Ctx) (b : BlockRun) (s : State) : Res Bool :=
  (stepPart x 1 (b.a.data.setWidth 64 + BitVec.ofNat 64 (16 * b.step)) true s).bind fun d s =>
    (stepMmio 1 true d s).bind fun _ s => (obtainPart x 1 d s).bind fun _ s =>
      (stepStore x d b.b s).bind fun _ s => .ok false (s.stepDone x.t b)

/-- One step of TSCAN: true when the word's tag is sought (04 R140, R144). -/
def tscanStep (x : Ctx) (b : BlockRun) (s : State) : Res Bool :=
  (stepPart x 2 (b.b.data.setWidth 64 + BitVec.ofNat 64 (16 * b.step)) false s).bind fun r s =>
    (stepMmio 2 false r s).bind fun _ s => (readPart x 6 2 8 r true s).bind fun w s =>
      if bit b.c.data (48 + w.tag.toNat) then .ok true s else .ok false (s.stepDone x.t b)

/-- Steps until the run ends, a step waits, or a step faults (04 R142, 06 R230); true for a match. -/
def blockRun (step : Ctx → BlockRun → State → Res Bool) (x : Ctx) : Nat → BlockRun → State → Res (Bool × Nat)
  | 0, b, s => .ok (false, b.step) s
  | n + 1, b, s =>
    (withTcw x.t b.opc b.step (step x b s)).bind fun hit s =>
      if hit then .ok (true, b.step) s else blockRun step x n { b with step := b.step + 1 } s

/-- TSCAN's result is written, with T (04 R144, R146). -/
def tscanEnd (x : Ctx) (b : BlockRun) (hit : Bool) (j : Nat) (s : State) : Res Bool :=
  let o : DataOut := { res := some (BitVec.ofNat 128 (if hit then j else b.count), 0xFFFF, Tag.int), fl := { t := some hit } }
  match b.dest with
  | .nul => commit x (some .nul) [] o s
  | .den n => commit x (some (.den n false)) [] o s
  | .mem ea => (memPlace x 1 ea 16 1 .dst s).bind fun pl s => commit x (some pl) [] o s

/-- The body of a block instruction: it starts, resumes, or goes on. -/
def blockBody (opc : Nat) (step : Ctx → BlockRun → State → Res Bool) (x : Ctx) (s : State) : Res Bool :=
  (match (s.thr x.t).block with
   | some b => Res.ok b s
   | none =>
     let k := x.startStep opc s
     withTcw x.t opc k (blockStart opc k x (s.modThr x.t (fun th => { th with blockOp := some (opc, k) })))).bind fun b s =>
    (blockRun step x (b.count - b.step) b s).bind fun r s =>
      if opc = 0x14A then withTcw x.t opc r.2 (tscanEnd x b r.1 r.2 s) else .ok true s

/-- BMOV (04 R140 to R147). -/
def execBmov (t : Nat) (e : Enc) (s : State) : Out :=
  fullInstr t e (blockSpec [.src, .src, .src]) (blockBody 0x148 bmovStep) s

/-- BFILL (04 R140 to R147). -/
def execBfill (t : Nat) (e : Enc) (s : State) : Out :=
  fullInstr t e (blockSpec [.src, .src, .src]) (blockBody 0x149 bfillStep) s

/-- TSCAN (04 R140 to R147). -/
def execTscan (t : Nat) (e : Enc) (s : State) : Out :=
  fullInstr t e (blockSpec [.dst, .src, .src]) (blockBody 0x14A tscanStep) s

end Sys2Proof.Machine
end

