-- ==== Sys2Proof/Machine/CompactGroup.lean ====
section
/-! DEFINITION. The Compact-mode data operations (04 R149 to R152; 02 R78 to R82). -/

namespace Sys2Proof

/-- The bytes of a Compact instruction (04 R149). -/
def CEnc.len (c : CEnc) : Nat := if c.x then 8 else 4

/-- Bytes of the item of a load or a store (04 R149). -/
def CEnc.bytes (c : CEnc) : Nat := 2 ^ c.sz.toNat

/-- No full-mode fields: what a Compact instruction's context holds in their place. -/
def CEnc.enc (c : CEnc) : Enc :=
  { cond := c.cond, form := 0, ax := false, m1 := 0, m2 := 0, m3 := 0, lm := 0, x1 := 0, x2 := 0, x3 := 0 }

end Sys2Proof

namespace Sys2Proof.Machine

/-- The fields that an operation other than LD and ST may use (04 R149, R150). -/
def compactFields (sg : Bool) (c : CEnc) : Option Nat :=
  if (c.x && c.s != 0) || (c.sg && !sg) || c.sz != 0 then some 0 else none

/-- A Compact instruction of a thread: steps 1 to 4 on a 4-byte boundary, and its body (04 R149, R162). -/
def compactInstr (t : Nat) (c : CEnc) (illegal denied : Option Nat) (body : Ctx → State → Res Bool) (s : State) : Out :=
  issue true (mkCtx s t true c.enc c.len 2 1 false false) 4 illegal denied c.cond body s

/-- A word read in Compact mode: every tag reads as INT but POISON, SEALED in the normal world, and UNINIT under UIE (02 R81); an
UNINIT word that does not fault is data 0 (R55). -/
def compactTake (sec uie : Bool) (w : TWord) : Except Nat Data :=
  if w.tag = Tag.poison then .error 0x10
  else if w.tag = Tag.sealed && !sec then .error 0x12
  else if w.tag = Tag.uninit then (if uie then .error 0x13 else .ok 0)
  else .ok w.data

def Ctx.ctake (x : Ctx) (w : TWord) (step opnd : Nat) (half : Bool) (addr : Addr) (s : State) : Res Data :=
  match compactTake x.sec x.uie w with
  | .ok v => .ok v s
  | .error c => .trap { code := c, step := step, opnd := opnd, half := half, addr := addr } s

/-- Bits 31:0 of a Den word as a source (02 R78). -/
def compactDen (x : Ctx) (n step opnd : Nat) (s : State) : Res Nat :=
  (x.ctake ((s.thr x.t).denWord n) step opnd false 0 s).bind fun d s => .ok (bits d 31 0) s

/-- The second source: the extension or the word S (04 R150). -/
def compactSrc (x : Ctx) (c : CEnc) (s : State) : Res Nat :=
  if c.x then .ok c.ext.toNat s else compactDen x c.s.toNat 6 2 s

/-- A Compact write of a Den word (02 R78). -/
def State.compactWrite (s : State) (t n v : Nat) : State :=
  s.modThr t (fun th => th.setDen n { data := BitVec.ofNat 128 (v % 2 ^ 32), tag := Tag.bits })

def State.updFlags (s : State) (t : Nat) (u : FlagUpd) : State :=
  s.modThr t (fun th => { th with flags := applyFlags th.flags u })

/-- An operation on bits 31:0: whether it reads D and writes D, its flags, its computation (04 R150, R151). -/
def compactOp (t : Nat) (c : CEnc) (sg readsD writesD : Bool) (fs : FlagSet) (f : Ctx → Nat → Nat → Except Nat LaneOut)
    (s : State) : Out :=
  compactInstr t c (compactFields sg c) none (fun x s =>
    (if readsD then compactDen x c.d.toNat 6 1 s else .ok 0 s).bind fun a s =>
      (compactSrc x c s).bind fun b s =>
        match f { x with uns := sg && !c.sg } a b with
        | .error k => .trap { code := k, step := 7 } s
        | .ok o =>
          let s := if writesD then s.compactWrite t c.d.toNat o.r else s
          .ok true (s.updFlags t (gatherFlags fs [o]))) s

/-- A total operation on one 32-bit lane. -/
def cLane (f : Ctx → Nat → Nat → Nat → LaneOut) (x : Ctx) (a b : Nat) : Except Nat LaneOut := .ok (f x 32 a b)

/-- A shift by src[4:0]. -/
def cShift (f : Ctx → Nat → Nat → Nat → LaneOut) (x : Ctx) (a b : Nat) : Except Nat LaneOut := .ok (f x 32 a (b % 32))

/-- A division (04 R151). -/
def cDiv (f : Ctx → Nat → Nat → Nat → LaneOut) (x : Ctx) (a b : Nat) : Except Nat LaneOut :=
  if b = 0 then .error 0x18 else .ok (f x 32 a b)

/-- COMPACT_ADD (04 R150). -/
def execCompactAdd (t : Nat) (c : CEnc) (s : State) : Out := compactOp t c false true true flNZCV (cLane laneAdd) s

/-- COMPACT_SUB (04 R150). -/
def execCompactSub (t : Nat) (c : CEnc) (s : State) : Out := compactOp t c false true true flNZCV (cLane laneSub) s

/-- COMPACT_ADC (04 R150). -/
def execCompactAdc (t : Nat) (c : CEnc) (s : State) : Out :=
  compactOp t c false true true flNZCV (cLane (laneAdc (bit (s.thr t).flags 2))) s

/-- COMPACT_SBC (04 R150). -/
def execCompactSbc (t : Nat) (c : CEnc) (s : State) : Out :=
  compactOp t c false true true flNZCV (cLane (laneSbc (bit (s.thr t).flags 2))) s

/-- COMPACT_AND (04 R150). -/
def execCompactAnd (t : Nat) (c : CEnc) (s : State) : Out :=
  compactOp t c false true true flNZ (cLane (fun _ w a b => bitOut w (a &&& b) false)) s

/-- COMPACT_OR (04 R150). -/
def execCompactOr (t : Nat) (c : CEnc) (s : State) : Out :=
  compactOp t c false true true flNZ (cLane (fun _ w a b => bitOut w (a ||| b) false)) s

/-- COMPACT_XOR (04 R150). -/
def execCompactXor (t : Nat) (c : CEnc) (s : State) : Out :=
  compactOp t c false true true flNZ (cLane (fun _ w a b => bitOut w (a ^^^ b) false)) s

/-- COMPACT_SHL (04 R150). -/
def execCompactShl (t : Nat) (c : CEnc) (s : State) : Out := compactOp t c false true true flNZC (cShift laneShl) s

/-- COMPACT_SHR (04 R150). -/
def execCompactShr (t : Nat) (c : CEnc) (s : State) : Out := compactOp t c false true true flNZC (cShift laneShr) s

/-- COMPACT_SAR (04 R150). -/
def execCompactSar (t : Nat) (c : CEnc) (s : State) : Out := compactOp t c false true true flNZC (cShift laneSar) s

/-- COMPACT_MUL (04 R150). -/
def execCompactMul (t : Nat) (c : CEnc) (s : State) : Out := compactOp t c false true true flNZ (cLane laneMul) s

/-- COMPACT_MULH (04 R150). -/
def execCompactMulh (t : Nat) (c : CEnc) (s : State) : Out := compactOp t c true true true flNZ (cLane laneMulh) s

/-- COMPACT_DIV (04 R150, R151). -/
def execCompactDiv (t : Nat) (c : CEnc) (s : State) : Out := compactOp t c true true true flNZ (cDiv laneDiv) s

/-- COMPACT_REM (04 R150, R151). -/
def execCompactRem (t : Nat) (c : CEnc) (s : State) : Out := compactOp t c true true true flNZ (cDiv laneRem) s

/-- COMPACT_CMP (04 R150). -/
def execCompactCmp (t : Nat) (c : CEnc) (s : State) : Out := compactOp t c false true false flNZCV (cLane laneSub) s

/-- COMPACT_MOV (04 R150). -/
def execCompactMov (t : Nat) (c : CEnc) (s : State) : Out :=
  compactOp t c false false true flNZ (cLane (fun _ w _ b => bitOut w b false)) s

/-- COMPACT_NOT (04 R150). -/
def execCompactNot (t : Nat) (c : CEnc) (s : State) : Out :=
  compactOp t c false false true flNZ (cLane (fun _ w _ b => bitOut w (2 ^ w - 1 - b) false)) s

/-- COMPACT_NEG (04 R150). -/
def execCompactNeg (t : Nat) (c : CEnc) (s : State) : Out :=
  compactOp t c false false true flNZCV (cLane (fun x w _ b => laneNeg x w b)) s

/-! ## Loads and stores (04 R152, 02 R79 to R81) -/

/-- A 32-bit address mapped by THCBASE, before the check of its size (02 R79). -/
def compactVa (x : Ctx) (s : State) (a : Nat) : Nat := a % 2 ^ 32 + bits (s.thr x.t).cbase 47 14 * 2 ^ 14

/-- A 32-bit address mapped to a virtual address; a sum of 2^48 or more is a translation fault, of a write access where wr says so (02
R79; 07 R241), recorded with STAGE 1 (log 87). -/
def compactMap (x : Ctx) (opnd : Nat) (wr : Bool) (a : Nat) (s : State) : Res Addr :=
  let v := compactVa x s a
  if 2 ^ 48 ≤ v then .trap { code := 0x06, step := 5, opnd := opnd, wr := wr, stage := 1, addr := BitVec.ofNat 48 v } s
  else .ok (BitVec.ofNat 48 v) s

/-- The address of a load or a store: S plus the extension (04 R152). -/
def compactAddr (x : Ctx) (c : CEnc) (wr : Bool) (s : State) : Res Addr :=
  (compactDen x c.s.toNat 5 2 s).bind fun a s => compactMap x 2 wr (a + if c.x then c.ext.toNat else 0) s

/-- LD and ST use SZ; LD alone uses SG (04 R149). -/
def compactMemFields (sg : Bool) (c : CEnc) : Option Nat := if (c.sg && !sg) || c.sz = 3 then some 0 else none

/-- The bytes at a memory place as a Compact thread reads them (02 R81, 03 R104). -/
def compactRead (x : Ctx) (ps : List Part) (s : State) : Res Nat :=
  (readMem x 2 ps s).bind fun r s =>
    (x.ctake { data := BitVec.ofNat 128 r.1, tag := r.2.1 } 6 2 r.2.2 (halfAddr ps r.2.2) s).bind fun d s => .ok d.toNat s

/-- An extended item (04 R152). -/
def extendItem (signed : Bool) (n v : Nat) : Nat := if signed then wrapLane 32 (laneInt false (8 * n) v) else v

/-- COMPACT_LD (04 R150, R152). -/
def execCompactLd (t : Nat) (c : CEnc) (s : State) : Out :=
  compactInstr t c (compactMemFields true c) none (fun x s =>
    (compactAddr x c false s).bind fun ea s => (memPlace x 2 ea c.bytes 1 .src s).bind fun pl s =>
      (compactRead x pl.parts s).bind fun v s =>
        .ok true (s.compactWrite t c.d.toNat (extendItem c.sg c.bytes v))) s

/-- Step 8 of a Compact store: n bytes of v, the containing words retagged BITS (02 R80). -/
def compactStore (x : Ctx) (pl : Place) (n v : Nat) (s : State) : Res Bool :=
  if 16 < (s.core x.core).sb.length + pl.entries then .wait s
  else match dirtyParts x.t pl.parts s with
    | (false, s) => .wait s
    | (true, s) =>
      let m : BitVec 16 := BitVec.ofNat 16 (2 ^ n - 1)
      .ok true ((s.writePlace x 2 pl (v % 256 ^ n) m Tag.bits false).writePlace x 2 pl (v % 256 ^ n) m Tag.bits true)

/-- COMPACT_ST (04 R150, R152). -/
def execCompactSt (t : Nat) (c : CEnc) (s : State) : Out :=
  compactInstr t c (compactMemFields false c) none (fun x s =>
    (compactAddr x c true s).bind fun ea s => (memPlace x 2 ea c.bytes 1 .dst s).bind fun pl s =>
      (compactDen x c.d.toNat 6 1 s).bind fun v s =>
        (obtainDest x 2 pl s).bind fun _ s => compactStore x pl c.bytes v s) s

end Sys2Proof.Machine
end

