-- ==== Sys2Proof/Machine/ControlGroup.lean ====
section
/-! DEFINITION. Control transfers (05 R157 to R173, R187 to R190): branch, call, return, HINGE, and what the fetch buffer holds. -/

namespace Sys2Proof.Machine

/-! ## What both modes share -/

/-- An instruction that both modes have: full by its specification, Compact by its field check; the condition is left to the
body, since a transfer whose condition fails still has its delay slot (05 R160). -/
def transfer (t : Nat) (i : Ins) (sp : Spec) (cf : CEnc → Option Nat) (cden : Bool → Option Nat)
    (body : Ins → Ctx → State → Res Bool) (s : State) : Out :=
  let th := s.thr t
  match i with
  | .full e =>
    let x := mkCtx s t false e (e.len false) 0 1 false false
    issue false x 2 (decodeCheck sp th.slot.isSome e) (levelCheck sp th.sec th.lvl th e) 0 (body i) s
  | .compact c =>
    let x := mkCtx s t true c.enc c.len 2 1 false false
    issue true x 4 (if th.slot.isSome && sp.noSlot then some 0 else cf c) (cden th.sec) 0 (body i) s

/-- The condition and the annul bit of an instruction (03 R86, R88; 05 R201). -/
def insCond : Ins → BitVec 4
  | .full e => e.cond
  | .compact c => c.cond

def insAnnul (compactAnnul : Bool) : Ins → Bool
  | .full e => e.ax
  | .compact c => compactAnnul && bit c.d 0

/-- The transfer is over: the next instruction is its delay slot (05 R160). -/
def State.setSlot (s : State) (x : Ctx) (next : Option Addr) (annul call : Bool) : State :=
  s.modThr x.t (fun th => { th with slot := some { next := next, annul := annul, call := call } })

/-- A transfer: where its condition fails, the delay slot is annulled under the annul bit and the thread goes on (05 R160). -/
def withSlot (ca : Bool) (i : Ins) (body : Ctx → State → Res Bool) (x : Ctx) (s : State) : Res Bool :=
  if condHolds (insCond i) (s.thr x.t).flags then body x s
  else .ok true (s.setSlot x none (insAnnul ca i) false)

/-! ## Targets (05 R159, R201) -/

/-- The opcode specification of BR and CALL: one target operand (05 R157, R162). -/
def branchSpec : Spec := { group := 8, forms := [(1, [.src])], noSlot := true }

/-- Compact B and CALL: D holds the annul bit alone, S is unused with an extension (05 R201). -/
def compactBranchFields (c : CEnc) : Option Nat :=
  if bits c.d 7 1 != 0 || (c.x && c.s != 0) || c.sg || c.sz != 0 then some 0 else none

/-- Bits 63:48 of a target value must be 0 (05 R159). -/
def targetValue (k : Nat) (w : TWord) (s : State) : Res Addr :=
  if bits w.data 63 48 = 0 then .ok (w.data.setWidth 48) s
  else .trap { code := 0x04, step := 6, opnd := k, addr := w.data.setWidth 48 } s

/-- The address in Compact space of a virtual address (05 R201; log 37). -/
def compactPc (x : Ctx) (s : State) : Nat :=
  (x.pc - BitVec.ofNat 48 (bits (s.thr x.t).cbase 47 14 * 2 ^ 14)).toNat % 2 ^ 32

/-- The target of a BR or CALL, with the place of a taken word (05 R159, R201); a fault of the target is one of operand 1 (log 76). -/
def branchTarget (i : Ins) (x : Ctx) (s : State) : Res (Addr × List Place) :=
  match i with
  | .full _ =>
    (resolve x 1 1 .src s).bind fun pl s => (takeSource x 1 x.accCode pl s).bind fun w s =>
      (targetValue 1 w s).bind fun a s => .ok (a, [pl]) s
  | .compact c =>
    (if c.x then .ok (compactPc x s + c.ext.toNat) s else compactDen x c.s.toNat 6 1 s).bind fun v s =>
      (compactMap x 1 false v s).bind fun a s => .ok (a, []) s

/-- BR (05 R157, R159, R160). -/
def execBr (t : Nat) (i : Ins) (s : State) : Out :=
  transfer t i branchSpec compactBranchFields (fun _ => none)
    (fun i => withSlot true i fun x s =>
      (branchTarget i x s).bind fun a s => .ok true ((s.takeWords x none a.2).setSlot x (some a.1) false false)) s

/-! ## The return stack (05 R165 to R170) -/

/-- The target to which a transfer at a code address is statically predicted (02 R79; 05 R157, R159, R171, R201): a direct CALL, and a direct BR
that is unconditional or goes back, to its target; RET to the top of the return stack; nothing else. -/
def State.predictTarget (s : State) (x : Ctx) : Option Addr :=
  match s.peekHead x x.pc, s.peekHead x (x.pc + 4) with
  | some w, ext =>
    let th := s.thr x.t
    let direct := if x.compact then bit w 3 else bits w 17 16 == 1 && bits w 4 0 == 0x0C
    let op := if x.compact then bits w 27 20 else bits w 27 18
    let bo := if x.compact then 0x40 else 0x200
    let full (e : BitVec 32) : Option Addr := some (x.pc + e.signExtend 48)
    let compact (e : BitVec 32) : Option Addr :=
      let v := compactVa x s (compactPc x s + e.toNat)
      if 2 ^ 48 ≤ v then none else some (BitVec.ofNat 48 v)
    let tgt : Option Addr := ext.bind (if x.compact then compact else full)
    if op = bo ∧ direct then tgt.filter (fun a => bits w 31 28 == 0 || decide (a.toNat ≤ x.pc.toNat))
    else if op = bo + 1 ∧ direct then tgt
    else if op = bo + 2 then (if th.rsDepth = 0 then none else some (tget 0 th.rs (th.rsPtr - 1).toNat))
    else none
  | none, _ => none

/-- A push; the return address is the instruction after the delay slot, which the issue of the slot confirms (05 R165, R166). -/
def State.pushRet (s : State) (x : Ctx) : State :=
  let slotPc := x.pc + BitVec.ofNat 48 x.len
  let ret : Addr × State := match s.peekLen x slotPc with
    | some n => (slotPc + BitVec.ofNat 48 n, s)
    | none => ((Config.freeValue s.fresh).setWidth 48, { s with fresh := s.fresh + 1 })
  ret.2.modThr x.t (fun th => { th with
    rs := tset 0 th.rs th.rsPtr.toNat ret.1, rsPtr := th.rsPtr + 1,
    rsDepth := if th.rsDepth.toNat < 16 then th.rsDepth + 1 else th.rsDepth })

/-- CALL (05 R157, R159, R165 to R167). -/
def execCall (t : Nat) (i : Ins) (s : State) : Out :=
  transfer t i branchSpec compactBranchFields (fun _ => none)
    (fun i => withSlot true i fun x s =>
      (branchTarget i x s).bind fun a s =>
        if 16 ≤ (s.thr x.t).rsDepth.toNat && bit x.ctl 1 then .trap { code := 0x19, step := 7 } s
        else .ok true (((s.takeWords x none a.2).pushRet x).setSlot x (some a.1) false true)) s

/-- RET (05 R157, R165, R166, R168). -/
def execRet (t : Nat) (i : Ins) (s : State) : Out :=
  transfer t i { group := 8, forms := [(0, [])], noSlot := true }
    (fun c => if bits c.d 7 1 != 0 || c.x || c.s != 0 || c.sg || c.sz != 0 then some 0 else none) (fun _ => none)
    (fun i => withSlot true i fun x s =>
      let th := s.thr x.t
      if th.rsDepth = 0 then .trap { code := 0x19, step := 7 } s
      else
        let p := th.rsPtr - 1
        .ok true ((s.setThr x.t { th with rsPtr := p, rsDepth := th.rsDepth - 1 }).setSlot x (some (tget 0 th.rs p.toNat))
          false false)) s

/-! ## HINGE (05 R187 to R190) -/

/-- The IMM16 of HINGE and its request base. -/
def hingeArgs : Ins → BitVec 16 × Nat
  | .full e => (e.x2.setWidth 16, bits e.x1 7 0)
  | .compact c => (c.ext.setWidth 16, c.d.toNat)

/-- Bits 7:6 must be 0, and the request must lie in the Den (05 R187); OPND is 2 for both (log 75). -/
def hingeIllegal (i : Ins) : Option Nat :=
  let a := hingeArgs i
  if bits a.1 7 6 != 0 || decide (256 < a.2 + bits a.1 5 0) then some 2 else none

/-- The header of a request (05 R189). -/
def hingeHeader (x : Ctx) (s q : Nat) : Data :=
  BitVec.ofNat 128 (x.x.vmid.toNat * 2 ^ 32 + s * 2 ^ 24 + q * 2 ^ 16 + x.lvl.toNat * 2 ^ 10 + x.t)

/-- HINGE (05 R157, R187, R188, R190; 09 R319): a request to a core that stays FENCED until device reset fails (15 R498, R499). -/
def execHinge (t : Nat) (i : Ins) (s : State) : Out :=
  transfer t i
    { group := 8, forms := [(2, [.src, .src])], noSlot := true,
      modes := fun k => if k = 1 then some [0] else if k = 2 then some [6] else none,
      illegal := fun e => hingeIllegal (.full e), denied := fun sec _ _ _ => if sec then some 0 else none }
    (fun c => if !c.x || c.s != 0 || c.sg || c.sz != 0 || bits c.ext 31 16 != 0 then some 0 else hingeIllegal (.compact c))
    (fun sec => if sec then some 0 else none)
    (fun i => withSlot false i fun x s =>
      let a := hingeArgs i
      let q := bits a.1 5 0
      let sv := bits a.1 15 8
      let th := s.thr x.t
      let slotPc := x.pc + BitVec.ofNat 48 x.len
      match s.service sv with
      | some svc =>
        if q + 1 ≤ bits (s.thr svc).hwin 13 8 then
          let r : HingeReq := { caller := x.t, base := a.2, slotPc := slotPc, s := sv, svc := svc, hdr := hingeHeader x sv q,
                                ws := (List.range q).map (fun j => th.denWord (a.2 + j)), orphan := false }
          let s1 := s.setThr x.t { th with hinge := { svc := svc, slotPc := slotPc } :: th.hinge }
          let s2 := (({ s1 with hingeWait := s1.hingeWait ++ [r] }).hingeFlush x.t svc).setSlot x none false false
          .ok true (if s2.coreGone (svc / 16) then s2.failWhere (fun q => q == r) else s2)
        else .ok true ((s.updFlags x.t { v := some true }).setSlot x none false false)
      | none => .ok true ((s.updFlags x.t { v := some true }).setSlot x none false false)) s

/-- Request words are written in descending order, each FULL (05 R189). -/
def Thread.deliverRequest (th : Thread) (base : Nat) : List TWord → Thread
  | [] => th
  | w :: r => (th.deliverRequest (base + 1) r).deliver base { w with tag := Tag.full }

/-- A request is written into its service thread's window: words, then header; an earlier request that was outstanding fails (05
R189, R191; 15 R497, R499). -/
def State.writeWindow (s : State) (r : HingeReq) : State :=
  let s1 := match tfind s.hingeOut r.svc with
    | some old => ({ s with hingeOut := tdel s.hingeOut r.svc }).failReq old
    | none => s
  let th := s1.thr r.svc
  let b := bits th.hwin 7 0
  let th1 := (th.deliverRequest (b + 1) r.ws).deliver b (fullWord r.hdr)
  let th2 := match th1.park with
    | some (.wake _) => if th1.st == .parked then th1.unpark else th1
    | _ => th1
  let s2 := (s1.setThr r.svc th2).wakeCore (r.svc / 16)
  { s2 with hingeOut := tput s2.hingeOut r.svc r }

/-- HINGE_WINDOW_WRITE (05 R190, 15 R498). -/
def execHingeWindowWrite (svc : Nat) (s : State) : Out :=
  if 768 ≤ svc then .fault .noSuchUnit
  else match s.hingeWait.find? (fun r => r.svc == svc) with
    | none => .next s
    | some r =>
      let th := s.thr svc
      if (s.core (svc / 16)).fenced || (th.denWord (bits th.hwin 7 0)).tag != Tag.empty then .next s
      else .next ({ s with hingeWait := s.hingeWait.erase r }.writeWindow r)

/-! ## The fetch buffer (05 R172, R173; 06 R215, R216) -/

/-- PFLUSH and PBAR take no operand (05 R157, R201). -/
def noOperands (g : Nat) (noSlot : Bool) : Spec := { group := g, forms := [(0, [])], noSlot := noSlot }

/-- A Compact operation that uses no field (05 R201). -/
def compactNoFields (c : CEnc) : Option Nat :=
  if c.d != 0 || c.s != 0 || c.x || c.sg || c.sz != 0 then some 0 else none

/-- An instruction of groups 9 and A that both modes have. -/
def bothModes (t : Nat) (i : Ins) (sp : Spec) (cf : CEnc → Option Nat) (cden : Bool → BitVec 2 → Option Nat)
    (body : Ins → Ctx → State → Res Bool) (s : State) : Out :=
  let th := s.thr t
  match i with
  | .full e => fullInstr t e sp (body i) s
  | .compact c => compactInstr t c (if th.slot.isSome && sp.noSlot then some 0 else cf c) (cden th.sec th.lvl) (body i) s

/-- PFLUSH: its request is made after every earlier store of the thread is visible (05 R172, 09 R305). -/
def execPflush (t : Nat) (i : Ins) (s : State) : Out :=
  bothModes t i (noOperands 0xA false) compactNoFields (fun _ _ => none)
    (fun _ x s =>
      if (s.core x.core).sb.any (fun e => e.tid == x.t && e.kind == .mem) then .wait s
      else .ok true (s.modThr x.t (fun th => { th with fetch := [], codeFill := [], fetchBad := none, codeXlat := none, asked := none }))) s

/-- PBAR (05 R173). -/
def execPbar (t : Nat) (i : Ins) (s : State) : Out :=
  bothModes t i (noOperands 0xA false) compactNoFields (fun _ _ => none)
    (fun _ x s => .ok true (s.modThr x.t (fun th => { th with fetch := th.fetch.filter (fun l => !l.predicted) }))) s

/-- An address at which an instruction of the thread may start; from another nothing is fetched (03 R84, 04 R149). -/
def Thread.mayFetch (th : Thread) (a : Addr) : Bool := a.toNat % (if bit th.ctl 0 then 4 else 2) == 0

/-- The line of the target predicted for the thread's next instruction, where that line is the buffer's second one: no slot is pending
and nothing needed extends into the sequential line (05 R171; 06 R215). PDIS bars new requests; one made before goes on (R214). -/
def State.predicted (s : State) (t : Nat) : Option Addr :=
  let th := s.thr t
  if th.slot.isSome || s.needsSecond t then none
  else ((s.predictTarget (fetchCtx s t)).filter th.mayFetch).filter (fun a =>
    !(bit (s.core (t / 16)).corectl 0) || th.asked == some (alignTo a 6))

/-- A fetch-buffer request of a thread for the line of an address (06 R215, R216; 05 R171): for the first line; for the second line,
which is the sequential one when the next instruction or its delay slot extends into it, else that of a predicted target, else the
sequential one; for the line of the target pending after a delay slot, which takes the place of a sequential line that the slot does not
need (log 66). It answers the address that is translated, for the first line the PC. -/
def State.asksLine (s : State) (t : Nat) (line : Addr) (predicted : Bool) : Option Addr :=
  let th := s.thr t
  let first := alignTo th.pc 6
  let pending := th.slot.bind (·.next)
  if !(th.mayFetch th.pc) then none
  else if predicted then (s.predicted t).filter (fun a => alignTo a 6 == line)
  else if line = first then some th.pc
  else match pending.filter (fun a => th.mayFetch a && alignTo a 6 == line) with
    | some a => some a
    | none =>
      if line = first + 64 && (s.needsSecond t || (pending.isNone && (s.predicted t).isNone)) then some line else none

/-- A line comes into the buffer (06 R215, R216): it replaces what the thread no longer needs; the first line stays, the sequential one
where needs says that the next instruction or its slot extends into it, and the line of a target pending after a slot. -/
def Thread.takeLine (th : Thread) (needs : Bool) (l : FetchLine) : Thread :=
  let first := alignTo th.pc 6
  let kept (f : FetchLine) : Bool :=
    f.va != l.va && (f.va == first || (needs && f.va == first + 64) ||
      (match th.slot.bind (·.next) with | some a => f.va == alignTo a 6 | none => false))
  { th with fetch := l :: th.fetch.filter kept, codeFill := [], codeXlat := none, asked := if l.predicted then none else th.asked,
            fetchBad := th.fetchBad.filter (fun b => b.line != l.va) }

/-- The translation of a code address (08 R273, R282, R285): the ITLB, the L2 TLB, or a walk, which only a request for the next instruction,
its delay slot or a taken target starts. -/
def translateCode (x : Ctx) (va : Addr) (walks : Bool) (s : State) : Res (Option TlbEntry) :=
  if !x.x.en1 && !x.x.en2 then .ok none s
  else match tlbLookup x.core x.t true x.x va s with
    | some (e, s) => .ok (some e) s
    | none =>
      let ws := (s.core x.core).walks
      if !walks || ws.any (fun w => w.tid == x.t && w.fetch) || 2 ≤ ws.length then .wait s
      else
        let w := x.codeWalk va true
        walkPost x.core w (walkStart x.core w s)

/-- An instruction fetch needs execute permission at each stage (08 R277). -/
def fetchPerm (user : Bool) (va : Addr) (e : Option TlbEntry) : Option Exn :=
  match e with
  | none => none
  | some e =>
    let x (stage : Nat) : Exn :=
      { code := 0x07, step := 1, stage := stage, addr := va, ipa := if stage = 2 then ipaOf (some e) va else 0 }
    if !(perm1Ok user e 2) then some (x 1) else if !(perm2Ok e 2) then some (x 2) else none

/-- A line of code is obtained for an address in it: translated, permitted, in a tagged region that the world reaches, initialised, and
in L1I (03 R107 step 1; 01 R16, R18; 06 R216; 08 R273, R277; 10 R353). -/
def obtainCode (x : Ctx) (va : Addr) (predicted walks : Bool) (s : State) : Res FetchLine :=
  (translateCode x va walks s).bind fun tr s =>
    match fetchPerm x.x.user va tr with
    | some e => .trap e s
    | none =>
      let a := (physOf tr va).toNat
      let sec := worldOf x.sec tr
      if !((s.region a).tagged && s.reaches sec a) then .trap { code := 0x0C, step := 1, addr := va } s
      else if !(s.chunkReady a) then .wait { s with dram := s.dram.promote a }
      else match s.touchL1 x.t true (lineOf a) sec with
        | (false, s) => .wait (if predicted then s.modThr x.t (fun th => { th with asked := some (alignTo va 6) }) else s)
        | (true, s) =>
          .ok { va := alignTo va 6, predicted := predicted,
                poison := BitVec.ofNat 4 (((List.range 4).filter (fun i =>
                  (s.seenWord x.cluster (lineOf a * 64 + 16 * i)).tag == Tag.poison)).map (2 ^ ·)).sum } s

/-- A fetch-buffer request of a thread meets a fault, which the instruction that its bytes belong to takes when it would issue; a
predicted request is dropped (08 R273). -/
def State.codeBad (s : State) (t : Nat) (line : Addr) (predicted : Bool) (e : Exn) : State :=
  if predicted then s else s.modThr t (fun th => { th with fetchBad := some { line := line, exn := e }, codeXlat := none })

/-- A thread's fetch buffer makes requests: its core is released, in service and powered, and it is ACTIVE (06 R207, R215, R219). -/
def State.canFetch (s : State) (t : Nat) : Bool :=
  let c := s.core (t / 16)
  c.released && !c.fenced && !(s.cluster (t / 64)).off && c.pwr == .c0 && (s.thr t).st == .active

/-- A request for a line may start a walk: it is not predicted, and the next instruction or its slot, or the target of a transfer that is
taken, lies in it (08 R273; 06 R216). -/
def State.codeWalks (s : State) (t : Nat) (line : Addr) (predicted : Bool) : Bool :=
  !predicted && (line != alignTo (s.thr t).pc 6 + 64 || s.needsSecond t || (s.thr t).slot.any (fun sl => sl.next.any (fun a => alignTo a 6 == line)))

/-- FETCH_LINE_ARRIVAL (05 R171; 06 R215, R216, R218, R219; 08 R273, R285): a line that the buffer asks for and does not hold. -/
def execFetchLineArrival (t : Nat) (va : Addr) (predicted : Bool) (s : State) : Out :=
  if 768 ≤ t then .fault .noSuchUnit
  else
    let line := alignTo va 6
    match s.asksLine t line predicted with
    | none => .next s
    | some a =>
      if !(s.canFetch t) || (s.thr t).fetch.any (fun l => l.va == line) then .next s
      else match obtainCode (fetchCtx s t) a predicted (s.codeWalks t line predicted) s with
        | .wait s1 => .next s1
        | .trap e s1 => .next (s1.codeBad t line predicted e)
        | .ok l s1 => .next (s1.modThr t (fun th => th.takeLine (s.needsSecond t) l))

end Sys2Proof.Machine
end

