-- ==== Sys2Proof/Machine/SyncGroup.lean ====
section
/-! DEFINITION. Waiting, memory slots, atomics and fences (05 R174 to R186, R201, R202). -/

namespace Sys2Proof.Machine

/-! ## WAITD and PARK (05 R174 to R178) -/

/-- The words that WAITD selects. -/
def waitWords (i : Ins) (n : Nat) : List Nat :=
  match i with
  | .full e =>
    if e.form = 2 then ((List.range 16).filter (fun k => bit e.x2 k)).map (fun k => (n + k) % 256) else [n]
  | .compact _ => [n]

/-- WAITD (05 R157, R174, R175, R201; 06 R219). -/
def execWaitd (t : Nat) (i : Ins) (s : State) : Out :=
  bothModes t i
    { group := 9, forms := [(1, [.src]), (2, [.src, .src])], noSlot := true,
      modes := fun k => if k = 1 then some [0, 2] else if k = 2 then some [6] else none,
      illegal := fun e => if e.form = 2 && bits e.x2 15 0 == 0 then some 2 else none }
    (fun c => if c.s != 0 || c.x || c.sg || c.sz != 0 then some 0 else none) (fun _ _ => none)
    (fun i x s =>
      (match i with
       | .full _ => resolve x 1 1 .src s
       | .compact c => .ok (.den c.d.toNat false) s).bind fun pl s =>
        let ws := waitWords i (match pl with | .den n _ => n | _ => 0)
        let tags := ws.map (fun n => ((s.thr x.t).denWord n).tag)
        if tags.contains Tag.poison then .trap { code := 0x10, step := 6, opnd := 1 } s
        else if tags.any (fun g => g != Tag.empty && g != Tag.full) then .trap { code := 0x15, step := 6, opnd := 1 } s
        else if tags.contains Tag.full then .ok true s
        else if !(s.holdsNext x) then .wait s
        else .ok true (s.modThr x.t (fun th => { th with st := .parked, park := some (.words x.pc ws) }))) s

/-- PARK (05 R157, R176; 06 R219). -/
def execPark (t : Nat) (i : Ins) (s : State) : Out :=
  bothModes t i (noOperands 9 true) compactNoFields (fun _ _ => none)
    (fun _ x s =>
      if (s.thr x.t).wake then .ok true (s.modThr x.t (fun th => { th with wake := false }))
      else if !(s.holdsNext x) then .wait s
      else .ok true (s.modThr x.t (fun th => { th with st := .parked, park := some (.wake x.pc) }))) s

/-! ## Slots and atomics (05 R179 to R184) -/

/-- The memory modes (05 R158). -/
def memModes : List Nat := (List.range 19).map (· + 13)

/-- No store of the thread awaits its drain: earlier stores are visible (05 R184). -/
def State.drained (s : State) (t : Nat) : Bool := !((s.core (t / 16)).sb.any (fun e => e.tid == t))

/-- The location of an atomic is read at step 6: a tagged region, its line obtained, every earlier store visible (05 R181, R182,
R184); a standby refuses it in a mirrored region (14 R475). -/
def readLocation (x : Ctx) (k : Nat) (pl : Place) (s : State) : Res TWord :=
  match pl.parts with
  | p :: _ =>
    if !(s.region p.pa.toNat).tagged then .trap { code := 0x0C, step := 6, opnd := k, addr := p.va } s
    else if s.standbyRefuses p.pa.toNat then .trap { code := 0x0C, step := 6, opnd := k, wr := true, addr := p.va } s
    else if !(s.drained x.t && s.mirrorRoom p.pa.toNat) then .wait s
    else readPart x 6 k (4 * k) p true s
  | [] => .wait s

/-- The location is written at once and is visible (05 R181, R182; 09 R300). -/
def State.writeLocation (s : State) (x : Ctx) (pl : Place) (mask : BitVec 16) (d : Data) (tag : Tag) : State :=
  match pl.parts with
  | p :: _ => s.storeVisible x.cluster (p.pa.toNat / 16 * 16) mask d tag
  | [] => s

/-- The tag test of a slot (05 R179, R180). -/
def slotTag (k : Nat) (pl : Place) (w : TWord) (s : State) : Res Bool :=
  let a : Addr := match pl with | .mem ea _ => ea | _ => 0
  if w.tag = Tag.poison then .trap { code := 0x10, step := 6, opnd := k, addr := a } s
  else if w.tag = Tag.empty then .ok false s
  else if w.tag = Tag.full then .ok true s
  else .trap { code := 0x15, step := 6, opnd := k, addr := a } s

/-- The store-buffer entry of each part of operand 1 in memory. -/
def firstEntries (x : Ctx) (s : State) (pl : Place) (res : Data × Tag) : List SbEntry :=
  pl.parts.map (fun p => mkEntry x s p (pl.parts.length == 1) res.1.toNat 0xFFFF res.2)

/-- Operand 1 in a tagged region can be written: nothing stands before it in the store buffer, its lines are in the L2 in M or E, and its
records find room, so that its entries drain at once, before the location is written (06 R205; 09 R300, R312; log 89). -/
def State.firstReady (s : State) (x : Ctx) (pl : Place) (res : Data × Tag) : Bool :=
  (firstEntries x s pl res).all (fun en =>
    en.kind != .mem || ((s.core x.core).sb.isEmpty && s.drainReady x.core en && s.mirrorRoom en.pa.toNat))

/-- Operand 1 in memory is written before its location (06 R205): an entry of a tagged region drains at once. -/
def State.writeFirst (s : State) (x : Ctx) (pl : Place) (res : Data × Tag) : State :=
  pl.parts.foldl (fun s p =>
    let en := mkEntry x s p (pl.parts.length == 1) res.1.toNat 0xFFFF res.2
    match en.kind with
    | .mem => s.storeVisible x.cluster en.pa.toNat en.mask en.data en.tag
    | .pcie => s.pushPart x 1 p (pl.parts.length == 1) res.1.toNat 0xFFFF res.2
    | .mmio => s) s

/-- The end of a slot or atomic instruction: room for a memory destination, the dirty flags of every page written (an atomic's location
has them set even where it stays as it was), operand 1 in memory, the location, a Den word, flags and takes (03 R107 step 8, R110; 05
R182; 06 R205). -/
def atomicEnd (x : Ctx) (loc : Place) (atomic : Bool) (new : Option (BitVec 16 × Data × Tag)) (dest : Option Place)
    (res : Data × Tag) (pls : List Place) (fl : FlagUpd) (s : State) : Res Bool :=
  let dparts := match dest with | some pl => pl.parts | none => []
  if 16 < (s.core x.core).sb.length + dparts.length || dest.any (fun pl => !(s.firstReady x pl res)) then .wait s
  else match dirtyParts x.t (dparts ++ (if atomic || new.isSome then loc.parts else [])) s with
    | (false, s) => .wait s
    | (true, s) =>
      let s := match dest with
        | some pl => s.writeFirst x pl res
        | none => s
      let s := match new with
        | some (m, d, g) => s.writeLocation x loc m d g
        | none => s
      let s := match dest with
        | some (.den n take) => s.writePlace x 1 (.den n take) res.1.toNat 0xFFFF res.2 false
        | _ => s
      let s := (s.updFlags x.t fl).takeWords x dest pls
      .ok true (match dest with
        | some pl => s.writePlace x 1 pl res.1.toNat 0xFFFF res.2 true
        | none => s)

/-- The slot that a Compact PUT or TAKE names: the whole aligned word (05 R202). -/
def compactSlot (x : Ctx) (c : CEnc) (s : State) : Res Place :=
  (compactAddr x c false s).bind fun ea s => memPlace x 2 ea 16 16 .both s

/-- Compact synchronisation on memory uses the fields of LD but SG and SZ (05 R201). -/
def compactLocFields (c : CEnc) : Option Nat := if c.sg || c.sz != 0 then some 0 else none

/-- PUT (05 R157, R179, R181, R201, R202). -/
def execPut (t : Nat) (i : Ins) (s : State) : Out :=
  bothModes t i
    { group := 9, forms := [(2, [.both, .src])], modes := fun k => if k = 1 then some memModes else none }
    compactLocFields (fun _ _ => none)
    (fun i x s =>
      match i with
      | .full _ =>
        (resolve x 1 16 .both s).bind fun loc s => (resolve x 2 1 .src s).bind fun pl s =>
          (readLocation x 1 loc s).bind fun w s => (slotTag 1 loc w s).bind fun full s =>
            (takeSource x 2 accBit pl s).bind fun v s =>
              atomicEnd x loc false (if full then none else some (0xFFFF, v.data, Tag.full)) none (0, 0) [pl]
                { t := some (!full) } s
      | .compact c =>
        (compactSlot x c s).bind fun loc s =>
          (compactDen x c.d.toNat 6 1 s).bind fun v s =>
            (readLocation x 2 loc s).bind fun w s => (slotTag 2 loc w s).bind fun full s =>
              atomicEnd x loc false (if full then none else some (0xFFFF, BitVec.ofNat 128 v, Tag.full)) none (0, 0) []
                { t := some (!full) } s) s

/-- TAKE (05 R157, R180, R181, R201, R202). -/
def execTake (t : Nat) (i : Ins) (s : State) : Out :=
  bothModes t i
    { group := 9, forms := [(2, [.dst, .both])], modes := fun k => if k = 2 then some memModes else none }
    compactLocFields (fun _ _ => none)
    (fun i x s =>
      match i with
      | .full _ =>
        (resolve x 1 1 .dst s).bind fun d s => (resolve x 2 16 .both s).bind fun loc s =>
          (obtainDest x 1 d s).bind fun _ s => (readLocation x 2 loc s).bind fun w s =>
            (slotTag 2 loc w s).bind fun full s =>
              if full then atomicEnd x loc false (some (0xFFFF, w.data, Tag.empty)) (some d) (w.data, Tag.bits) [] { t := some true } s
              else atomicEnd x loc false none none (0, 0) [] { t := some false } s
      | .compact c =>
        (compactSlot x c s).bind fun loc s => (readLocation x 2 loc s).bind fun w s =>
          (slotTag 2 loc w s).bind fun full s =>
            if full then
              (atomicEnd x loc false (some (0xFFFF, w.data, Tag.empty)) none (0, 0) [] { t := some true } s).bind fun b s =>
                .ok b (s.compactWrite x.t c.d.toNat (bits w.data 31 0))
            else atomicEnd x loc false none none (0, 0) [] { t := some false } s) s

/-- A full-mode atomic (05 R182, R183): operand 1 gets the old word; reads1 when operand 1 is read too; the class checks of the
location and of operand 3; op computes the new word, if any, and the flags. The location alone is never split (log 74). -/
def atomicBody (reads1 : Bool) (acc : Accept) (op : Ctx → TWord → TWord → TWord → Option TWord × FlagUpd) (x : Ctx) (s : State) :
    Res Bool :=
  let r1 : Role := if reads1 then .both else .dst
  (resolve x 1 1 r1 s).bind fun d s => (resolve x 2 16 .both s).bind fun loc s => (resolve x 3 1 .src s).bind fun pl s =>
    (if reads1 then takeSource x 1 accAny d s else .ok TWord.fresh s).bind fun w1 s =>
      (obtainDest x 1 d s).bind fun _ s => (readLocation x 2 loc s).bind fun w s =>
        (x.consume acc w 6 2 false (match loc with | .mem ea _ => ea | _ => 0) s).bind fun old s =>
          (takeSource x 3 acc pl s).bind fun v s =>
            let r := op x w1 old v
            atomicEnd x loc true (r.1.map (fun n => (0xFFFF, n.data, n.tag))) (some d) (w.data, w.tag) [pl] r.2 s

/-- The 32-bit item of a Compact atomic within its aligned word (05 R202). -/
def itemOf (w : TWord) (off : Nat) : Nat := bits w.data (8 * off + 31) (8 * off)

/-- A Compact atomic on the aligned 32-bit item: D gets the old item (05 R201, R202). -/
def compactAtomic (c : CEnc) (op : Ctx → Nat → Nat → State → Res (Option Nat × FlagUpd)) (x : Ctx) (s : State) : Res Bool :=
  (compactAddr x c false s).bind fun ea s => (memPlace x 2 ea 4 4 .both s).bind fun loc s =>
    (compactDen x c.d.toNat 6 1 s).bind fun d s => (readLocation x 2 loc s).bind fun w s =>
      (x.ctake w 6 2 false ea s).bind fun data s =>
        let off := ea.toNat % 16
        let old := itemOf { data := data, tag := w.tag } off
        (op x d old s).bind fun r s =>
          let m : BitVec 16 := BitVec.ofNat 16 (15 * 2 ^ off)
          (atomicEnd x loc true (r.1.map (fun n => (m, BitVec.ofNat 128 (n % 2 ^ 32 * 2 ^ (8 * off)), Tag.bits))) none (0, 0) [] r.2 s).bind
            fun b s => .ok b (s.compactWrite x.t c.d.toNat old)

/-- The specification of an atomic (05 R157, R182). -/
def atomicSpec (reads1 : Bool) (arr : Nat) : Spec :=
  { group := 9, forms := [(3, [if reads1 then .both else .dst, .both, .src])], arr0 := arr,
    modes := fun k => if k = 2 then some memModes else none }

/-- ASWP (05 R182, R201). -/
def execAswp (t : Nat) (i : Ins) (s : State) : Out :=
  bothModes t i (atomicSpec false 0) compactLocFields (fun _ _ => none)
    (fun i x s =>
      match i with
      | .full _ => atomicBody false accAny (fun _ _ _ v => (some v, {})) x s
      | .compact c => compactAtomic c (fun _ d _ s => .ok (some d, {}) s) x s) s

/-- ACAS (05 R182, R183, R201, R202). -/
def execAcas (t : Nat) (i : Ins) (s : State) : Out :=
  bothModes t i (atomicSpec true 0) compactLocFields (fun _ _ => none)
    (fun i x s =>
      match i with
      | .full _ =>
        atomicBody true accAny (fun _ w1 old v =>
          let hit := w1 == old
          (if hit then some v else none, { z := some hit })) x s
      | .compact c =>
        compactAtomic c (fun x d old s =>
          (compactDen x ((c.d.toNat + 1) % 256) 6 3 s).bind fun v s =>
            .ok (if d = old then some v else none, { z := some (d == old) }) s) x s) s

/-- AADD (05 R182, R183, R201). -/
def execAadd (t : Nat) (i : Ins) (s : State) : Out :=
  bothModes t i (atomicSpec false 1) compactLocFields (fun _ _ => none)
    (fun i x s =>
      match i with
      | .full _ =>
        atomicBody false accInt (fun x _ old v =>
          let ls := (List.range 2).map (fun k => laneAdd x 64 (laneOf old.data 64 k) (laneOf v.data 64 k))
          (some { data := BitVec.ofNat 128 (joinLanes 64 (ls.map (·.r))), tag := Tag.int }, gatherFlags flNZCV ls)) x s
      | .compact c =>
        compactAtomic c (fun x d old s =>
          let o := laneAdd x 32 old d
          .ok (some o.r, gatherFlags flNZCV [o]) s) x s) s

/-- The bitwise atomics (05 R182, R183). -/
def atomicBits (f : Nat → Nat → Nat) (t : Nat) (e : Enc) (s : State) : Out :=
  fullInstr t e (atomicSpec false 0) (atomicBody false accBit (fun _ _ old v =>
    let r := f old.data.toNat v.data.toNat
    (some { data := BitVec.ofNat 128 r, tag := Tag.bits }, gatherFlags flNZ [laneOut 128 r false false]))) s

/-- AAND (05 R182, R183). -/
def execAand (t : Nat) (e : Enc) (s : State) : Out := atomicBits (· &&& ·) t e s

/-- AOR (05 R182, R183). -/
def execAor (t : Nat) (e : Enc) (s : State) : Out := atomicBits (· ||| ·) t e s

/-- AXOR (05 R182, R183). -/
def execAxor (t : Nat) (e : Enc) (s : State) : Out := atomicBits (· ^^^ ·) t e s

/-! ## Fences (05 R185, R186) -/

/-- No store of the thread awaits its drain, of those to memory or of all (05 R185, R186). -/
def State.storesDone (s : State) (t : Nat) (mem : Bool) : Bool :=
  !((s.core (t / 16)).sb.any (fun e => e.tid == t && (!mem || e.kind == .mem)))

/-- FENCE_SL: a read of the thread comes only once its earlier stores are visible, since the thread waits for them here (05
R185). -/
def execFenceSl (t : Nat) (i : Ins) (s : State) : Out :=
  bothModes t i (noOperands 9 false) compactNoFields (fun _ _ => none)
    (fun _ x s => (untilMesh x (.stores true) (s.storesDone x.t true) s).bind fun _ s => .ok true s) s

/-- FENCE_IO: every earlier write of the thread to a PCIe window has been accepted as well (05 R186). -/
def execFenceIo (t : Nat) (i : Ins) (s : State) : Out :=
  bothModes t i (noOperands 9 false) compactNoFields (fun _ _ => none)
    (fun _ x s => (untilMesh x (.stores false) (s.drained x.t) s).bind fun _ s => .ok true s) s

end Sys2Proof.Machine
end

