-- ==== Sys2Proof/Machine/Caches.lean ====
section
/-! DEFINITION. Caches and coherence (09): evictions, the home slice, fills, the drain of a store, locking, partition moves,
disabling, and the scratch units. -/

namespace Sys2Proof.Machine

/-! ## Choices that the spec leaves open (09 gives no replacement policy: log 40) -/

/-- One of a list of ways, by a free value. -/
def State.pickWay (s : State) (ways : List Nat) : Option Nat × State :=
  match ways with
  | [] => (none, s)
  | w :: r => (some ((w :: r).getD ((Config.freeValue s.fresh).toNat % (r.length + 1)) w), { s with fresh := s.fresh + 1 })

/-- Units of scratch that a slice holds, and whether a way of it is scratch (09 R324). -/
def State.scratchWay (s : State) (slice way : Nat) : Bool :=
  decide (way ≤ 15) && decide ((15 - way) * 12 + slice < bits (s.reg Key.l3Scrcfg) 7 0)

/-- A retired way of a slice is out of use (18 R607). -/
def State.retiredWay (s : State) (slice way : Nat) : Bool := s.rb (Key.l3Wayret slice) way

/-- The cache ways of a slice for an access world (09 R316, R324). -/
def State.l3Ways (s : State) (slice : Nat) (sec : Bool) : List Nat :=
  (List.range 16).filter (fun w =>
    bit (s.reg (Key.l3Part slice)) w == sec && !(s.scratchWay slice w) && !(s.retiredWay slice w))

/-! ## The L3 (09 R307, R308) -/

/-- A dirty line leaves a slice for DRAM; a clean one is dropped; a disabled slice writes nothing back (09 R308, R326). -/
def State.l3Evict (s : State) (key : Nat) : State :=
  match tfind s.l3 key with
  | some l =>
    let back := l.dirty && !(s.rb (Key.l3Ctl (key / 65536)) 0)
    { s with l3 := tdel s.l3 key, mem := if back then s.mem.setLine l.line l.ws else s.mem }
  | none => s

/-- A copy in a way of the other world is evicted before an access of this world goes on (09 R317). -/
def State.l3EvictOther (s : State) (line : Nat) (sec : Bool) : State :=
  match s.l3Find line with
  | some (key, _) => if s.rb (Key.l3Part (key / 65536)) (key % 16) == sec then s else s.l3Evict key
  | none => s

/-- A line is placed in a slice: over its own copy, else in the way given; a dirty victim goes to DRAM (09 R308). -/
def State.l3Place (s : State) (line : Nat) (ws : List TWord) (dirty : Bool) (way : Nat) : State :=
  let h := homeSlice line
  match s.l3Find line with
  | some (key, l) => { s with l3 := tput s.l3 key { l with dirty := l.dirty || dirty, ws := ws } }
  | none =>
    let key := l3Key h (l3Set line) way
    let s1 := s.l3Evict key
    { s1 with l3 := tput s1.l3 key { line := line, dirty := dirty, ws := ws } }

/-- The slice takes a line of an access world: into a way of that world, else past it to DRAM (09 R308, R316, R326). Scratch lines
live in their unit, which is their memory here. -/
def State.l3Accept (s : State) (line : Nat) (ws : List TWord) (dirty sec : Bool) (way : Option Nat) : State :=
  let h := homeSlice line
  if s.rb (Key.l3Ctl h) 0 || s.region (line * 64) = .scratch then
    if dirty then { s with mem := s.mem.setLine line ws } else s
  else
    let s := s.l3EvictOther line sec
    let ways := s.l3Ways h sec
    let pick : Option Nat × State :=
      match way with
      | some w => if ways.contains w then (some w, s) else s.pickWay ways
      | none => s.pickWay ways
    match pick.1 with
    | some w => pick.2.l3Place line ws dirty w
    | none => if dirty then { s with mem := s.mem.setLine line ws } else s

/-- Another cluster's L2 holds the line, by the directory (09 R308). -/
def State.otherHolds (s : State) (k line : Nat) : Bool :=
  match tfind s.dir line with
  | some e => setBits e.presence k k 0 != 0
  | none => false

/-- An evicted L2 line is offered to its home slice (09 R308). -/
def State.offer (s : State) (k : Nat) (l : L2Line) (sec : Bool) (way : Option Nat) : State :=
  let pol := s.rf (Key.l3Ctl (homeSlice l.line)) 5 4
  if l.st = .m then s.l3Accept l.line l.ws true sec way
  else if pol = 2 || (pol = 1 && s.otherHolds k l.line) then s
  else s.l3Accept l.line l.ws false sec way

/-- An L2 slot is emptied: its line is offered and leaves with its L1 copies; a held slot is given up; a disabled L2 offers nothing (09
R306, R308, R323, R326). -/
def State.l2Evict (s : State) (k slot : Nat) (way : Option Nat) : State :=
  match tfind (s.cluster k).l2 slot with
  | none => s
  | some l =>
    let s1 := if l.st = .held || !(s.cluster k).l2On then s else s.offer k l (slotSec (s.cluster k) slot) way
    let s2 := s1.modCluster k (fun c => { c with l2 := tdel c.l2 slot })
    (s2.modClusterCores k (fun c => c.dropL1 l.line)).dirRemove l.line k

/-- Every slot of some ways of an L2 is emptied (09 R318, R320). -/
def State.l2EvictWays (s : State) (k : Nat) (p : Nat → Bool) : State :=
  ((s.cluster k).l2.filter (fun e => p (slotWay e.1))).foldl (fun s e => s.l2Evict k e.1 none) s

/-! ## The directory (09 R306, R307, R309) -/

/-- The entries of the directory set of a line. -/
def State.dirSet (s : State) (line : Nat) : List (Nat × DirEntry) :=
  s.dir.filter (fun e => homeSlice e.1 == homeSlice line && l3Set e.1 == l3Set line)

/-- The least recently used of a list of entries. -/
def oldestEntry : List (Nat × DirEntry) → Option Nat
  | [] => none
  | e :: r => some (r.foldl (fun (b : Nat × DirEntry) f => if f.2.stamp < b.2.stamp then f else b) e).1

/-- Every L2 copy of a displaced line goes; a dirty one is offered to the L3 (09 R309). -/
def State.displace (s : State) (line : Nat) : State :=
  let s1 := (List.range 12).foldl (fun s k =>
    match (s.cluster k).l2Find line with
    | some (slot, l) => (if l.st = .m then s.offer k l (slotSec (s.cluster k) slot) none else s).l2Drop k slot l
    | none => s) s
  ({ s1 with dir := tdel s1.dir line }).count (Key.l3Dirconf (homeSlice line)) 31 0 1

/-- The directory records that a cluster holds a line, making room in its set (09 R306, R309). -/
def State.dirRecord (s : State) (line k : Nat) (excl : Bool) : State :=
  let s1 :=
    match tfind s.dir line with
    | some _ => s
    | none =>
      if (s.dirSet line).length < 16 then s
      else match oldestEntry ((s.dirSet line).filter (fun e => !(s.dirPinned e.1))) with
        | some old => s.displace old
        | none => s
  let p : BitVec 12 := match tfind s1.dir line with | some e => e.presence | none => 0
  { s1 with dir := tput s1.dir line { presence := setBits p k k 1, excl := excl, stamp := s1.dirStamp },
            dirStamp := s1.dirStamp + 1 }

/-- A snoop of an L2 for a read: M and E become S, and a dirty line is also written into the L3 (09 R307). -/
def State.snoopRead (s : State) (k line : Nat) : State :=
  match (s.cluster k).l2Find line with
  | some (slot, l) =>
    if l.st = .s then s
    else
      let s1 := if l.st = .m then s.l3Accept line l.ws true (slotSec (s.cluster k) slot) none else s
      let s2 := s1.modCluster k (fun c => { c with l2 := tput c.l2 slot { l with st := .s } })
      match tfind s2.dir line with
      | some e => { s2 with dir := tput s2.dir line { e with excl := false } }
      | none => s2
  | none => s

/-- Some copy of the line is newer than DRAM: an L2's in M, or a dirty L3 copy. -/
def State.lineDirty (s : State) (line : Nat) : Bool :=
  (List.range 12).any (fun k => match (s.cluster k).l2Find line with | some (_, l) => l.st == .m | none => false) ||
  (match s.l3Find line with | some (_, l) => l.dirty | none => false)

/-- The four words that a reader of the line sees. -/
def State.visLine (s : State) (line : Nat) : List TWord := (List.range 4).map (fun i => s.visWord (line * 64 + 16 * i))

/-- A home slice resolves an L2 miss or upgrade (09 R307, R317): other copies are snooped, the line and its state go to the requester's
slot, and the L3 gives up its copy of a line received in M or E. A line read in E is clean, so newer data of the L3 goes to DRAM. -/
def State.homeRequest (s0 : State) (k line : Nat) (own : Bool) (way : Nat) (sec : Bool) : State :=
  let s := s0.l3EvictOther line sec
  let ws := s.visLine line
  let dirty := s.lineDirty line
  let others := s.otherCopies k line
  let s1 := others.foldl (fun s j => if own then s.snoopOwn j line else s.snoopRead j line) s
  match (s1.cluster k).l2Find line with
  | some (slot, l) =>
    if own && l.st = .s then
      let s2 := s1.modCluster k (fun c => { c with l2 := tput c.l2 slot { l with st := if dirty then .m else .e } })
      (s2.l3Drop line).dirRecord line k true
    else s1
  | none =>
    let excl := own || others.isEmpty
    let slot := l2Slot line way
    let pin := match (s1.cluster k).heldFind line with | some (_, l) => l.pin | none => false
    let s2 := if pin then s1 else s1.l2Evict k slot none
    let s3 := if own then s2.l3Drop line
      else if excl then ({ s2 with mem := if dirty then s2.mem.setLine line ws else s2.mem }).l3Drop line else s2
    let st : LineState := if excl then (if own && dirty then .m else .e) else .s
    let s4 := s3.dirRecord line k excl
    s4.modCluster k (fun c => { c with l2 := tput c.l2 slot { line := line, st := st, pin := pin, ws := ws } })

/-! ## Lines of the L1 caches (09 R303, R316, R319) -/

/-- The L1 slot of a line: sets of 128; ways 8 for L1D, 4 for L1I. -/
def l1Slot (line ways way : Nat) : Nat := line % 128 * ways + way

/-- A fill goes past an L1 cache to the accesses that wait for it. -/
def State.fillPast (s : State) (m : Mshr) : State :=
  m.thr.foldl (fun s t => s.modThr t (fun th =>
    if m.icache then { th with codeFill := m.line :: th.codeFill.erase m.line }
    else { th with filled := m.line :: th.filled.erase m.line })) s

/-- LINE_FILL's effect: the miss register is freed, and the line is installed where its L2 holds it and a way of the access world was
given, else it goes past the cache (09 R303, R306, R316, R319). -/
def State.lineFill (s : State) (c : Nat) (m : Mshr) (way : Nat) : State :=
  let s1 := (s.modCore c (fun x => { x with mshr := x.mshr.filter (fun n => !(n.icache == m.icache && n.line == m.line)) })).l2Admit (c / 4)
  if !(s1.l1On c m.icache) || ((s1.cluster (c / 4)).l2Find m.line).isNone || m.noInstall then s1.fillPast m
  else if m.icache then
    if way < 4 then s1.modCore c (fun x => { x with l1i := tput (x.l1i.filter (fun e => e.2 != m.line)) (l1Slot m.line 4 way) m.line })
    else s1.fillPast m
  else if way < 8 && bit (s1.core c).l1dpart way == m.sec then
    s1.modCore c (fun x => { x with l1d := tput (x.l1d.filter (fun e => e.2 != m.line)) (l1Slot m.line 8 way) m.line })
  else s1.fillPast m

/-! ## The words that control the caches (09 R318, R320, R326, R331, R332) -/

/-- How many of the low n bits are set. -/
def popCount {n : Nat} (v : BitVec n) : Nat := ((List.range n).filter (fun i => bit v i)).length

/-- A fused limit: unprogrammed it reads as the largest value of its range (15 R494). -/
def fuseLimit (v max : Nat) : Nat := if v = 0 then max else v

/-- L1DPART: the lines of every way that moves are evicted (09 R318). -/
def State.writeL1dpart (s : State) (c : Nat) (v : W64) : State :=
  s.modCore c (fun x =>
    let nw : W64 := v &&& 0xFF
    { x with l1dpart := nw, l1d := x.l1d.filter (fun e => !(bit (x.l1dpart ^^^ nw) (e.1 % 8))) })

/-- L2PART: the lines of every way that moves are evicted (09 R318). -/
def State.writeL2part (s : State) (k : Nat) (v : W64) : State :=
  let nw : W64 := v &&& 0xFFFF
  let old := (s.cluster k).l2part
  (s.l2EvictWays k (fun w => bit (old ^^^ nw) w)).modCluster k (fun c => { c with l2part := nw })

/-- A DIS bit is set with its STALE bit, or cleared unless STALE is 1 (09 R326, R327). -/
def disWrite (old : W64) (dis stale : Nat) (v : Bool) : W64 :=
  if v then setBits (setBits old dis dis 1) stale stale 1
  else if bit old stale then old else setBits old dis dis 0

/-- L1CTL (09 R331). -/
def State.writeL1ctl (s : State) (c : Nat) (v : W64) : State :=
  s.modCore c (fun x => { x with l1ctl := disWrite (disWrite x.l1ctl 0 4 (bit v 0)) 1 5 (bit v 1) })

/-- L2CTL (09 R332). -/
def State.writeL2ctl (s : State) (k : Nat) (v : W64) : State :=
  s.modCluster k (fun c => { c with l2ctl := disWrite c.l2ctl 0 1 (bit v 0) })

/-- A line of a way that is being locked: pinned, or evicted where its directory set holds 12 pinned entries (09 R322). -/
def State.lockLine (s : State) (k slot : Nat) (l : L2Line) : State :=
  if s.dirPinned l.line || ((s.dirSet l.line).filter (fun e => s.dirPinned e.1)).length < 12 then
    s.modCluster k (fun c => { c with l2 := tput c.l2 slot { l with pin := true } })
  else
    let s1 := s.l2Evict k slot none
    s1.modCluster k (fun c => { c with l2lkstat := setBits c.l2lkstat 31 16 (satAdd 0xFFFF (bits c.l2lkstat 31 16) 1) })

/-- The lines of an unlocked way are ordinary lines again, and its held slots are empty (09 R320). -/
def State.unlockWay (s : State) (k w : Nat) : State :=
  ((s.cluster k).l2.filter (fun e => slotWay e.1 == w)).foldl (fun s e =>
    if e.2.st = .held then
      let s1 := s.modCluster k (fun c => { c with l2 := tdel c.l2 e.1 })
      match tfind s1.dir e.2.line with
      | some d => if d.presence = 0 && !(s1.dirPinned e.2.line) then { s1 with dir := tdel s1.dir e.2.line } else s1
      | none => s1
    else s.modCluster k (fun c => { c with l2 := tput c.l2 e.1 { e.2 with pin := false } })) s

/-- What an L2LOCK write makes of the word: the hypervisor leaves secure ways alone; a reserved encoding leaves its own field as it was,
FILLEN and FILLWAY, which a reserved encoding relates, together (DESIGN CHOICE, log 65) (09 R320, R332; 00 R5). -/
def l2lockValue (c : Cluster) (monitor : Bool) (v : W64) : W64 :=
  let old := c.l2lock
  let lock := if monitor then bits v 31 16
              else (bits v 31 16 &&& (0xFFFF - bits c.l2part 15 0)) ||| (bits old 31 16 &&& bits c.l2part 15 0)
  let keep := !monitor && (bit c.l2part (bits v 7 4) || bit c.l2part (bits old 7 4))
  let lock1 := if 12 < popCount (BitVec.ofNat 16 lock) then bits old 31 16 else lock
  let fill := if keep || (bit v 0 && (lock / 2 ^ bits v 7 4) % 2 = 1) then old else v
  let core := if keep then old else v
  BitVec.ofNat 64 (lock1 * 2 ^ 16 + bits core 9 8 * 2 ^ 8 + bits fill 7 4 * 2 ^ 4 + bits fill 0 0)

/-- L2LOCK: the new fill way is emptied, then ways are locked, then ways are unlocked (09 R320). -/
def State.writeL2lock (s : State) (k : Nat) (monitor : Bool) (v : W64) : State :=
  let c := s.cluster k
  let old := c.l2lock
  let nw := l2lockValue c monitor v
  let s1 := if bit nw 0 && (!(bit old 0) || bits nw 7 4 != bits old 7 4) then s.l2EvictWays k (fun w => w == bits nw 7 4) else s
  let s2 := ((s1.cluster k).l2.filter (fun e => bit nw (16 + slotWay e.1) && !(bit old (16 + slotWay e.1)))).foldl
    (fun s e => s.lockLine k e.1 e.2) s1
  let s3 := ((List.range 16).filter (fun w => bit old (16 + w) && !(bit nw (16 + w)))).foldl (fun s w => s.unlockWay k w) s2
  s3.modCluster k (fun c => { c with l2lock := nw })

/-- The lines of some L3 ways are evicted (09 R318, R325). -/
def State.l3EvictWays (s : State) (slice : Nat) (p : Nat → Bool) : State :=
  (s.l3.filter (fun e => e.1 / 65536 == slice && p (e.1 % 16))).foldl (fun s e => s.l3Evict e.1) s

/-! ## Scratch units (09 R324, R325) -/

/-- Every word of a range of memory is data 0 with tag UNINIT. -/
def Memory.clearRange (m : Memory) (lo hi : Nat) : Memory :=
  { cells := m.cells.filter (fun e => e.1 < lo || hi ≤ e.1), tags := m.tags.filter (fun e => e.1 * 16 < lo || hi ≤ e.1 * 16) }

/-- The addresses of a scratch unit. -/
def unitBase (k : Nat) : Nat := 0x7F4000000000 + k * 0x40000

/-- Every cached copy of the lines of an address range is dropped, dirty ones included (09 R325). -/
def State.dropRange (s : State) (lo hi : Nat) : State :=
  let hit (line : Nat) : Bool := decide (lo ≤ line * 64) && decide (line * 64 < hi)
  let s1 := (List.range 12).foldl (fun s k =>
    ((s.cluster k).l2.filter (fun e => hit e.2.line && e.2.st != .held)).foldl (fun s e => s.l2Drop k e.1 e.2) s) s
  { s1 with l3 := s1.l3.filter (fun e => !(hit e.2.line)) }

/-- Units from a to b − 1 are set to data 0 with tag UNINIT, and no cache keeps a copy (09 R325, R327). -/
def State.clearUnits (s : State) (a b : Nat) : State :=
  if a < b then
    let s1 := s.dropRange (unitBase a) (unitBase b)
    { s1 with mem := s1.mem.clearRange (unitBase a) (unitBase b) }
  else s

/-- The ways that become scratch under a count of units are emptied (09 R325). -/
def State.emptyScratchWays (s : State) : State :=
  (List.range 12).foldl (fun s h => s.l3EvictWays h (fun w => s.scratchWay h w)) s

end Sys2Proof.Machine
end

