-- ==== Sys2Proof/Machine/MemCtl.lean ====
section
/-! DEFINITION. The memory controllers: reads with errors, writes, scrubbing, progressive initialisation, channel retirement and
reports (10 R335 to R363). -/

namespace Sys2Proof.Machine

/-! ## Where a word lies (10 R337, R341) -/

/-- The subchannel index of an address (10 R337). -/
def subIndex (pa : Nat) : Nat := pa / 2 ^ 6 % 8 ^^^ pa / 2 ^ 15 % 8 ^^^ pa / 2 ^ 24 % 8 ^^^ pa / 2 ^ 33 % 8

/-- The channel of an address (10 R337). -/
def channelOf (pa : Nat) : Nat := subIndex pa / 2

/-- The number of a line among those of its channel: two of every eight consecutive lines are a channel's (10 R337). -/
def channelLine (pa : Nat) : Nat := pa / 512 * 2 + subIndex pa % 2

/-- The line of an address has left its channel: the channel is retired, or its copy has moved the line (10 R358). -/
def State.relocated (s : State) (pa : Nat) : Bool :=
  s.dram.retired == some (channelOf pa) ||
    (s.dram.retiring == some (channelOf pa) && decide (channelLine pa < s.dram.copied))

/-- The channel whose storage holds the code word of an address: another one's spare area once the line is moved there (10 R358, log 45). -/
def State.servedBy (s : State) (pa : Nat) : Nat :=
  let ch := channelOf pa
  if s.relocated pa then (ch + 1 + Config.spareChannel ch (pa / 16) % 3) % 4 else ch

/-- The 160-bit code word in which the word at an address is stored (10 R339): check bits, tag, data. -/
def State.codeWord (s : State) (pa : Nat) : BitVec 160 :=
  let w := s.mem.word (pa / 16)
  Config.checkBits w.data w.tag (BitVec.ofNat 44 (pa / 16)) ++ w.tag ++ w.data

/-- What a code word places on the lanes in beat b of its four: CB[7:4], CB[3:0] and DQ[31:0] (10 R339). -/
def beatLanes (c : BitVec 160) (b : Nat) : BitVec 40 :=
  let cb (n : Nat) : BitVec 4 := (c >>> (132 + 4 * n)).setWidth 4
  (if b = 0 then cb 0 else cb (2 * b)) ++ (if b = 0 then (c >>> 128).setWidth 4 else cb (2 * b - 1)) ++ (c >>> (32 * b)).setWidth 32

/-- The lowest bit of the mark of device index n of MEM_DEVCE: its subchannel and rank (10 R341, R362). -/
def markLo (n : Nat) : Nat := 8 * (n / 10)

/-- The device marked in the subchannel rank of device index n; no x8 device is marked (10 R341). -/
def State.marked (s : State) (ch n : Nat) : Option Nat :=
  if !s.dram.cfg.width8 && s.rb (Key.memDevmark ch) (markLo n + 4) then some (s.rf (Key.memDevmark ch) (markLo n + 3) (markLo n)) else none

/-- Something is put on the supervision bus to the Badger island (01 R25, 10 R360). -/
def State.toBadger (s : State) (ch : Nat) (f : MemReport → MemReport) : State :=
  { s with dram := { s.dram with bus := tset {} s.dram.bus ch (f (tget {} s.dram.bus ch)) } }

/-- A x4 device is marked, and the mark is reported at once (10 R342, R360). -/
def State.markDevice (s : State) (ch n : Nat) : State :=
  ((s.setRf (Key.memDevmark ch) (markLo n + 4) (markLo n) (16 + n % 10)).raise 394 0).toBadger ch (fun r => { r with marks := r.marks + 1 })

/-- Automatic marking is possible for the device: x4, MARKEN, none marked beside it (10 R341, R342). -/
def State.canMark (s : State) (ch n : Nat) : Bool :=
  !s.dram.cfg.width8 && s.rb (Key.memEccctl ch) 8 && (s.marked ch n).isNone && decide (n < 40)

/-! ## Errors (10 R342 to R345, R349, R360, R363) -/

/-- A correctable error: its counts, the threshold sources and marking by threshold (10 R342, R343, R360). -/
def State.corrected (s : State) (ch n : Nat) : State :=
  let thr := s.rf (Key.memEccctl ch) 31 16
  let c := tget 0 s.dram.periodCorr ch + 1
  let dv := tget 0 s.dram.periodDev (40 * ch + n) + 1
  let s1 := (s.count (Key.memEcccnt ch) 31 0 1).count (Key.memDevce ch n) 15 0 1
  let d := { s.dram with periodCorr := tset 0 s.dram.periodCorr ch c, periodDev := tset 0 s.dram.periodDev (40 * ch + n) dv,
                         unsentCorr := tset 0 s.dram.unsentCorr ch (tget 0 s.dram.unsentCorr ch + 1) }
  let s2 := { s1 with dram := d }
  let s3 := if thr < c && !s.dram.told.contains ch then { s2 with dram := { s2.dram with told := ch :: s2.dram.told } }.raise (384 + ch) 0 else s2
  if thr < dv && s3.canMark ch n then s3.markDevice ch n else s3

/-- The log of an error (10 R344, R363): dev is 15 when no device holds every failing symbol; the rank, which the spec does not tie
to an address, is a free value unless a device names it (log 45). -/
def State.logError (s : State) (ch src dev pa : Nat) (rank : Option Nat) : State :=
  let k := Key.memErrlog ch
  if s.rb k 63 then s.setRf k 62 62 1
  else
    let r := rank.getD (bits (Config.freeValue s.fresh) 0 0)
    let v := 2 ^ 63 + src * 2 ^ 60 + r * 2 ^ 56 + subIndex pa % 2 * 2 ^ 55 + dev * 2 ^ 51 + pa / 16 * 16
    { s.setReg k (BitVec.ofNat 64 (v + b2n (s.rb k 62) * 2 ^ 62)) with fresh := s.fresh + 1 }

/-- An error counted as uncorrectable, and reported at once (10 R344, R360). -/
def State.countUncorr (s : State) (ch : Nat) : State :=
  ((s.count (Key.memEcccnt ch) 63 32 1).raise (388 + ch) 0).toBadger ch (fun r => { r with uncorr := r.uncorr + 1 })

/-- The word POISON with data 0 (10 R344). -/
def poisonWord : TWord := { data := 0, tag := Tag.poison }

/-- An uncorrectable error: counted, logged, reported, and the word poisoned in DRAM (10 R344); a synced pair member asks for its
repair (14 R487). -/
def State.uncorrected (s : State) (ch src dev pa : Nat) (rank : Option Nat) : State :=
  let s1 := (s.countUncorr ch).logError ch src dev pa rank
  let s2 := { s1 with mem := s1.mem.setWord (pa / 16) poisonWord }
  if s.pair.sync == 2 && s.mirrored pa then
    let rest := s.pair.repairs.filter (fun (e : Nat × Bool) => e.1 != pa / 16 * 16)
    { s2 with pair := { s2.pair with repairs := rest ++ [(pa / 16 * 16, false)] } }.pairSend (.repairq (pa / 16 * 16))
  else s2

/-- What lies in storage of a word is not known: its data and its tag are free values (log 45). -/
def State.freeWord (s : State) (pa : Nat) : State :=
  let w : TWord := { data := Config.freeValue s.fresh, tag := BitVec.ofNat 4 (Config.freeValue (s.fresh + 1)).toNat }
  { s with mem := s.mem.setWord (pa / 16) w, fresh := s.fresh + 2 }

/-- More symbols fail than the code is said to detect: whether it does is a free value, and a word it misses holds one (10 R340, log 45). -/
def State.beyondCode (s : State) (ch src dev pa : Nat) (rank : Option Nat) : State :=
  let s1 := { s with fresh := s.fresh + 1 }
  if bit (Config.freeValue s.fresh) 0 then s1.uncorrected ch src dev pa rank else s1.freeWord pa

/-- The device that carries a symbol of a code word: of x4 devices each carries a nibble group, of x8 devices two (10 R340, R341). -/
def State.deviceOf (s : State) (sym : Nat) : Nat := if s.dram.cfg.width8 then sym / 4 else sym / 2

/-- What the read of a code word finds and does (10 R340 to R344): an error in one symbol is corrected; with a marked device, one in that
device alone is, and a further symbol is detected; one in the two symbols of a x4 device marks it; other errors are detected. -/
def State.readFinds (s : State) (src pa : Nat) (err : DramErr) : State :=
  let ch := s.servedBy pa
  match err with
  | .none => s
  | .address => s.uncorrected ch src 15 pa none
  | .symbols rank1 l =>
    let syms := (List.range 20).filter (fun x => l.contains x)
    let unit := 20 * b2n rank1 + 10 * (subIndex pa % 2)
    match syms with
    | [] => s
    | x :: r =>
      let d := s.deviceOf x
      let one := r.all (fun y => s.deviceOf y == d)
      let dev := if one && !s.dram.cfg.width8 then d else 15
      match s.marked ch unit with
      | some m =>
        match syms.filter (fun y => s.deviceOf y != m) with
        | [] => s.corrected ch (unit + m)
        | [_] => s.uncorrected ch src dev pa (some (b2n rank1))
        | _ => s.beyondCode ch src dev pa (some (b2n rank1))
      | none =>
        match r with
        | [] => s.corrected ch (unit + d)
        | [_] =>
          if one && s.canMark ch (unit + d) then (s.markDevice ch (unit + d)).corrected ch (unit + d)
          else s.uncorrected ch src dev pa (some (b2n rank1))
        | _ => s.beyondCode ch src dev pa (some (b2n rank1))

/-- A command of a memory controller to a word: it lies in DRAM and its chunk is initialised; else the chunk is promoted
(10 R353). -/
def State.dramCmd (s : State) (pa : Nat) (f : State → State) : Out :=
  if s.region pa != .dram then .next s
  else if !(s.dram.ready pa) then .next { s with dram := s.dram.promote pa }
  else .next (f s)

/-- The retry of a command is over. -/
def State.retryDone (s : State) (pa : Nat) (write : Bool) : State :=
  { s with dram := { s.dram with retry := s.dram.retry.filter (fun e => e != (pa / 16, write)) } }

/-- DRAM_READ (10 R343, R344). -/
def execDramRead (pa : Addr) (err : DramErr) (s : State) : Out :=
  s.dramCmd pa.toNat (fun s => (s.retryDone pa.toNat false).readFinds 0 pa.toNat err)

/-- DRAM_WRITE (10 R346): a partial mask is refused and counted. -/
def execDramWrite (pa : Addr) (w : TWord) (mask : BitVec 16) (s : State) : Out :=
  s.dramCmd pa.toNat (fun s =>
    if mask = 0xFFFF#16 then
      let s1 := s.retryDone pa.toNat true
      { s1 with mem := s1.mem.setWord (pa.toNat / 16) w }
    else s.count (Key.memNarrow (s.servedBy pa.toNat)) 31 0 1)

/-- A write failed twice: counted as uncorrectable and logged, and nothing more is written; what the word then holds is a free value
(10 R345, log 45). -/
def State.writeLost (s : State) (pa : Nat) : State :=
  let ch := s.servedBy pa
  (((s.retryDone pa true).countUncorr ch).logError ch 2 15 pa none).freeWord pa

/-- A command failed: the first time it is retried (10 R345). -/
def State.commandFails (s : State) (pa : Nat) (write : Bool) (again : State → State) : State :=
  if s.dram.retry.contains (pa / 16, write) then again s
  else { s with dram := { s.dram with retry := s.dram.retry ++ [(pa / 16, write)] } }

/-- DRAM_COMMAND_TIMEOUT (07 R258 entry 1, 10 R345): every expiry raises source 401. -/
def execDramCommandTimeout (pa : Addr) (write : Bool) (s : State) : Out :=
  s.dramCmd pa.toNat (fun s => (s.raise 401 0).commandFails pa.toNat write (fun s =>
    if write then s.writeLost pa.toNat
    else (s.retryDone pa.toNat false).uncorrected (s.servedBy pa.toNat) 2 15 pa.toNat none))

/-- DRAM_ALERT (10 R345). -/
def execDramAlert (pa : Addr) (s : State) : Out :=
  s.dramCmd pa.toNat (fun s => s.commandFails pa.toNat true (fun s => s.writeLost pa.toNat))

/-- The scrubber of a channel reads a code word of its decoded storage, the words of a retired channel in its spare area too, and the spare
area's own while none is retired; neither a chunk that is not initialised nor a channel being retired (10 R349, R351, R358). -/
def State.scrubs (s : State) (channel a : Nat) : Bool :=
  s.rb (Key.memScrub channel) 63 && !s.dram.selfRefresh && s.dram.retiring != some channel &&
    s.servedBy a == channel && s.dram.up && decide (a < if s.dram.retired.isSome then s.dram.top else s.dram.installed) && s.dram.ready a

/-- SCRUB_READ (10 R348 to R350, R360): a word that holds POISON is counted, which is reported at once, and left. The end of a pass starts a new period of the
thresholds. -/
def execScrubRead (channel : Nat) (pa : Addr) (err : DramErr) (passEnd : Bool) (s : State) : Out :=
  if 4 ≤ channel then .fault .noSuchUnit
  else
    let a := pa.toNat
    if !(s.scrubs channel a) then .next s
    else
      let s1 := if s.mem.tag (a / 16) = Tag.poison && err == .none then
          (s.count (Key.memEcccnt channel) 63 32 1).toBadger channel (fun r => { r with uncorr := r.uncorr + 1 })
        else s.readFinds 1 a err
      if passEnd then
        let s2 := (s1.count (Key.memScrub channel) 31 0 1).raise 395 0
        let pd := s2.dram.periodDev.filter (fun (e : Nat × Nat) => e.1 / 40 != channel)
        let told := s2.dram.told.filter (fun c => c != channel)
        .next { s2 with dram := { s2.dram with periodCorr := tdel s2.dram.periodCorr channel, periodDev := pd, told := told } }
      else .next s1

/-! ## Progressive initialisation (10 R351 to R355, 16 R532) -/

/-- Chunks of the decoded DRAM, spare area included (10 R351). -/
def Dram.chunks (d : Dram) : Nat := d.installed / 0x40000

/-- The lowest chunk at or above k that is not complete, and what stays listed above it. -/
def raiseNext : Nat → Nat → List Nat → Nat × List Nat
  | 0, k, l => (k, l)
  | f + 1, k, l => if l.contains k then raiseNext f (k + 1) (l.filter (fun x => x != k)) else (k, l)

/-- Chunk k is complete, and no longer promoted; when it was the one in progress the next is chosen: promotions in order, else the
background's (10 R351, R353). -/
def Dram.finish (d : Dram) (k : Nat) : Dram :=
  let (nx, dn) := raiseNext (d.done.length + 1) d.nextChunk (k :: d.done.filter (fun x => x != k))
  let rest := d.promo.filter (fun x => x != k)
  let d1 := { d with nextChunk := nx, done := dn, promo := rest, complete := decide (d.chunks ≤ nx) }
  if d.cur = k then { d1 with cur := rest.headD nx } else d1

/-- The boot region is initialised, and READY is high until device reset; a BOOTSZ above the DRAM region waits for all of it (10 R351, 16
R532, R549). -/
def Dram.bootDone (d : Dram) : Bool :=
  d.up && ((decide (d.bootsz * 2 ^ 30 ≤ d.top) && decide (d.bootsz * 4096 ≤ d.nextChunk)) || d.complete)

/-- Chunk k is initialised: every word is data 0 with tag UNINIT; the last one raises source 392 (10 R351, R352). -/
def State.finishChunk (s : State) (k : Nat) : State :=
  let lo := k * 0x40000
  let m := if lo < s.dram.installed then s.mem.clearRange lo (lo + 0x40000) else s.mem
  let s1 := { s with dram := s.dram.finish k, mem := m }
  if s1.dram.complete && !s.dram.complete then s1.raise 392 0 else s1

/-- CHUNK_INIT_COMPLETE (10 R351 to R355): the chunk in progress. -/
def execChunkInitComplete (s : State) : Out :=
  if s.dram.up && !s.dram.complete then .next (s.finishChunk s.dram.cur) else .next s

/-! ## Retirement and reports (10 R357 to R360) -/

/-- A write of MEM_RETIRE (10 R357, R358). -/
def State.retireWrite (s : State) (v : W64) : State :=
  let s1 := s.writeReg Key.memRetire v
  if !(bit v 3) then s1
  else if s.dram.reserve && s.dram.complete && s.dram.retired.isNone && s.dram.retiring.isNone then
    { s1.setRf Key.memRetire 63 62 1 with dram := { s.dram with retiring := some (bits v 1 0), copied := 0 } }
  else s1.setRf Key.memRetire 63 62 3

/-- The lines of a channel that retirement copies: those of the DRAM region (10 R357). -/
def Dram.toCopy (d : Dram) : Nat := dramGib d.cfg * 3 / 4 * 2 ^ 24

/-- 40 ns of a retirement's copy, in line order: at no less than 10 GB/s at least 6 lines, how many more is a free value (10 R358, log 45). -/
def State.retireTick (s : State) : State :=
  if s.dram.retiring.isNone then s
  else
    let n := s.dram.copied + 6 + (Config.freeValue s.fresh).toNat
    { s with dram := { s.dram with copied := min n s.dram.toCopy }, fresh := s.fresh + 1 }

/-- CHANNEL_RETIRE (10 R357, R358): a secure register (R362). -/
def execChannelRetire (w : Writer) (v : W64) (s : State) : Out := .next (if w.secure then s.retireWrite v else s)

/-- CHANNEL_RETIRE_DONE (10 R358): the words of the channel that could not be read are POISON, logged with SRC = 3. -/
def execChannelRetireDone (unread : List Addr) (s : State) : Out :=
  match s.dram.retiring with
  | none => .next s
  | some ch =>
    let mine := (unread.map BitVec.toNat).filter (fun a => s.region a == .dram && channelOf a == ch)
    let s1 := mine.foldl (fun s a =>
      let s1 := s.logError ch 3 15 a none
      { s1 with mem := s1.mem.setWord (a / 16) poisonWord }) s
    let mib := dramGib s.dram.cfg * 3 / 4 * 1024
    let s2 := ((s1.setRf Key.memRetire 63 62 2).setRf Key.memRetire 31 16 mib).raise 393 0
    .next { s2 with dram := { s2.dram with retiring := none, retired := some ch } }

/-- MEM_REPORT_SEND (01 R25, 10 R360): the corrections since the last report go onto the supervision bus, where each uncorrectable error
already is, and start anew. -/
def execMemReportSend (channel : Nat) (s : State) : Out :=
  if 4 ≤ channel then .fault .noSuchUnit
  else
    let n := tget 0 s.dram.unsentCorr channel
    .next ({ s with dram := { s.dram with unsentCorr := tdel s.dram.unsentCorr channel } }.toBadger channel (fun r => { r with corr := r.corr + n }))

/-! ## The pages of the memory controllers as software sees them (10 R362) -/

/-- A write of a register whose effect is more than its table's. -/
def State.memWrite (s : State) (k : Nat) (v : W64) : Option State := if k = Key.memRetire then some (s.retireWrite v) else none

/-- The live fields of a register: high bit, low bit, value. -/
def State.memView (s : State) (k : Nat) : List (Nat × Nat × Nat) :=
  let d := s.dram
  if k = Key.memInit then
    [(63, 63, b2n d.complete), (55, 48, d.bootsz), (44, 40, d.promo.length), (20, 0, d.nextChunk)]
  else if k = Key.memRetire ∧ d.retiring.isSome then
    [(31, 16, d.copied * 64 / 2 ^ 20)]
  else if 0x100000 ≤ k ∧ k < 0x140000 ∧ k % 0x10000 = 0 then
    let ch := k / 0x10000 % 16
    (24, 24, b2n d.reserve) :: if d.up then
      [(23, 16, dramGib d.cfg), (9, 8, d.cfg.speed.toNat), (5, 4, d.cfg.dens.toNat),
       (2, 2, b2n d.cfg.width8), (1, 1, b2n d.cfg.twoRanks), (0, 0, b2n (d.retired == some ch))]
    else []
  else []

end Sys2Proof.Machine
end

