-- ==== Sys2Proof/WellFormed.lean ====
section
/-! DEFINITION. Commands that name only units that the part has (01 R8, R10): every other command cannot be sent, and the machine faults on
it. -/

namespace Sys2Proof

/-- The unit of a DMA agent exists (01 R10). -/
def DmaAgent.unitOk : DmaAgent → Bool
  | .rinolink p => decide (p < 8)
  | .tsn p => decide (p < 6)
  | .crypto q => decide (q < 8)
  | .pcie => true
  | .hse => true
  | .hseCheckpoint => true
  | .pairLink => true
  | .latch => true

/-- The requester of a mesh request exists. -/
def Requester.unitOk : Requester → Bool
  | .thread t => decide (t < 768)
  | .walk core _ => decide (core < 48)
  | .dma agent _ => agent.unitOk

/-- An entry of the timeout hierarchy, and a unit that has a LATE counter for it (07 R258, R260). -/
def lateUnit (entry inst : Nat) : Bool :=
  match entry with
  | 1 => decide (inst < 4)
  | 2 => decide (inst < 24)
  | 3 => decide (inst < 8)
  | 4 => decide (inst < 1)
  | 5 => decide (inst < 1)
  | 6 => decide (inst < 24)
  | 7 => decide (inst < 1)
  | 8 => decide (inst < 768)
  | 9 => decide (inst < 48)
  | 10 => decide (inst < 1)
  | _ => false

/-- The thread, or the slice, of a write of a cache control register exists. -/
def RegCmd.unitOk : RegCmd → Bool
  | .sys t _ => decide (t < 768)
  | .mmio _ inst _ => decide (inst < 12)

/-- The thread of a debug access exists. -/
def DebugOp.unitOk : DebugOp → Bool
  | .stop _ t => decide (t < 768)
  | .start _ t _ _ => decide (t < 768)
  | .readSys _ t _ => decide (t < 768)
  | .writeSys _ t _ _ => decide (t < 768)
  | .readMem _ _ => true
  | .writeMem _ _ _ => true

/-- The command is well formed: every unit that it names exists. -/
def Instr.wf : Instr → Bool
  | .add t _ => decide (t < 768)
  | .sub t _ => decide (t < 768)
  | .adc t _ => decide (t < 768)
  | .sbc t _ => decide (t < 768)
  | .neg t _ => decide (t < 768)
  | .abs t _ => decide (t < 768)
  | .mul t _ => decide (t < 768)
  | .mulh t _ => decide (t < 768)
  | .mac t _ => decide (t < 768)
  | .div t _ => decide (t < 768)
  | .rem t _ => decide (t < 768)
  | .min t _ => decide (t < 768)
  | .max t _ => decide (t < 768)
  | .cmp t _ => decide (t < 768)
  | .fxadd t _ => decide (t < 768)
  | .fxsub t _ => decide (t < 768)
  | .fxneg t _ => decide (t < 768)
  | .fxabs t _ => decide (t < 768)
  | .fxmul t _ => decide (t < 768)
  | .fxmac t _ => decide (t < 768)
  | .fxshl t _ => decide (t < 768)
  | .fxshr t _ => decide (t < 768)
  | .fxmin t _ => decide (t < 768)
  | .fxmax t _ => decide (t < 768)
  | .fxcmp t _ => decide (t < 768)
  | .fadd t _ => decide (t < 768)
  | .fsub t _ => decide (t < 768)
  | .fmul t _ => decide (t < 768)
  | .fdiv t _ => decide (t < 768)
  | .fsqrt t _ => decide (t < 768)
  | .fma t _ => decide (t < 768)
  | .fmin t _ => decide (t < 768)
  | .fmax t _ => decide (t < 768)
  | .fabs t _ => decide (t < 768)
  | .fneg t _ => decide (t < 768)
  | .fcmpeq t _ => decide (t < 768)
  | .fcmplt t _ => decide (t < 768)
  | .fcmple t _ => decide (t < 768)
  | .fcmpun t _ => decide (t < 768)
  | .and t _ => decide (t < 768)
  | .or t _ => decide (t < 768)
  | .xor t _ => decide (t < 768)
  | .andn t _ => decide (t < 768)
  | .not t _ => decide (t < 768)
  | .shl t _ => decide (t < 768)
  | .shr t _ => decide (t < 768)
  | .sar t _ => decide (t < 768)
  | .rol t _ => decide (t < 768)
  | .ror t _ => decide (t < 768)
  | .popc t _ => decide (t < 768)
  | .clz t _ => decide (t < 768)
  | .padd t _ => decide (t < 768)
  | .psub t _ => decide (t < 768)
  | .palign t _ => decide (t < 768)
  | .cvtIf t _ => decide (t < 768)
  | .cvtFi t _ => decide (t < 768)
  | .cvtXf t _ => decide (t < 768)
  | .cvtFx t _ => decide (t < 768)
  | .cvtSd t _ => decide (t < 768)
  | .cvtDs t _ => decide (t < 768)
  | .asptr t _ => decide (t < 768)
  | .ascode t _ => decide (t < 768)
  | .asintP t _ => decide (t < 768)
  | .asintX t _ => decide (t < 768)
  | .asfix t _ => decide (t < 768)
  | .seal t _ => decide (t < 768)
  | .unseal t _ => decide (t < 768)
  | .mov t _ => decide (t < 768)
  | .tagr t _ => decide (t < 768)
  | .tagset t _ => decide (t < 768)
  | .ttst t _ => decide (t < 768)
  | .bmov t _ => decide (t < 768)
  | .bfill t _ => decide (t < 768)
  | .tscan t _ => decide (t < 768)
  | .compactAdd t _ => decide (t < 768)
  | .compactSub t _ => decide (t < 768)
  | .compactAdc t _ => decide (t < 768)
  | .compactSbc t _ => decide (t < 768)
  | .compactAnd t _ => decide (t < 768)
  | .compactOr t _ => decide (t < 768)
  | .compactXor t _ => decide (t < 768)
  | .compactShl t _ => decide (t < 768)
  | .compactShr t _ => decide (t < 768)
  | .compactSar t _ => decide (t < 768)
  | .compactMul t _ => decide (t < 768)
  | .compactMulh t _ => decide (t < 768)
  | .compactDiv t _ => decide (t < 768)
  | .compactRem t _ => decide (t < 768)
  | .compactCmp t _ => decide (t < 768)
  | .compactMov t _ => decide (t < 768)
  | .compactNot t _ => decide (t < 768)
  | .compactNeg t _ => decide (t < 768)
  | .compactLd t _ => decide (t < 768)
  | .compactSt t _ => decide (t < 768)
  | .br t _ => decide (t < 768)
  | .call t _ => decide (t < 768)
  | .ret t _ => decide (t < 768)
  | .hinge t _ => decide (t < 768)
  | .hingeWindowWrite t => decide (t < 768)
  | .waitd t _ => decide (t < 768)
  | .park t _ => decide (t < 768)
  | .put t _ => decide (t < 768)
  | .take t _ => decide (t < 768)
  | .aswp t _ => decide (t < 768)
  | .acas t _ => decide (t < 768)
  | .aadd t _ => decide (t < 768)
  | .aand t _ => decide (t < 768)
  | .aor t _ => decide (t < 768)
  | .axor t _ => decide (t < 768)
  | .fenceSl t _ => decide (t < 768)
  | .fenceIo t _ => decide (t < 768)
  | .sysrd t _ => decide (t < 768)
  | .syswr t _ => decide (t < 768)
  | .thworldWrite t _ => decide (t < 768)
  | .thctlWrite t _ => decide (t < 768)
  | .thlattolWrite t _ => decide (t < 768)
  | .corectlWrite t _ => decide (t < 768)
  | .watchdogKick t _ => decide (t < 768)
  | .wdctlWrite t _ => decide (t < 768)
  | .tlbi t _ => decide (t < 768)
  | .tlbiRemote core _ => decide (core < 48)
  | .syncT t _ => decide (t < 768)
  | .thstart t _ => decide (t < 768)
  | .thstop t _ => decide (t < 768)
  | .pflush t _ => decide (t < 768)
  | .pbar t _ => decide (t < 768)
  | .svc t _ => decide (t < 768)
  | .hvc t _ => decide (t < 768)
  | .tret t _ => decide (t < 768)
  | .hreply t _ => decide (t < 768)
  | .mmioReadAnswer t => decide (t < 768)
  | .mmioWriteAnswer t => decide (t < 768)
  | .denDelivery core => decide (core < 48)
  | .wakeDelivery core => decide (core < 48)
  | .displacingInterrupt core => decide (core < 48)
  | .softwareEvent _ _ => true
  | .watchdogExpiry t => decide (t < 768)
  | .meshDeadlineExpiry r => r.unitOk
  | .lateResponse entry inst => lateUnit entry inst
  | .walkReadResponse core _ => decide (core < 48)
  | .tlblkLoad t _ => decide (t < 768)
  | .tlblkUnlock t _ => decide (t < 768)
  | .tlblkUnlockAll t _ => decide (t < 768)
  | .fetchLineArrival t _ _ => decide (t < 768)
  | .storeBufferDrain core => decide (core < 48)
  | .lineFill core _ _ _ => decide (core < 48)
  | .homeSliceRequest cluster _ _ way core _ => decide (cluster < 12) && decide (core < 4) && decide (way < 16)
  | .snoop cluster _ _ => decide (cluster < 12)
  | .evictionOffer cluster set way l3way => decide (cluster < 12) && decide (set < 2048) && decide (way < 16) && decide (l3way < 16)
  | .dmaRead agent _ => agent.unitOk
  | .dmaWrite agent _ _ _ => agent.unitOk
  | .l2lockWrite t _ => decide (t < 768)
  | .partitionWrite c => c.unitOk
  | .cacheDisable c => c.unitOk
  | .scratchConfig _ _ => true
  | .scratchConversionDone => true
  | .dramRead _ _ => true
  | .dramWrite _ _ _ => true
  | .dramCommandTimeout _ _ => true
  | .dramAlert _ => true
  | .scrubRead channel _ _ _ => decide (channel < 4)
  | .chunkInitComplete => true
  | .channelRetire _ _ => true
  | .channelRetireDone _ => true
  | .memReportSend channel => decide (channel < 4)
  | .tbNowRead => true
  | .tbRateWrite _ => true
  | .tbSlewWrite _ => true
  | .slewComplete => true
  | .tbStepWrite _ => true
  | .compareWrite n _ _ => decide (n < 32)
  | .compareFire n => decide (n < 32)
  | .decimationBoundary n _ => decide (n < 32)
  | .sdCfgWrite n _ => decide (n < 32)
  | .sdClockLoss n => decide (n < 32)
  | .sdStuck n _ => decide (n < 32)
  | .comparatorOverRange n _ => decide (n < 32)
  | .adcEnable _ => true
  | .adcCalibrationDone => true
  | .adcSwtrig _ => true
  | .adcSequenceStart => true
  | .adcSequenceEnd _ => true
  | .encoderEdge n _ _ => decide (n < 8)
  | .encoderIndex n => decide (n < 8)
  | .ssiFrameEnd n _ _ _ => decide (n < 8)
  | .resolverPeriodEnd n _ _ _ => decide (n < 4)
  | .gateStartWrite u _ => decide (u < 16)
  | .gateRunStart u => decide (u < 16)
  | .gateStop u => decide (u < 16)
  | .gatePeriodBoundary u => decide (u < 16)
  | .gatePeriodCentre u => decide (u < 16)
  | .patternStore u _ => decide (u < 16)
  | .patternApply u _ => decide (u < 16)
  | .edgeCommit u => decide (u < 16)
  | .inhibitPinAssert => true
  | .gateFaultPin u => decide (u < 16)
  | .softwareInhibit => true
  | .unitTrip _ => true
  | .unitTripClear _ => true
  | .pinInhibitClear => true
  | .softwareInhibitClear => true
  | .inhibitLock _ _ => true
  | .rinolinkLinkUp p => decide (p < 8)
  | .rinolinkLinkDown p => decide (p < 8)
  | .rinolinkCycleStart p cls => decide (p < 8) && decide (cls < 3)
  | .inFrame p _ => decide (p < 8)
  | .ack p _ => decide (p < 8)
  | .rinolinkDeadlineMiss p cls _ => decide (p < 8) && decide (cls < 3)
  | .outputGo p _ => decide (p < 8)
  | .outputOffsetExpiry p cls => decide (p < 8) && decide (cls < 3)
  | .loss p _ => decide (p < 8)
  | .srq p _ => decide (p < 8)
  | .sraReady p _ => decide (p < 8)
  | .srFinal p _ => decide (p < 8)
  | .discR p _ _ => decide (p < 8)
  | .discTimeout p => decide (p < 8)
  | .enumD p _ => decide (p < 8)
  | .enumTimeout p => decide (p < 8)
  | .dirrep p _ => decide (p < 8)
  | .autoStart p => decide (p < 8)
  | .rediscovery p => decide (p < 8)
  | .token p _ => decide (p < 8)
  | .tsnTransmit p c => decide (p < 6) && decide (c < 8)
  | .tsnRxFrame p _ => decide (p < 6)
  | .tsnLinkChange p _ => decide (p < 6)
  | .gclCycleStart p => decide (p < 6)
  | .gclEntryChange p => decide (p < 6)
  | .pcieCompletion n _ _ => decide (n < 768)
  | .pcieCompletionTimeout n => decide (n < 768)
  | .pcieInboundRequest _ => true
  | .pcieLinkChange _ _ _ => true
  | .pcieErrorMessage => true
  | .hseSlotTake q => decide (q < 8)
  | .hseFlushTimer tier => decide (tier < 4)
  | .hseUnitAppend tier => decide (tier < 4)
  | .hseAppendComplete tier _ => decide (tier < 4)
  | .hseCommandTimeout tier => decide (tier < 4)
  | .hseCheckpoint tier => decide (tier < 4)
  | .checkpointDone _ _ => true
  | .hseRead _ => true
  | .driveRetire n => decide (n < 16)
  | .driveAttach n _ => decide (n < 16)
  | .pairLinkUp => true
  | .hello _ _ _ => true
  | .helloSend => true
  | .joinTimeout => true
  | .heartbeat _ _ _ _ _ => true
  | .pairHeartbeatSend => true
  | .tokenSend => true
  | .mirror _ _ _ => true
  | .framecopy _ p _ _ => decide (p < 8)
  | .portrec _ p _ => decide (p < 8)
  | .copy _ _ _ => true
  | .repairq _ => true
  | .repaira _ _ => true
  | .repairTimeout _ => true
  | .giveup _ => true
  | .partnerSuspect => true
  | .lossConfirm => true
  | .standbyReady => true
  | .sendQueueStall => true
  | .gcmEnc q => decide (q < 8)
  | .gcmDec q => decide (q < 8)
  | .ctr q => decide (q < 8)
  | .cmac q => decide (q < 8)
  | .sha256 q => decide (q < 8)
  | .sha384 q => decide (q < 8)
  | .sha512 q => decide (q < 8)
  | .sha3256 q => decide (q < 8)
  | .sha3384 q => decide (q < 8)
  | .sha3512 q => decide (q < 8)
  | .ecdsaSign q => decide (q < 8)
  | .ecdsaVerify q => decide (q < 8)
  | .ecdsaKeygen q => decide (q < 8)
  | .mldsaSign q => decide (q < 8)
  | .mldsaVerify q => decide (q < 8)
  | .mldsaKeygen q => decide (q < 8)
  | .mlkemKeygen q => decide (q < 8)
  | .mlkemEncaps q => decide (q < 8)
  | .mlkemDecaps q => decide (q < 8)
  | .keyload q => decide (q < 8)
  | .keyclr q => decide (q < 8)
  | .trng q => decide (q < 8)
  | .cryptoUnitEnd => true
  | .cryptoUnitTimeout => true
  | .cryKworldWrite _ _ => true
  | .cryKnresWrite _ slot _ => decide (slot < 64)
  | .secureWindowWrite _ n _ _ => decide (n < 8)
  | .secureWindowEvictDone => true
  | .debugPortAccess a => a.unitOk
  | .jtagBypass => true
  | .jtagIdcode => true
  | .jtagSamplePreload => true
  | .jtagExtest => true
  | .jtagClamp => true
  | .jtagHighz => true
  | .pwrgoodRise => true
  | .pwrgoodFall => true
  | .rstNAssert _ => true
  | .rstNRelease _ => true
  | .brownOut => true
  | .brownOutEnd => true
  | .deviceResetExit => true
  | .imageLoadComplete _ => true
  | .imageCheckComplete => true
  | .startupBistComplete _ => true
  | .dramTrainingComplete _ _ => true
  | .coreRelease _ _ => true
  | .recoveryBarWrite _ _ _ => true
  | .recoveryCheck => true
  | .mailboxSubmit m => decide (m < 9)
  | .mailboxTimeout m => decide (m < 9)
  | .longCommandComplete m => decide (m < 9)
  | .getInfo m => decide (m < 9)
  | .tlmRead m => decide (m < 9)
  | .evlogRead m => decide (m < 9)
  | .clkSet m => decide (m < 9)
  | .coreFence m => decide (m < 9)
  | .cacheReinit m => decide (m < 9)
  | .deviceReset m => decide (m < 9)
  | .settDeviceResetStart => true
  | .shutdown m _ => decide (m < 9)
  | .bistRun m _ => decide (m < 9)
  | .keyUpdate m => decide (m < 9)
  | .ctrAdvance m => decide (m < 9)
  | .lcAdvance m => decide (m < 9)
  | .debugChallenge m => decide (m < 9)
  | .debugUnlock m => decide (m < 9)
  | .stageWrite m => decide (m < 9)
  | .imgWrite m => decide (m < 9)
  | .imgCheck m => decide (m < 9)
  | .c1Entry core => decide (core < 48)
  | .c2Entry core => decide (core < 48)
  | .c3Entry cluster => decide (cluster < 12)
  | .clusterWake _ _ => true
  | .c4Entry => true
  | .packageWake _ => true
  | .toleranceWrite cluster _ _ => (match cluster with | none => true | some k => decide (k < 12))
  | .thermalSample _ => true
  | .settHeartbeat => true
  | .coreHeartbeat core => decide (core < 48)
  | .lockstepMismatch => true
  | .clockMonitorFail clock => decide (clock < 16)
  | .settHeartbeatTimeout => true
  | .coreHeartbeatTimeout core => decide (core < 48)
  | .cacheErrorReport _ => true
  | .memErrorReport channel _ => decide (channel < 4)
  | .memReportMissing channel => decide (channel < 4)
  | .overTemperatureReport _ => true
  | .voltageSample _ => true
  | .badgerRelease _ _ => true
  | .channelPortWrite n _ _ _ => decide (n < 32)
  | .channelWindowExpiry n => decide (n < 32)
  | .channelPeriodExpiry n => decide (n < 32)
  | .channelFailClear n => decide (n < 32)
  | .bdgChtidWrite _ n _ => decide (n < 32)
  | .crtSlotStart => true
  | .crtTestStart => true
  | .crtTestEnd _ => true
  | .crtLapse core => decide (core < 48)
  | .wayRetire _ slice _ => decide (slice < 12)
  | .wayRetireDone slice => decide (slice < 12)
  | .registerWrite _ _ _ => true
  | .undefinedOpcode t => decide (t < 768)
  | .instructionFetchFault t _ => decide (t < 768)
  | .gateEdge u c _ => decide (u < 16) && decide (c < 6)
  | .inhibitPinRelease => true
  | .gateFaultPinRelease u => decide (u < 16)
  | .comparatorInRange n _ => decide (n < 32)
  | .pairLinkDown => true
  | .pairFrameCrcError => true
  | .rinolinkFrameDiscard p => decide (p < 8)
  | .vddAonApply => true
  | .vddAonLoss => true

end Sys2Proof
end

