-- ==== Sys2Proof/Machine/Dma.lean ====
section
/-! DEFINITION. Accesses of DMA engines to tagged memory at the home slices (01 R16, R28; 09 R310; 10 R347, R353; 14 R473, R475;
15 R490, R491), and the rows of a single DMA read and write. -/

namespace Sys2Proof

/-- The data that a destination without tags receives: UNINIT words as 0 (10 R348). -/
def TWord.untagged (w : TWord) : Data := if w.tag = Tag.uninit then 0 else w.data

/-- The world of a DMA agent (15 R490); crypto queues 4 to 7 are secure. -/
def DmaAgent.secure : DmaAgent → Bool
  | .hseCheckpoint => true
  | .pairLink => true
  | .latch => true
  | .crypto q => decide (4 ≤ q)
  | _ => false

/-- Whether an agent's writes to a mirrored region produce records and a standby refuses them (14 R473, R475). -/
def DmaAgent.mirrored : DmaAgent → Bool
  | .rinolink _ => false
  | .pairLink => false
  | _ => true

/-- Whether an agent keeps the tags of the words it moves: TSN and PCIe write BITS (01 R28). -/
def DmaAgent.keepsTag : DmaAgent → Bool
  | .tsn _ => false
  | .pcie => false
  | _ => true

end Sys2Proof

namespace Sys2Proof.Machine

/-! ## One access (01 R16, R22; 07 R258; 09 R310; 10 R347, R353) -/

/-- An access of an agent reaches the address in tagged memory, with the mesh powered; otherwise it receives an error response (01 R16,
R22; 15 R491). -/
def State.dmaOk (s : State) (agent : DmaAgent) (pa : Nat) : Bool :=
  !s.sett.c4 && (s.region pa).tagged && s.reaches agent.secure pa

/-- The address of an access that was refused, that passed its deadline or that met POISON is logged (01 R16; 07 R258; 10 R348). -/
def State.dmaLog (s : State) (agent : DmaAgent) (pa : Nat) : State :=
  { s with ioLog := s.ioLog ++ [(agent, BitVec.ofNat 48 pa)], dmaLate := s.dmaLate.erase (agent, pa / 16) }

/-- The word is needed: a chunk not yet initialised makes the command wait (10 R353). -/
def State.dmaNeed (s : State) (pa : Nat) : State :=
  if s.chunkReady pa || s.dmaWait.isSome then s else { s with dmaWait := some pa }

/-- A DMA read of a line leaves an L2 that held it in M or E with a shared copy, a dirty one written to its L3 too (09 R307, R310). -/
def State.dmaSnoop (s : State) (pa : Nat) : State :=
  (s.clusters.map (·.1)).foldl (fun s k =>
    match (s.cluster k).l2Find (lineOf pa) with
    | some (_, l) => if l.st = .m || l.st = .e then s.snoopRead k (lineOf pa) else s
    | none => s) s

/-- The aligned words of a world that n bytes at address a touch, as they read now; none where one gives an error response (01 R16,
R22). -/
def State.worldSpan (s : State) (sec : Bool) (a n : Nat) : Option (List TWord) :=
  if n = 0 then some []
  else ((List.range ((a + n - 1) / 16 + 1 - a / 16)).map (fun i => a / 16 * 16 + 16 * i)).mapM (fun b =>
    if !s.sett.c4 && (s.region b).tagged && s.reaches sec b then some (s.visWord b) else none)

/-- The first address of a span whose chunk is not yet initialised (10 R353). -/
def State.spanWaits (s : State) (a n : Nat) : Option Nat :=
  if n = 0 then none
  else ((List.range (chunkOf (a + n - 1) + 1 - chunkOf a)).map (fun i => if i = 0 then a else (chunkOf a + i) * 0x40000)).find?
    (fun b => !(s.chunkReady b))

/-- The lines of a span are read (09 R310). -/
def State.spanSnoop (s : State) (a n : Nat) : State :=
  if n = 0 then s else (List.range (lineOf (a + n - 1) + 1 - lineOf a)).foldl (fun s i => s.dmaSnoop ((lineOf a + i) * 64)) s

/-- What the agent would read: the newest visible value (09 R310); none for an error response. -/
def State.dmaGet (s : State) (agent : DmaAgent) (pa : Nat) : Option TWord :=
  if s.dmaOk agent pa then some (s.visWord pa) else none

/-- A DMA read of a word: none, and the address logged, for an error response or a deadline that has passed. -/
def State.dmaRead (s : State) (agent : DmaAgent) (pa : Nat) : Option TWord × State :=
  if s.dmaOk agent pa && !(s.dmaLate.contains (agent, pa / 16)) then (some (s.visWord pa), (s.dmaNeed pa).dmaSnoop pa)
  else (none, s.dmaLog agent pa)

/-- DMA reads of n consecutive words, to the first that fails. -/
def State.dmaReads (s : State) (agent : DmaAgent) (pa : Nat) : Nat → Option (List TWord) × State
  | 0 => (some [], s)
  | n + 1 =>
    match s.dmaRead agent pa with
    | (none, s1) => (none, s1)
    | (some w, s1) => let r := s1.dmaReads agent (pa + 16) n; (r.1.map (w :: ·), r.2)

/-- The aligned words that n bytes at address a touch are read. -/
def State.dmaSpan (s : State) (agent : DmaAgent) (a n : Nat) : Option (List TWord) × State :=
  if n = 0 then (some [], s) else s.dmaReads agent (a / 16 * 16) ((a + n - 1) / 16 + 1 - a / 16)

/-- A transfer to a destination without tags meets POISON: the address of its first such word, n words from a (10 R348). -/
def firstPoison (a : Nat) (ws : List TWord) : Option Nat :=
  ((ws.zipIdx).find? (fun e => e.1.tag == Tag.poison)).map (fun e => a / 16 * 16 + 16 * e.2)

/-- A DMA write of part of a word, mirrored unless a Rinolink port or the pair link makes it (14 R473); none for an error response, a
standby's refusal among them (R475), or a deadline that has passed. -/
def State.dmaPut (s : State) (agent : DmaAgent) (pa : Nat) (mask : BitVec 16) (w : TWord) : Option State :=
  if !(s.dmaOk agent pa) || (agent.mirrored && s.standbyRefuses pa) || s.dmaLate.contains (agent, pa / 16) then none
  else
    let s1 := s.dmaNeed pa
    some (if agent.mirrored then s1.homeMerge pa mask w.data w.tag else s1.homeWrite pa mask w.data w.tag)

/-- A whole word is written, or its address is logged. -/
def State.dmaSet (s : State) (agent : DmaAgent) (pa : Nat) (w : TWord) : State :=
  (s.dmaPut agent pa 0xFFFF#16 w).getD (s.dmaLog agent pa)

/-- Consecutive words are written, to the first that fails: whether all were. -/
def State.dmaWrites (s : State) (agent : DmaAgent) (pa : Nat) : List TWord → Bool × State
  | [] => (true, s)
  | w :: r =>
    match s.dmaPut agent pa 0xFFFF#16 w with
    | some s1 => s1.dmaWrites agent (pa + 16) r
    | none => (false, s.dmaLog agent pa)

def State.dmaSetAll (s : State) (agent : DmaAgent) (pa : Nat) (ws : List TWord) : State := (s.dmaWrites agent pa ws).2

/-- The records that a command has offered are accepted: the send queue had room when the first came (14 R473, R474, log 95). -/
def State.accepts (s s1 : State) : Bool := s1.pair.sendSeq == s.pair.sendSeq || decide (s.pair.used + 2 ≤ 512)

/-- A command whose access must wait for a chunk has no other effect than to promote it, and one whose records the send queue has no
room for has none; both are made again (10 R353, 14 R474). -/
def regCmd (f : State → Out) (s : State) : Out :=
  match f s with
  | .next s1 =>
    match s1.dmaWait with
    | some a => if s.dmaWait.isNone then .next { s with dram := s.dram.promote a } else .next (if s.accepts s1 then s1 else s)
    | none => .next (if s.accepts s1 then s1 else s)
  | o => o

/-- A command of a unit that reads or writes memory. -/
def dmaCmd (f : State → Out) (s : State) : Out := regCmd f { s with dmaWait := none }

/-! ## The rows of a single access -/

/-- DMA_READ (01 R16; 07 R258; 09 R310; 10 R353): the data goes to the agent. -/
def execDmaRead (agent : DmaAgent) (pa : Addr) (s : State) : Out :=
  if !agent.unitOk then .fault .noSuchUnit
  else dmaCmd (fun s => .next (s.dmaRead agent pa.toNat).2) s

/-- DMA_WRITE (01 R16; 07 R258; 09 R310; 10 R347, R353; 14 R473 to R475): cached copies go, and the word is visible. -/
def execDmaWrite (agent : DmaAgent) (pa : Addr) (w : TWord) (mask : BitVec 16) (s : State) : Out :=
  let a := pa.toNat
  if !agent.unitOk then .fault .noSuchUnit
  else
    let v : TWord := { data := w.data, tag := if agent.keepsTag then w.tag else Tag.bits }
    dmaCmd (fun s => .next ((s.dmaPut agent a mask v).getD (s.dmaLog agent a))) s

end Sys2Proof.Machine
end

