-- ==== Sys2Proof/Machine/PlantNet.lean ====
section
/-! DEFINITION. The TSN Ethernet ports and the PCIe root port (13 R439 to R454). -/

namespace Sys2Proof.Machine

/-! ## Bytes and words -/

/-- The sixteen bytes of a word, lowest address first (02 R50). -/
def wordBytes (d : Data) : List Byte := (List.range 16).map (fun i => BitVec.ofNat 8 (bits d (8 * i + 7) (8 * i)))

/-- The word that up to sixteen bytes give, the missing ones 0. -/
def bytesWord (bs : List Byte) : Data :=
  BitVec.ofNat 128 ((List.range 16).foldl (fun a i => a + (bs.getD i 0).toNat * 256 ^ i) 0)

/-- Bytes packed into whole words, 0 after the last byte. -/
def packWords : Nat → List Byte → List Data
  | 0, _ => []
  | n + 1, bs => bytesWord (bs.take 16) :: packWords n (bs.drop 16)

def packBytes (bs : List Byte) : List Data := packWords ((bs.length + 15) / 16) bs

/-- SHA-384, by the number that 15 R502 gives the operation. -/
def sha384 (bs : List Byte) : List Byte := Config.digest 0x09 bs

/-- The step of boot in progress (16 R550). -/
def State.phase (s : State) : Nat := s.rf Key.sysBootstat 59 56

/-- The recovery wait holds (16 R541). -/
def State.recoveryWait (s : State) : Bool := s.phase == 0xB && !s.aon.inReset

/-! ## TSN ports (13 R439 to R448) -/

def State.tsnPort (s : State) (p : Nat) : TsnPort := tget {} s.tsn p

def State.setTsn (s : State) (p : Nat) (x : TsnPort) : State := { s with tsn := tset {} s.tsn p x }

def State.modTsn (s : State) (p : Nat) (f : TsnPort → TsnPort) : State := s.setTsn p (f (s.tsnPort p))

/-- The source of a port's event e (13 R443). -/
def State.tsnEvent (s : State) (p e : Nat) (d : Data) : State := s.raise (264 + 8 * p + e) d

/-- The address and number of entries of a ring (13 R448). -/
def State.ringBase (s : State) (k : Nat) : Nat := s.rf k 47 5 * 32
def State.ringSize (s : State) (k : Nat) : Nat := 2 ^ s.rf k 63 60

/-- The gates that are open: all of them while no gate control list runs (13 R444). -/
def State.gatesOpen (s : State) (p : Nat) : BitVec 8 :=
  match (s.tsnPort p).gcl with
  | none => 0xFF
  | some i => if s.rf (Key.tsnGcl p i) 63 32 = 0 then 0 else BitVec.ofNat 8 (s.rf (Key.tsnGcl p i) 7 0)

/-- The address of the next descriptor of a transmit ring. -/
def State.txDesc (s : State) (p c : Nat) : Nat :=
  s.ringBase (Key.tsnTxring p c) + 32 * (tget 0 (s.tsnPort p).tx c % s.ringSize (Key.tsnTxring p c))

/-- The next descriptor of class c is FULL. -/
def State.txFull (s : State) (p c : Nat) : Bool :=
  match s.dmaGet (.tsn p) (s.txDesc p c) with | some w => w.tag == Tag.full | none => false

/-- How long entry i of the gate control list holds, in ns: 1 µs where INTERVAL is 0 (13 R444, R448). -/
def State.gclHolds (s : State) (p i : Nat) : Nat :=
  if s.rf (Key.tsnGcl p i) 63 32 = 0 then 1000 else s.rf (Key.tsnGcl p i) 63 32

/-- Entry i opens class c (13 R444, R448). -/
def State.gclOpens (s : State) (p i c : Nat) : Bool :=
  s.rf (Key.tsnGcl p i) 63 32 != 0 && (s.rf (Key.tsnGcl p i) 7 0).testBit c

/-- The NOW at which the gate of class c, open in entry i of the running cycle, closes; none where no entry closes it (13 R444, log 81). -/
def State.gateCloses (s : State) (p c i : Nat) : Option Nat :=
  let len := s.rf (Key.tsnGclctl p) 8 0
  let start := (s.reg (Key.tsnGclbase p)).toNat
  let total (l : List Nat) : Nat := (l.map (s.gclHolds p)).sum
  let open' := ((List.range len).map (fun j => (i + 1 + j) % len)).takeWhile (fun j => s.gclOpens p j c)
  if open'.length = len then none
  else
    let cycle := total (List.range len)
    some (start + (s.nowNs - start) / cycle * cycle + total (List.range (i + 1)) + total open')

/-- The next frame of class c ends, FCS and idle included, before its gate closes: 8 bytes before the frame and 16 after it, 32 more with
MACsec, at 10 Gb/s on ports 0 and 1 and 1 Gb/s on the others (13 R439, R444, log 81). A descriptor with a bad LEN sends nothing. -/
def State.txFits (s : State) (p c : Nat) : Bool :=
  match (s.tsnPort p).gcl, s.dmaGet (.tsn p) (s.txDesc p c) with
  | some i, some w =>
    let len := bits w.data 61 48
    match s.gateCloses p c i with
    | some t => decide (len < 60 ∨ 9212 < len) ||
        decide (10 * s.nowNs + (if p < 2 then 8 else 80) * (len + 24 + 32 * bits w.data 63 63) < 10 * t)
    | none => true
  | _, _ => true

/-- Class c has an open gate and a FULL descriptor whose frame ends before the gate closes (13 R444). -/
def State.txReady (s : State) (p c : Nat) : Bool := bit (s.gatesOpen p) c && s.txFull p c && s.txFits p c

/-- The largest PN of an SA (13 R447). -/
def State.pnMax (s : State) (p a : Nat) : Nat := if s.rb (Key.saCfg p a) 61 then 2 ^ 64 - 1 else 2 ^ 32 - 1

/-- The transmit SA is unusable: not enabled, or a receive SA (13 R440). -/
def State.saUsable (s : State) (p a : Nat) : Bool := s.rb (Key.saCfg p a) 63 && s.rb (Key.saCfg p a) 62

/-- The transmit SA has no further PN, until a new key (13 R447). -/
def State.saSpent (s : State) (p a : Nat) : Bool :=
  (s.tsnPort p).exhausted.contains a || decide (s.pnMax p a < (s.reg (Key.saPn p a)).toNat)

/-- A transmit SA is marked as spent. -/
def State.spend (s : State) (p a : Nat) : State :=
  s.modTsn p (fun x => { x with exhausted := if x.exhausted.contains a then x.exhausted else x.exhausted ++ [a] })

/-- A frame was sent with an SA: its PN advances; an SA whose next PN would exceed the largest is spent (13 R447). -/
def State.pnAdvance (s : State) (p a : Nat) : State :=
  let pn := (s.reg (Key.saPn p a)).toNat
  let s1 := if pn = 2 ^ 64 - 1 then s else s.setReg (Key.saPn p a) (s.reg (Key.saPn p a) + 1)
  if s.pnMax p a ≤ pn then s1.spend p a else s1

/-- A transmit ring goes to its next descriptor; one that was stopped is passed over (01 R16, log 67). -/
def State.txNext (s : State) (p c : Nat) : State :=
  s.modTsn p (fun x => { x with tx := tset 0 x.tx c ((tget 0 x.tx c + 1) % s.ringSize (Key.tsnTxring p c)) })

/-- A transmit descriptor completes: word 1, then word 0 with tag EMPTY; the event names every class that completed since the last one was
delivered (13 R441, R443). -/
def State.txComplete (s : State) (p c : Nat) (w0 : TWord) (time status : Nat) : State :=
  let a := s.txDesc p c
  let w1 : TWord := { data := BitVec.ofNat 128 (time + status * 2 ^ 64), tag := Tag.bits }
  let s1 := (s.dmaSet (.tsn p) (a + 16) w1).dmaSet (.tsn p) a { w0 with tag := Tag.empty }
  let s2 := s1.txNext p c
  let s3 := if status = 0 then s2 else s2.count (Key.tsnTxdrop p) 31 0 1
  let told := (tfind s3.evPend (268 + 8 * p)).getD 0
  s3.tsnEvent p 4 (told ||| BitVec.ofNat 128 (2 ^ c))

/-- TSN_TRANSMIT (01 R16; 10 R348, R353; 13 R440, R441, R444, R447): of the open classes with a FULL descriptor the highest is sent. The
descriptor of an open class is read; one that gives an error response is stopped. -/
def execTsnTransmit (p c : Nat) (s : State) : Out :=
  if 6 ≤ p ∨ 8 ≤ c then .fault .noSuchUnit
  else dmaCmd (fun s =>
  if !(s.rb (Key.tsnCtl p) 63 && (s.tsnPort p).link && bit (s.gatesOpen p) c) then .next s
  else match s.dmaRead (.tsn p) (s.txDesc p c) with
    | (none, s) => .next (s.txNext p c)
    | (some w0, s) =>
      if !(s.txReady p c) || (List.range 8).any (fun d => decide (c < d) && s.txReady p d) then .next s else
      let len := bits w0.data 61 48
      let sa := bits w0.data 67 64
      let time := if bit w0.data 62 then s.nowNs else 0
      if len < 60 ∨ 9212 < len then .next (s.txComplete p c w0 time 3)
      else if bit w0.data 63 && !(s.saUsable p sa) then .next ((s.txComplete p c w0 time 2).tsnEvent p 6 2)
      else if bit w0.data 63 && s.saSpent p sa then .next (((s.spend p sa).txComplete p c w0 time 2).tsnEvent p 6 4)
      else match s.dmaSpan (.tsn p) (bits w0.data 47 0) len with
        | (none, s) => .next (s.txNext p c)
        | (some ws, s) =>
          match firstPoison (bits w0.data 47 0) ws with
          | some a => .next (((s.dmaLog (.tsn p) a).txComplete p c w0 time 1).tsnEvent p 6 1)
          | none =>
            let s1 := if bit w0.data 63 then s.pnAdvance p sa else s
            .next (s1.txComplete p c w0 time 0)) s

/-- The tag that a TAGSEL selects (13 R448, R454). -/
def tagSel (n : Nat) : Tag := if n = 1 then Tag.int else if n = 2 then Tag.full else Tag.bits

/-- The enabled receive SA that a frame's SCI and AN name. -/
def State.rxSa (s : State) (p : Nat) (sci : W64) (an : BitVec 2) : Option Nat :=
  (List.range 16).find? (fun a => s.rb (Key.saCfg p a) 63 && !(s.rb (Key.saCfg p a) 62) && s.reg (Key.saSci p a) == sci &&
    s.rf (Key.saCfg p a) 57 56 == an.toNat)

/-- Key and salt words of an SA (13 R446). -/
def State.saKey (s : State) (p a : Nat) : List W64 :=
  (List.range (if s.rb (Key.saCfg p a) 60 then 4 else 2)).map (fun k => tget 0 (s.tsnPort p).keys (8 * a + k))

def State.saSalt (s : State) (p a : Nat) : List W64 := (List.range 2).map (fun k => tget 0 (s.tsnPort p).keys (8 * a + 4 + k))

/-- The ICV that a receive SA gives the bytes of a frame with a PN (13 R439, R446). -/
def State.icvOf (s : State) (p a : Nat) (pn : W64) (bytes : List Byte) : Data :=
  Config.macsecIcv (s.rb (Key.saCfg p a) 60, s.rb (Key.saCfg p a) 61) (s.saKey p a) (s.saSalt p a)
    (BitVec.ofNat 32 (s.rf (Key.saSsci p a) 31 0), s.reg (Key.saSci p a), pn) bytes

/-- The bytes of a verified frame, deciphered (13 R439). -/
def State.decipher (s : State) (p a : Nat) (pn : W64) (bytes : List Byte) : List Byte :=
  bytes.zipIdx.map (fun (b : Byte × Nat) => b.1 ^^^ Config.macsecStream (s.rb (Key.saCfg p a) 60, s.rb (Key.saCfg p a) 61) (s.saKey p a)
    (s.saSalt p a) (BitVec.ofNat 32 (s.rf (Key.saSsci p a) 31 0), s.reg (Key.saSci p a), pn) b.2)

/-- What MACsec makes of a frame: dropped, or accepted with the SA that verified it and its PN (13 R446). -/
def State.macsec (s : State) (p : Nat) (f : EthFrame) : Option (Option (Nat × W64)) :=
  let unverified := if s.rb (Key.tsnCtl p) 60 then none else some none
  match f.sectag with
  | none => unverified
  | some (sci, an, pn, icv) =>
    match s.rxSa p sci an with
    | some a =>
      if icv == s.icvOf p a pn f.bytes && decide ((s.reg (Key.saPn p a)).toNat ≤ pn.toNat) then some (some (a, pn)) else unverified
    | none => unverified

/-- A receive ring goes to its next descriptor. -/
def State.rxNext (s : State) (p q : Nat) : State :=
  s.modTsn p (fun x => { x with rx := tset 0 x.rx q ((tget 0 x.rx q + 1) % s.ringSize (Key.tsnRxring p q)) })

/-- TSN_RX_FRAME (01 R16; 13 R439, R442, R443, R446): a frame of a size that the port does not support is dropped (log 97); a descriptor whose buffer refuses a word is stopped: it does not complete. -/
def execTsnRxFrame (p : Nat) (f : EthFrame) (s : State) : Out :=
  if 6 ≤ p then .fault .noSuchUnit
  else dmaCmd (fun s =>
  if !(s.rb (Key.tsnCtl p) 63 && (s.tsnPort p).link) then .next s
  else if f.bytes.length < 60 ∨ 9212 < f.bytes.length then .next s
  else if !f.fcsGood then .next (s.count (Key.tsnRxerr p) 31 0 1)
  else match s.macsec p f with
    | none => .next (s.count (Key.tsnRxerr p) 31 0 1)
    | some ver =>
      let q := match f.pcp with | none => 0 | some k => s.rf (Key.tsnRxmap p) (2 * k.toNat + 1) (2 * k.toNat)
      let ring := Key.tsnRxring p q
      let a := s.ringBase ring + 32 * (tget 0 (s.tsnPort p).rx q % s.ringSize ring)
      let s1 := match ver with | some (sa, pn) => s.setReg (Key.saPn p sa) (pn + 1) | none => s
      match s1.dmaRead (.tsn p) a with
      | (none, s1) => .next (((s1.count (Key.tsnRxnobuf p) 31 0 1).tsnEvent p 6 8).rxNext p q)
      | (some w0, s1) =>
        if w0.tag != Tag.empty then .next ((s1.count (Key.tsnRxnobuf p) 31 0 1).tsnEvent p 6 8)
        else
          let size := bits w0.data 61 48
          let bytes := match ver with | some (sa, pn) => s.decipher p sa pn f.bytes | none => f.bytes
          let ws := (packBytes (bytes.take size)).map (fun d => ({ data := d, tag := tagSel (s1.rf ring 59 58) } : TWord))
          let put := s1.dmaWrites (.tsn p) (bits w0.data 47 4 * 16) ws
          let s2 := put.2
          let status := if size < f.bytes.length then 1 else 0
          let v := s2.nowNs + f.bytes.length % 2 ^ 14 * 2 ^ 64 + status * 2 ^ 78 + b2n ver.isSome * 2 ^ 81 +
            (match f.pcp with | none => 0 | some k => k.toNat) * 2 ^ 82
          let s3 := (s2.dmaSet (.tsn p) (a + 16) { data := BitVec.ofNat 128 v, tag := Tag.bits }).dmaSet (.tsn p) a
            { w0 with tag := Tag.full }
          if put.1 then .next ((s3.rxNext p q).tsnEvent p q 0) else .next (s2.rxNext p q)) s

/-- TSN_LINK_CHANGE (13 R443). -/
def execTsnLinkChange (p : Nat) (up : Bool) (s : State) : Out :=
  if 6 ≤ p then .fault .noSuchUnit
  else if up && !(s.rb (Key.tsnCtl p) 63) then .next s
  else .next ((s.modTsn p (fun x => { x with link := up })).tsnEvent p 5 (BitVec.ofNat 128 (b2n up)))

/-- The length of a gate-control cycle in ns (13 R444, log 81). -/
def State.gclCycle (s : State) (p : Nat) : Nat := ((List.range (s.rf (Key.tsnGclctl p) 8 0)).map (s.gclHolds p)).sum

/-- The gate-control cycle that NOW lies in, once NOW has reached GCLBASE.AT (13 R444). -/
def State.gclNow (s : State) (p : Nat) : Option Nat :=
  let base := (s.reg (Key.tsnGclbase p)).toNat
  if s.nowNs < base then none else some ((s.nowNs - base) / s.gclCycle p)

/-- GCL_CYCLE_START (13 R443, R444): at the start of a cycle that has not started. -/
def execGclCycleStart (p : Nat) (s : State) : Out :=
  if 6 ≤ p then .fault .noSuchUnit
  else match s.gclNow p with
    | none => .next s
    | some k =>
      if s.rb (Key.tsnGclctl p) 63 && (match (s.tsnPort p).gclK with | some q => decide (q < k) | none => true) then
        .next ((s.modTsn p (fun x => { x with gcl := some 0, gclK := some k })).tsnEvent p 7
          (BitVec.ofNat 128 (((s.reg (Key.tsnGclbase p)).toNat + k * s.gclCycle p) % 2 ^ 64)))
      else .next s

/-- GCL_ENTRY_CHANGE (13 R444): the next entry of the list holds, once the entries before it have held for their intervals. -/
def execGclEntryChange (p : Nat) (s : State) : Out :=
  if 6 ≤ p then .fault .noSuchUnit
  else match (s.tsnPort p).gcl, (s.tsnPort p).gclK with
    | some i, some k =>
      let due := (s.reg (Key.tsnGclbase p)).toNat + k * s.gclCycle p + ((List.range (i + 1)).map (s.gclHolds p)).sum
      if s.rb (Key.tsnGclctl p) 63 && decide (i + 1 < s.rf (Key.tsnGclctl p) 8 0) && decide (due ≤ s.nowNs) then
        .next (s.modTsn p (fun x => { x with gcl := some (i + 1) }))
      else .next s
    | _, _ => .next s

/-- A write of a TSN register whose effect is more than its table's (13 R440, R444, R447, R448). -/
def State.tsnWrite (s : State) (k : Nat) (v : W64) : Option State :=
  if 0x500000 ≤ k ∧ k < 0x560000 then
    let p := k / 0x10000 % 16
    let o := k % 0x10000
    let en := s.rb (Key.tsnCtl p) 63
    if o = 0 then
      let s1 := s.writeReg k v
      let s2 := s1.modTsn p (fun x => { x with tx := [], rx := [], link := x.link && bit v 63 })
      some (if en == bit v 63 then s1 else if (s.tsnPort p).link && !(bit v 63) then s2.tsnEvent p 5 0 else s2)
    else if 0x100 ≤ o ∧ o < 0x240 then some (if en then s else s.writeReg k v)
    else if o = 0x400 then
      let s1 := s.writeReg k v
      some (if bit v 63 then s1 else s1.modTsn p (fun x => { x with gcl := none, gclK := none }))
    else if 0x1000 ≤ o ∧ o < 0x2000 then
      some (if s.rb (Key.tsnGclctl p) 63 then s
        else if 1 ≤ bits v 63 32 ∧ bits v 63 32 ≤ 99 then s.setRf k 7 0 (bits v 7 0) else s.writeReg k v)
    else none
  else if 0x561000 ≤ k ∧ k < 0x567000 then
    let o := k % 0x100
    let p := k / 0x1000 % 16 - 1
    let a := k % 0x1000 / 0x100
    if 0x40 ≤ o ∧ o ≤ 0x70 then
      some (s.modTsn p (fun x => { x with exhausted := x.exhausted.filter (fun e => e != a), keys := tset 0 x.keys (8 * a + (o - 0x40) / 16) v }))
    else if o = 0x80 ∨ o = 0x90 then
      some (s.modTsn p (fun x => { x with keys := tset 0 x.keys (8 * a + (o - 0x40) / 16) (if o = 0x90 then v &&& 0xFFFFFFFF else v) }))
    else none
  else none

/-- The live fields of a TSN register. -/
def State.tsnView (s : State) (k : Nat) : List (Nat × Nat × Nat) :=
  match regIdx (Key.tsnStatus 0) 0x10000 6 k with | some p => [(63, 63, b2n (s.tsnPort p).link)] | none => []

/-! ## PCIe root port (13 R449 to R454) -/

/-- An error in PCIE_ERRLOG, as 10 R363 has it (13 R454). -/
def State.pcieLog (s : State) (kind pa : Nat) : State :=
  let k := Key.pcieErrlog
  if s.rb k 63 then s.setRf k 62 62 1
  else s.setReg k (BitVec.ofNat 64 (2 ^ 63 + b2n (s.rb k 62) * 2 ^ 62 + kind * 2 ^ 48 + pa / 16 * 16))

/-- The ECAM window (13 R450). -/
def inEcam (pa : Nat) : Bool := decide (0x800000000000 ≤ pa) && decide (pa < 0x800010000000)

/-- The thread waits for an answer of the root port. -/
def State.pcieWaits (s : State) (t : Nat) : Option ExtReq :=
  match (s.thr t).extReq with
  | some r => if s.region r.pa.toNat = .pcie then some r else none
  | none => none

/-- The answer reaches the waiting instruction (13 R451): the aligned word with tag BITS, or an error response. -/
def State.extAnswer (s : State) (t : Nat) (r : ExtReq) (w : Option TWord) : State :=
  s.modThr t (fun th => { th with extReq := none, extAns := tput th.extAns r.key w })

/-- A non-posted request fails (13 R451): logged, source 343; an ECAM read returns all ones. -/
def State.pcieFail (s : State) (t kind : Nat) (r : ExtReq) : State :=
  let s1 := (s.pcieLog kind r.pa.toNat).raise 343 0
  s1.extAnswer t r (if inEcam r.pa.toNat then some { data := -1, tag := Tag.bits } else none)

/-- The oldest ECAM write of a thread without a completion, and those that remain. -/
def takeWrite (t : Nat) : List (Nat × Addr) → Option (Addr × List (Nat × Addr))
  | [] => none
  | e :: l => if e.1 = t then some (e.2, l) else (takeWrite t l).map (fun r => (r.1, e :: r.2))

/-- An ECAM write of thread n ends (13 R451): without error for the thread; one that fails is logged under its kind with source 343. -/
def State.ecamEnd (s : State) (n : Nat) (kind : Option Nat) : Option State :=
  (takeWrite n s.ecamWrites).map (fun r =>
    let s1 := { s with ecamWrites := r.2 }
    match kind with
    | none => s1
    | some k => (s1.pcieLog k r.1.toNat).raise 343 0)

/-- The oldest read of thread n that nobody waits for any more ends: one that fails is logged under its kind with source 343
(13 R451). -/
def State.orphanEnd (s : State) (n : Nat) (kind : Option Nat) : Option State :=
  match (s.thr n).orphans with
  | [] => none
  | pa :: r =>
    let s1 := s.modThr n (fun th => { th with orphans := r })
    some (match kind with
      | none => s1
      | some k => (s1.pcieLog k pa.toNat).raise 343 0)

/-- A completion or a timeout of thread n that no thread waits for. -/
def State.unawaited (s : State) (n : Nat) (kind : Option Nat) : Option State := (s.orphanEnd n kind).orElse (fun _ => s.ecamEnd n kind)

/-- The kind that PCIE_ERRLOG gives a completion, none for a good one (13 R454). -/
def cplError : CplKind → Option Nat
  | .good => none
  | .ur => some 1
  | .ca => some 2
  | .poisoned => some 3

/-- PCIE_COMPLETION (13 R451): for the read that thread n waits for, else for its oldest abandoned read, else for its oldest ECAM write
(log 83); without any it is late (07 R259). -/
def execPcieCompletion (n : Nat) (k : CplKind) (d : Data) (s : State) : Out :=
  if 768 ≤ n then .fault .noSuchUnit
  else match s.pcieWaits n with
    | none => .next ((s.unawaited n (cplError k)).getD (s.count Key.pcieLate 31 0 1))
    | some r => .next (match k with
      | .good => s.extAnswer n r (some { data := d, tag := Tag.bits })
      | .ur => s.pcieFail n 1 r
      | .ca => s.pcieFail n 2 r
      | .poisoned => s.pcieFail n 3 r)

/-- PCIE_COMPLETION_TIMEOUT (13 R451; 07 R258 entry 5). -/
def execPcieCompletionTimeout (n : Nat) (s : State) : Out :=
  if 768 ≤ n then .fault .noSuchUnit
  else match s.pcieWaits n with
    | none => .next (match s.unawaited n (some 0) with | some s1 => s1.raise 405 0 | none => s)
    | some r => .next ((s.pcieFail n 0 r).raise 405 0)

/-- The enabled inbound window that holds n bytes at an address (13 R452). -/
def State.inWindow (s : State) (a n : Nat) : Option Nat :=
  (List.range 4).find? (fun i => s.rb (Key.pcieInwin i) 63 && decide (s.rf (Key.pcieInwin i) 47 14 * 2 ^ 14 ≤ a) &&
    decide (a + n ≤ s.rf (Key.pcieInlim i) 47 14 * 2 ^ 14))

/-- An inbound request is served only in DRAM or the normal units of the scratch window (13 R452). -/
def State.inServed (s : State) (a n : Nat) : Bool :=
  ((List.range ((a + n - 1) / 16 + 1 - a / 16)).map (fun i => (a / 16 + i) * 16)).all (fun b =>
    (s.region b == .dram || s.region b == .scratch) && s.reaches false b)

/-- The words of an inbound write are written, to the first that fails: whether all were. -/
def State.inWrite (s : State) (tag : Tag) (b : Nat) : List (Data × BitVec 16) → Bool × State
  | [] => (true, s)
  | w :: r =>
    match s.dmaPut .pcie b w.2 { data := w.1, tag := tag } with
    | some s1 => s1.inWrite tag (b + 16) r
    | none => (false, s.dmaLog .pcie b)

/-- A 4-byte write to this bus address is an MSI, with this data (13 R453). -/
def isMsi (a : Nat) (ws : List (Data × BitVec 16)) : Option Nat :=
  match ws with
  | [(d, 0x000F)] => if a / 16 * 16 = 0x7FFFFFFF0000 then some (bits d 31 0) else none
  | _ => none

/-- PCIE_INBOUND_REQUEST (01 R16; 10 R348; 13 R450, R452, R453). -/
def execPcieInboundRequest (r : InReq) (s : State) : Out :=
  if !(s.rb Key.pcieStat 63) then .next s
  else dmaCmd (fun s =>
    let refused := s.count Key.pcieCnt 31 0 1
    match r with
    | .read a n =>
      match s.inWindow a n with
      | none => .next refused
      | some _ =>
        if n = 0 || !(s.inServed a n) then .next refused
        else match s.dmaSpan .pcie a n with
          | (none, s) => .next (s.count Key.pcieCnt 31 0 1)
          | (some ws, s) =>
            match firstPoison a ws with
            | some b => .next ((s.dmaLog .pcie b).count Key.pcieCnt 63 48 1)
            | none => .next s
    | .write a ws req =>
      let b := a / 16 * 16
      let n := 16 * ws.length
      match isMsi a ws, s.inWindow b n with
      | some d, _ =>
        if d ≤ 27 then .next (s.raise (312 + d) (BitVec.ofNat 128 (d + req.toNat * 2 ^ 32))) else .next (s.count Key.pcieCnt 47 32 1)
      | none, none => .next refused
      | none, some i =>
        if n = 0 || !(s.inServed b n) then .next refused
        else match s.inWrite (tagSel (s.rf (Key.pcieInwin i) 62 61)) b ws with
          | (true, s1) => .next s1
          | (false, s1) => .next (s1.count Key.pcieCnt 31 0 1)) s

/-- PCIE_LINK_CHANGE (13 R453, R454): the trained rate and width lie within those that PCIE_CTL gives. In the recovery wait it is the link
of the endpoint, which PCIE_PERST_N, then an input, takes down as well (16 R542). -/
def execPcieLinkChange (up : Bool) (gen width : BitVec 2) (s : State) : Out :=
  if s.recoveryWait then .next { s with boot := { s.boot with rcvLink := up } }
  else if up && !(s.rb Key.pcieCtl 63) then .next s
  else
    let g := Nat.min gen.toNat (s.rf Key.pcieCtl 62 61)
    let w := Nat.max width.toNat (s.rf Key.pcieCtl 60 59)
    let v := if up then 2 ^ 63 + g * 2 ^ 61 + w * 2 ^ 59 else 0
    .next ((s.setReg Key.pcieStat (BitVec.ofNat 64 v)).raise 340 0)

/-- PCIE_ERROR_MESSAGE (13 R451). -/
def execPcieErrorMessage (s : State) : Out := .next (s.raise 341 0)

/-- A write of thread n leaves for the link (13 R451): an ECAM write, which is not posted, awaits its completion; a posted one is
discarded while the link is down, logged, and raises source 342. -/
def State.pcieSend (s : State) (n : Nat) (pa : Addr) : State :=
  if inEcam pa.toNat then { s with ecamWrites := s.ecamWrites ++ [(n, pa)] }
  else if s.rb Key.pcieStat 63 then s
  else (s.pcieLog 4 pa.toNat).raise 342 0

end Sys2Proof.Machine
end

