-- ==== Sys2Proof/Machine/Keyward.lean ====
section
/-! DEFINITION. Keyward as it is read: limits, active key, counters, life cycle and what it permits (15 R494, R513 to R520, R523;
18 R604). -/

namespace Sys2Proof.Machine

/-! ## The active key and the counters (15 R513 to R516) -/

/-- A commit entry that names a complete row: neither is killed (15 R513, R515). -/
def Keyward.good (k : Keyward) (c : CommitEntry) : Bool :=
  c.complete && !c.killed && (match tfind k.rows (c.row + 8 * b2n c.slotB) with
    | some r => r.complete && !r.killed && r.gen == c.gen
    | none => false)

/-- The complete commit entry with the highest generation (15, Root key slots). -/
def Keyward.active (k : Keyward) : Option CommitEntry :=
  (k.commits.filter k.good).foldl (fun b c =>
    match b with
    | none => some c
    | some d => if d.gen < c.gen then some c else b) none

/-- The active hash, 0 with no active key (15 R523). -/
def Keyward.hash (k : Keyward) : BitVec 384 :=
  match k.active with
  | none => 0
  | some c => match tfind k.rows (c.row + 8 * b2n c.slotB) with
    | some r => r.hash
    | none => 0

/-- Rows used in a root key slot, killed ones included (15 R515). -/
def Keyward.rowsUsed (k : Keyward) (slotB : Bool) : Nat := (k.rows.filter (fun (e : Nat × KeyRow) => (8 ≤ e.1) == slotB)).length

/-- A counter's value (15 R516). -/
def Keyward.ctr (k : Keyward) (c : Nat) : Nat := tget 0 k.ctrVal c

def Keyward.ctrUsed (k : Keyward) (c : Nat) : Nat := tget 0 k.ctrRows c

/-- A row of a counter is written and not yet complete. -/
def Keyward.ctrStart (k : Keyward) (c : Nat) : Keyward :=
  { k with ctrRows := tset 0 k.ctrRows c (k.ctrUsed c + 1), ctrPart := c :: k.ctrPart }

/-- It is complete: the counter reads its value (15 R516). -/
def Keyward.ctrEnd (k : Keyward) (c v : Nat) : Keyward :=
  { k with ctrVal := tset 0 k.ctrVal c v, ctrPart := k.ctrPart.erase c }

/-- The row of a counter or of a key slot, or the commit entry, that the reset kills (15 R513): how many, and whether one was a key
row or a commit entry. -/
def Keyward.killAtReset (k : Keyward) : Keyward × Nat :=
  let rowOk (i : Nat) (r : KeyRow) : Bool := k.commits.any (fun c => k.good c && c.row + 8 * b2n c.slotB == i && c.gen == r.gen)
  let badRows := (k.rows.filter (fun (e : Nat × KeyRow) => !e.2.killed && !(rowOk e.1 e.2))).length
  let badCommits := (k.commits.filter (fun c => !c.killed && !c.complete)).length
  let k1 := { k with
    rows := k.rows.map (fun (e : Nat × KeyRow) => if rowOk e.1 e.2 then e else (e.1, { e.2 with killed := true })),
    commits := k.commits.map (fun c => if c.complete then c else { c with killed := true }),
    cleared := decide (0 < badRows + badCommits), ctrPart := [] }
  (k1, badRows + badCommits + k.ctrPart.length)

/-! ## The life cycle (15 R517 to R519) -/

/-- A complete intention record above the state read is carried out (15 R519). -/
def Keyward.finishIntent (k : Keyward) : Keyward :=
  match k.intent with
  | some t => if k.lcFuses / 4 < t then { k with lcFuses := 4 * t } else k
  | none => k

/-- The earlier and the later state that the fuses read as (15 R519). -/
def Keyward.lcStates (k : Keyward) : Nat × Nat := (k.lcFuses / 4, (k.lcFuses + 3) / 4)

/-- A property that both states must allow. -/
def State.lcBoth (s : State) (p : Nat → Bool) : Bool := p s.boot.lcEarly && p s.boot.lcLate

def State.partialStep (s : State) : Bool := s.boot.lcEarly != s.boot.lcLate

/-- The HUK is usable (15 R517, R519): PROVISION and DEPLOYED. -/
def State.hukUsable (s : State) : Bool := s.lcBoth (fun n => n == 1 || n == 2)

/-- BIST is programmable (15 R517, 18 R604): PROVISION and SERVICE. -/
def State.bistProgrammable (s : State) : Bool := s.lcBoth (fun n => n == 1 || n == 3)

/-- No core is released when either state is SCRAP (15 R519). -/
def State.scrap (s : State) : Bool := s.boot.lcEarly == 4 || s.boot.lcLate == 4

/-- Scan by the ceiling: every state but DEPLOYED (15 R517). -/
def scanCeiling (n : Nat) : Bool := n != 2

/-- Scan is allowed: by the ceiling and by the fuses, for the states that the life-cycle fuses read as (15 R517, R519, R523). The port
judges while RST_N is low, when nothing has been sensed since the last reset. -/
def State.scanAllowed (s : State) : Bool :=
  let one (n : Nat) : Bool := scanCeiling n && bit s.keyw.dbg (8 * n + 4)
  one s.keyw.lcStates.1 && one s.keyw.lcStates.2

/-- The image check is enforced (15 R517, R519; 16 R538). -/
def State.imageEnforced (s : State) : Bool :=
  let e (n : Nat) : Bool := decide (2 ≤ n) || (n == 1 && s.keyw.active.isSome)
  e s.boot.lcEarly || e s.boot.lcLate

/-- The debug ceiling of a world in a state: 0 CLOSED, 1 AUTH, 2 OPEN (15 R517). -/
def debugCeiling (sec : Bool) (n : Nat) : Nat :=
  if sec then (if n = 0 then 2 else if n = 1 ∨ n = 3 then 1 else 0)
  else (if n = 2 then 1 else if n = 4 then 0 else 2)

/-- The level that KEYW_DBG fuses for a state (15 R523); the encoding 3, which the table does not name, counts as CLOSED (log 55). -/
def Keyward.debugFused (k : Keyward) (sec : Bool) (n : Nat) : Nat :=
  let v := bits k.dbg (8 * n + (if sec then 3 else 1)) (8 * n + (if sec then 2 else 0))
  if v = 3 then 0 else v

/-- The effective debug level of a world (15 R519, R520). -/
def State.debugLevel (s : State) (sec : Bool) : Nat :=
  let one (n : Nat) : Nat := min (debugCeiling sec n) (s.keyw.debugFused sec n)
  min (one s.boot.lcEarly) (one s.boot.lcLate)

/-- A debugger may use a world: out of device reset, and it is OPEN or unlocked (15 R521, 16 R527). -/
def State.debugOpen (s : State) (sec : Bool) : Bool := !s.aon.inReset && (s.debugLevel sec == 2 || bit s.boot.unlocked (b2n sec))

/-! ## The KEYW_ page (15 R523) -/

/-- Bytes as a number, the first least significant. -/
def leNat (bs : List Byte) : Nat := bs.foldr (fun b a => b.toNat + 256 * a) 0

def State.keywView (s : State) (k : Nat) : List (Nat × Nat × Nat) :=
  let w := s.keyw
  if k = Key.keywLc then [(15, 12, w.intent.getD 15), (8, 8, b2n s.partialStep), (2, 0, s.boot.lcLate)]
  else if k = Key.keywSerial then [(63, 0, w.serial.toNat)]
  else if k = Key.keywPart then
    let lim (v max : Nat) : Nat := if v = 0 then max else v
    [(31, 16, w.secmem.getD 256), (15, 12, lim w.l3sec 8), (11, 8, lim w.l2sec 8), (6, 4, lim w.l1dsec 4), (2, 0, lim w.secthr 4)]
  else if k = Key.keywBoot then [(0, 0, b2n w.pq)]
  else if k = Key.keywDbg then [(63, 0, (w.dbg &&& 0x1F1F1F1F1F).toNat)]
  else if k = Key.keywKeyst then
    let gen := match w.active with | some c => c.gen.toNat | none => 0
    let act := match w.active with | some c => b2n c.slotB | none => 0
    [(32, 32, b2n w.cleared), (31, 24, w.commits.length), (23, 20, w.rowsUsed true), (19, 16, w.rowsUsed false), (15, 0, gen),
     (33, 33, act)]
  else if Key.keywKhash 0 ≤ k ∧ k < Key.keywKhash 6 ∧ k % 16 = 0 then
    let i := (k - Key.keywKhash 0) / 16
    [(63, 0, bits w.hash (64 * i + 63) (64 * i))]
  else if Key.keywCtr 0 ≤ k ∧ k < Key.keywCtr 16 ∧ k % 16 = 0 then [(63, 0, w.ctr ((k - Key.keywCtr 0) / 16))]
  else if Key.keywCtruse 0 ≤ k ∧ k < Key.keywCtruse 16 ∧ k % 16 = 0 then [(8, 0, w.ctrUsed ((k - Key.keywCtruse 0) / 16))]
  else if k = Key.sysDevid then [(23, 8, bits w.devid 23 8)]
  else []

end Sys2Proof.Machine
end

