-- ==== Sys2Proof/Machine/Crypto.lean ====
section
/-! DEFINITION. The crypto engine: descriptors, operations, key slots, scheduling and its registers (15 R500 to R512). AES, the
digests and the public-key algorithms are constants of Config.lean (log 30); the modes of SP 800-38A, -38B and -38D are written
out. -/

namespace Sys2Proof.Machine

/-! ## Modes of AES (15 R502, R506) -/

/-- Bytes as the number whose first byte is most significant. -/
def beNat (bs : List Byte) : Nat := bs.foldl (fun a b => a * 256 + b.toNat) 0

/-- The n bytes of a number, most significant first. -/
def beBytes (n v : Nat) : List Byte := (List.range n).map (fun i => BitVec.ofNat 8 (v / 256 ^ (n - 1 - i)))

/-- AES of one block. -/
def aesBlock (key : List Byte) (b : Nat) : Nat := (Config.aesEncrypt key (BitVec.ofNat 128 b)).toNat

/-- The exclusive or of two byte strings, as long as the first. -/
def xorBytes (a b : List Byte) : List Byte := List.zipWith (fun x y => x ^^^ y) a b

/-- Bytes under the key stream of the counter blocks from number i. -/
def streamXor (key : List Byte) (blockAt : Nat → Nat) (i : Nat) (bs : List Byte) : List Byte :=
  xorBytes bs ((List.range ((bs.length + 15) / 16)).flatMap (fun j => beBytes 16 (aesBlock key (blockAt (i + j)))))

/-- Counter block i of CTR: the whole block counts (log 52). -/
def ctrBlock (iv : List Byte) (i : Nat) : Nat := (beNat iv + i) % 2 ^ 128

/-- Counter block i of GCM, whose block 0 makes the tag (SP 800-38D). -/
def gcmBlock (iv : List Byte) (i : Nat) : Nat := beNat iv * 2 ^ 32 + (1 + i) % 2 ^ 32

/-- Multiplication in the field of GCM: blocks with their first bit most significant (SP 800-38D). -/
def gmulLoop : Nat → Nat → Nat → Nat → Nat
  | 0, _, _, z => z
  | n + 1, x, v, z =>
    gmulLoop n x (if v % 2 = 1 then v / 2 ^^^ (0xE1 * 2 ^ 120) else v / 2) (if (x / 2 ^ n) % 2 = 1 then z ^^^ v else z)

def gmul (x y : Nat) : Nat := gmulLoop 128 x y 0

/-- Blocks of 16 bytes, the last padded with zeros. -/
def blocksOf : Nat → List Byte → List Nat
  | 0, _ => []
  | n + 1, bs => beNat ((bs ++ List.replicate 16 0).take 16) :: blocksOf n (bs.drop 16)

def padBlocks (bs : List Byte) : List Nat := blocksOf ((bs.length + 15) / 16) bs

/-- The tag of GCM over additional data and ciphertext (SP 800-38D). -/
def gcmTag (key iv aad c : List Byte) : List Byte :=
  let h := aesBlock key 0
  let y := (padBlocks aad ++ padBlocks c ++ [8 * aad.length * 2 ^ 64 + 8 * c.length]).foldl (fun y b => gmul (y ^^^ b) h) 0
  beBytes 16 (y ^^^ aesBlock key (gcmBlock iv 0))

/-- Doubling in the field of CMAC (SP 800-38B). -/
def cmacDbl (x : Nat) : Nat := if 2 ^ 127 ≤ x then (2 * x % 2 ^ 128) ^^^ 0x87 else 2 * x

/-- AES-CMAC (SP 800-38B). -/
def aesCmac (key m : List Byte) : List Byte :=
  let k1 := cmacDbl (aesBlock key 0)
  let n := max 1 ((m.length + 15) / 16)
  let last := m.drop (16 * (n - 1))
  let lastB := if last.length = 16 then beNat last ^^^ k1
    else beNat ((last ++ 0x80#8 :: List.replicate 16 0).take 16) ^^^ cmacDbl k1
  beBytes 16 (((blocksOf (n - 1) m) ++ [lastB]).foldl (fun y b => aesBlock key (y ^^^ b)) 0)

/-! ## Accesses (15 R501) -/

/-- n source bytes at byte address a, or the status that refuses them (15 R501, R503). -/
def State.cryRead (s : State) (sec : Bool) (a n : Nat) : Except Nat (List Byte) :=
  match s.worldSpan sec a n with
  | none => .error 7
  | some ws =>
    if ws.any (fun w => w.tag == Tag.poison) then .error 5
    else if ws.any (fun w => w.tag == Tag.uninit || (!sec && w.tag == Tag.sealed)) then .error 6
    else .ok (((ws.flatMap (fun w => wordBytes w.data)).drop (a % 16)).take n)

/-- A crypto engine of a world as a DMA agent (15 R490). -/
def cryAgent (sec : Bool) : DmaAgent := .crypto (if sec then 4 else 0)

/-- The bytes of the word at base that lie from a to a + n − 1. -/
def spanMask (a n base : Nat) : BitVec 16 :=
  BitVec.ofNat 16 (((List.range 16).filter (fun i => decide (a ≤ base + i) && decide (base + i < a + n))).map (2 ^ ·)).sum

/-- Words written from base upward, of each the bytes in the span; none where an access is refused. -/
def State.dmaPutSpan (s : State) (sec : Bool) (a n : Nat) (tag : Tag) : Nat → List Data → Option State
  | _, [] => some s
  | base, d :: r =>
    match s.dmaPut (cryAgent sec) base (spanMask a n base) { data := d, tag := tag } with
    | none => none
    | some s1 => s1.dmaPutSpan sec a n tag (base + 16) r

/-- Output bytes at byte address a with a tag; partial words are merged (15 R501). -/
def State.cryPut (s : State) (sec : Bool) (a : Nat) (bs : List Byte) (tag : Tag) : Option State :=
  s.dmaPutSpan sec a bs.length tag (a / 16 * 16) (packBytes (List.replicate (if bs.isEmpty then 0 else a % 16) 0 ++ bs))

/-! ## Descriptors (15 R500) -/

def cryQKey (q : Nat) : Nat := if 4 ≤ q then Key.cryQs (q - 4) else Key.cryQn q

def State.setCry (s : State) (c : Crypto) : State := { s with cry := c }

def State.cryQ (s : State) (q : Nat) : CryQueue := tget {} s.cry.qs q

def State.setCryQ (s : State) (q : Nat) (x : CryQueue) : State := s.setCry { s.cry with qs := tset {} s.cry.qs q x }

def State.keySlot (s : State) (n : Nat) : KeySlot := tget {} s.cry.slots n

def State.setKeySlot (s : State) (n : Nat) (x : KeySlot) : State := s.setCry { s.cry with slots := tset {} s.cry.slots n x }

/-- A slot is secure (15 R505). -/
def State.slotSecure (s : State) (n : Nat) : Bool := s.rb Key.cryKworld n

/-- Where descriptor i of a queue lies. -/
def State.cryDesc (s : State) (q i : Nat) : Nat := s.rf (cryQKey q) 47 6 * 64 + 64 * i

/-- The queue's next descriptor, when it is FULL (15 R500). -/
def State.cryReady (s : State) (q : Nat) : Option Data :=
  if s.rb (cryQKey q) 59 && (s.cryQ q).job.isNone then
    match s.dmaGet (.crypto q) (s.cryDesc q (s.cryQ q).next) with
    | some w => if w.tag = Tag.full then some w.data else none
    | none => none
  else none

def State.cryWork (s : State) (q : Nat) : Bool := (s.cryQ q).job.isSome || (s.cryReady q).isSome

/-- The first of four queues from base with work, after the one served last (15 R509). -/
def State.pickFrom (s : State) (base last : Nat) : Option Nat :=
  ((List.range 4).map (fun i => base + (last + 1 + i) % 4)).find? (fun q => s.cryWork q)

/-- The choice of the next unit: secure queues first (15 R509). -/
def State.cryPick (s : State) : Option Nat :=
  match s.pickFrom 4 s.cry.lastS with
  | some q => some q
  | none => s.pickFrom 0 s.cry.lastN

/-- The queue is served. -/
def State.cryServe (s : State) (q : Nat) : State :=
  s.setCry (if 4 ≤ q then { s.cry with lastS := q } else { s.cry with lastN := q })

def CryJob.op (j : CryJob) : Nat := bits j.w0 7 0
def CryJob.slot (j : CryJob) : Nat := bits j.w0 13 8
def CryJob.len (j : CryJob) : Nat := bits j.w0 63 24
def CryJob.src0 (j : CryJob) : Nat := bits j.w0 111 64
def CryJob.dst (j : CryJob) : Nat := bits j.w1 47 0
def CryJob.aux (j : CryJob) : Nat := bits j.w1 111 64
def CryJob.aadLen (j : CryJob) : Nat := bits j.w2 31 0
def CryJob.slot2 (j : CryJob) : Nat := bits j.w2 37 32
def CryJob.alg (j : CryJob) : Nat := bits j.w2 43 40
def CryJob.tag (j : CryJob) : Tag := if bit j.w0 16 then Tag.sealed else Tag.bits

/-- A bulk operation (15 R509). -/
def bulkOp (op : Nat) : Bool := [0x01, 0x02, 0x03, 0x04, 0x08, 0x09, 0x0A, 0x0C, 0x0D, 0x0E, 0x28].contains op

/-- The units that hash the message of an ML-DSA operation precede its own (15 R509). -/
def mldsaMsg (op : Nat) : Bool := op == 0x14 || op == 0x15

/-- The operations of 15 R502. -/
def knownOp (op : Nat) : Bool :=
  bulkOp op || [0x10, 0x11, 0x12, 0x14, 0x15, 0x16, 0x18, 0x19, 0x1A, 0x20, 0x21].contains op

/-- How many units a job has (15 R509). -/
def CryJob.total (j : CryJob) : Nat :=
  let n := max 1 ((j.len + 65535) / 65536)
  if bulkOp j.op then n else if mldsaMsg j.op then n + 1 else 1

/-- A job ends (15 R500, R503, R508): word 3 is written, word 0 becomes EMPTY, and the queue's source is raised. The NONCE of a job
that used none is a free value (log 52). A queue enabled anew under the job goes on at its entry 0. -/
def State.cryEnd (s : State) (q : Nat) (j : CryJob) (status done : Nat) : State :=
  let a := j.desc
  let nonce := match j.nonce with | some n => n.toNat | none => bits (Config.freeValue s.fresh) 63 0
  let w3 : Data := BitVec.ofNat 128 (status + done % 2 ^ 40 * 2 ^ 24 + nonce * 2 ^ 64)
  let k := s.keySlot j.slot
  let low := j.op == 1 && decide (k.nres.toNat ≤ k.nctr.toNat + 2 ^ 15)
  let s1 := (s.dmaSet (.crypto q) (a + 48) { data := w3, tag := Tag.bits }).dmaSet (.crypto q) a { data := j.w0, tag := Tag.empty }
  let s2 := s1.setCryQ q { next := if j.stale then (s.cryQ q).next else (j.idx + 1) % 2 ^ s.rf (cryQKey q) 63 60, job := none }
  { s2 with fresh := s.fresh + 1 }.raise (368 + q)
    (BitVec.ofNat 128 (j.idx + status * 2 ^ 12 + b2n low * 2 ^ 24 + j.slot * 2 ^ 32))

/-! ## Starting a job (15 R501 to R507) -/

/-- The key length of an algorithm (15 R505; FIPS 197, 186-5, 204, 203: log 30). -/
def algBytes (alg : Nat) : Nat := [0, 16, 32, 48, 4896, 3168].getD alg 0

/-- Unnamed bits are 0, and the length is one that the operation allows (15 R500, R502, R503, R505). -/
def CryJob.wellFormed (j : CryJob) : Bool :=
  bits j.w0 15 14 == 0 && bits j.w0 23 17 == 0 && bits j.w0 127 112 == 0 && bits j.w1 63 48 == 0 && bits j.w1 67 64 == 0 &&
  bits j.w1 127 112 == 0 && bits j.w2 39 38 == 0 && bits j.w2 127 44 == 0 && knownOp j.op &&
  (if j.op = 0x10 ∨ j.op = 0x11 then j.len == 48
   else if j.op = 0x19 ∨ j.op = 0x1A then j.len == 1568
   else if j.op = 0x20 then (if j.slot = 63 then j.len == 0 else decide (1 ≤ j.alg) && decide (j.alg ≤ 5) && j.len == algBytes j.alg)
   else true)

/-- The slot that the operation writes (15 R502). -/
def CryJob.writes (j : CryJob) : Option Nat :=
  if [0x12, 0x16, 0x18, 0x20, 0x21].contains j.op then some j.slot
  else if j.op = 0x19 ∨ j.op = 0x1A then some j.slot2 else none

/-- The slot that the operation uses holds a key of one of these algorithms (15 R502). -/
def CryJob.needs (j : CryJob) : List Nat :=
  if 1 ≤ j.op ∧ j.op ≤ 4 then [1, 2] else if j.op = 0x10 then [3] else if j.op = 0x14 then [4] else if j.op = 0x1A then [5] else []

/-- The status that refuses a job at its start, 0 where it runs: BADDESC, then PRIV, then KEY (log 52). -/
def State.cryRefuse (s : State) (q : Nat) (j : CryJob) : Nat :=
  let sec := decide (4 ≤ q)
  if !j.wellFormed then 9
  else if !sec && bit j.w0 16 then 0xA
  else if (match j.writes with | some n => !sec && (s.slotSecure n || n == 63) | none => false) then 0xA
  else if j.writes = some 63 && j.op != 0x20 && j.op != 0x21 then 2
  else if j.op = 0x20 && j.slot == 63 && !(s.hukUsable && s.keyw.huk.isSome) then 2
  else if !j.needs.isEmpty && (!(j.needs.contains (s.keySlot j.slot).alg) || (!sec && s.slotSecure j.slot)) then 2
  else 0

/-- The nonce of a GCM-ENC (15 R506, R507): the job as it starts, or the status that ends it; the slot as it is left. -/
def State.gcmStart (s : State) (q : Nat) (j : CryJob) : State × Except Nat CryJob :=
  let k := s.keySlot j.slot
  if k.exh || k.nctr == -1 then (s.setKeySlot j.slot { k with exh := true }, .error 3)
  else if k.nctr = k.nres then (s, .error 4)
  else
    let iv := beBytes 12 (k.fixed.toNat * 2 ^ 64 + k.nctr.toNat)
    let ivWord : Data := BitVec.ofNat 128 (k.fixed.toNat * 2 ^ 64 + k.nctr.toNat)
    match s.dmaPut (.crypto q) j.aux 0x0FFF#16 { data := ivWord, tag := j.tag } with
    | none => (s, .error 7)
    | some s1 => (s1.setKeySlot j.slot { k with nctr := k.nctr + 1 }, .ok { j with iv := iv, nonce := some k.nctr })

/-- The job of a queue starts, or ends at once. -/
def State.cryBegin (s : State) (q : Nat) (j : CryJob) : State :=
  match s.cryRefuse q j with
  | 0 =>
    let run (s : State) (j : CryJob) : State :=
      let s1 := s.setCryQ q { (s.cryQ q) with job := some j }
      s1.setCry { s1.cry with run := some q }
    let j1 := { j with key := (s.keySlot j.slot).key }
    if j.op = 1 then
      match s.gcmStart q j1 with
      | (s1, .ok j2) => run s1 j2
      | (s1, .error e) => s1.cryEnd q j1 e 0
    else run s j1
  | e => s.cryEnd q j e 0

/-- The engine takes up the descriptor of queue q with word 0 equal to w0: its words are read, POISON and a refusal end the job (10 R348,
15 R501). -/
def State.cryTake (s : State) (q : Nat) (w0 : Data) : State :=
  let i := (s.cryQ q).next
  let a := s.cryDesc q i
  let s1 := (s.cryServe q).spanSnoop a 48
  let s2 := s1.setCry { s1.cry with chosen := none }
  match s.dmaGet (.crypto q) (a + 16), s.dmaGet (.crypto q) (a + 32) with
  | some w1, some w2 =>
    let j : CryJob := { idx := i, desc := a, w0 := w0, w1 := w1.data, w2 := w2.data }
    if w1.tag = Tag.poison || w2.tag = Tag.poison then s2.cryEnd q j 5 0 else s2.cryBegin q j
  | _, _ => s2.cryEnd q { idx := i, desc := a, w0 := w0, w1 := 0, w2 := 0 } 7 0

/-- The next unit is chosen: a job's next unit runs on, a new job is to start (15 R509). -/
def State.cryChoose (s : State) : State :=
  let s1 := s.setCry { s.cry with run := none }
  match s1.cryPick with
  | none => s1
  | some q =>
    if (s1.cryQ q).job.isSome then
      let s2 := s1.cryServe q
      s2.setCry { s2.cry with run := some q }
    else s1.setCry { s1.cry with chosen := some q }

/-- The queue q whose turn it is starts its descriptor; where the job ends at once the choice is made again (15 R509). -/
def State.cryTurn (s : State) (q : Nat) (w0 : Data) : State :=
  let s1 := s.cryTake q w0
  if s1.cry.run.isNone then s1.cryChoose else s1

/-- The queue whose turn it is while no unit runs: the one chosen, as long as its descriptor stands (15 R500, R509). -/
def State.cryNext (s : State) : Option Nat :=
  if s.cry.run.isSome then none
  else match s.cry.chosen with
    | some q => if (s.cryReady q).isSome then some q else s.cryPick
    | none => s.cryPick

/-- A job of operation op starts on queue q, when it is that queue's turn. -/
def cryStart (op q : Nat) (s : State) : Out :=
  if 8 ≤ q then .fault .noSuchUnit
  else match s.cryReady q with
    | none => .next s
    | some w0 =>
      if s.cryNext = some q ∧ bits w0 7 0 = op then
        match s.spanWaits (s.cryDesc q (s.cryQ q).next) 64 with
        | some b => .next { s with dram := s.dram.promote b }
        | none => dmaCmd (fun s => .next (s.cryTurn q w0)) s
      else .next s

/-- A descriptor with a reserved OP ends with BADDESC when its turn comes (15 R503), and the job in progress whose turn comes because the
descriptor chosen was withdrawn runs on (R509); neither has a row, so an idle step does it. -/
def State.cryIdle (s : State) : State :=
  match s.cryNext with
  | none => s
  | some q => if (s.cryQ q).job.isSome then s.cryChoose else match s.cryReady q with
    | some w0 =>
      if knownOp (bits w0 7 0) then s
      else match s.spanWaits (s.cryDesc q (s.cryQ q).next) 64 with
        | some b => { s with dram := s.dram.promote b }
        | none => s.cryTurn q w0
    | none => s

/-- GCM_ENC (15 R506). -/
def execGcmEnc (q : Nat) (s : State) : Out := cryStart 0x01 q s
/-- GCM_DEC (15 R502). -/
def execGcmDec (q : Nat) (s : State) : Out := cryStart 0x02 q s
/-- CTR (15 R502). -/
def execCtr (q : Nat) (s : State) : Out := cryStart 0x03 q s
/-- CMAC (15 R502). -/
def execCmac (q : Nat) (s : State) : Out := cryStart 0x04 q s
/-- SHA_256 (15 R502). -/
def execSha256 (q : Nat) (s : State) : Out := cryStart 0x08 q s
/-- SHA_384 (15 R502). -/
def execSha384 (q : Nat) (s : State) : Out := cryStart 0x09 q s
/-- SHA_512 (15 R502). -/
def execSha512 (q : Nat) (s : State) : Out := cryStart 0x0A q s
/-- SHA3_256 (15 R502). -/
def execSha3256 (q : Nat) (s : State) : Out := cryStart 0x0C q s
/-- SHA3_384 (15 R502). -/
def execSha3384 (q : Nat) (s : State) : Out := cryStart 0x0D q s
/-- SHA3_512 (15 R502). -/
def execSha3512 (q : Nat) (s : State) : Out := cryStart 0x0E q s
/-- ECDSA_SIGN (15 R502). -/
def execEcdsaSign (q : Nat) (s : State) : Out := cryStart 0x10 q s
/-- ECDSA_VERIFY (15 R502). -/
def execEcdsaVerify (q : Nat) (s : State) : Out := cryStart 0x11 q s
/-- ECDSA_KEYGEN (15 R502). -/
def execEcdsaKeygen (q : Nat) (s : State) : Out := cryStart 0x12 q s
/-- MLDSA_SIGN (15 R502). -/
def execMldsaSign (q : Nat) (s : State) : Out := cryStart 0x14 q s
/-- MLDSA_VERIFY (15 R502). -/
def execMldsaVerify (q : Nat) (s : State) : Out := cryStart 0x15 q s
/-- MLDSA_KEYGEN (15 R502). -/
def execMldsaKeygen (q : Nat) (s : State) : Out := cryStart 0x16 q s
/-- MLKEM_KEYGEN (15 R502). -/
def execMlkemKeygen (q : Nat) (s : State) : Out := cryStart 0x18 q s
/-- MLKEM_ENCAPS (15 R502). -/
def execMlkemEncaps (q : Nat) (s : State) : Out := cryStart 0x19 q s
/-- MLKEM_DECAPS (15 R502). -/
def execMlkemDecaps (q : Nat) (s : State) : Out := cryStart 0x1A q s
/-- KEYLOAD (15 R505). -/
def execKeyload (q : Nat) (s : State) : Out := cryStart 0x20 q s
/-- KEYCLR (15 R502). -/
def execKeyclr (q : Nat) (s : State) : Out := cryStart 0x21 q s
/-- TRNG (15 R502). -/
def execTrng (q : Nat) (s : State) : Out := cryStart 0x28 q s

/-! ## A unit's work (15 R501 to R506, R509) -/

/-- What the work of a unit leaves: the machine, the job's context, the bytes for the destination, and a status where the job has its
own (0 OK, 1 INVALID, 0xB RETRY). -/
structure UnitWork where
  st : State
  job : CryJob
  out : List Byte
  status : Nat
deriving DecidableEq, Repr

/-- The bytes that a unit covers. -/
def CryJob.unitLen (j : CryJob) : Nat :=
  if bulkOp j.op || (mldsaMsg j.op && decide (j.units + 1 < j.total)) then min 65536 (j.len - j.done) else if mldsaMsg j.op then 0 else j.len

/-- The operation reads a source (15 R502). -/
def sourceOp (op : Nat) : Bool := !([0x12, 0x16, 0x18, 0x21, 0x28].contains op)

/-- n random bytes (15 R502). -/
def randomBytes (fresh : Nat) : Nat → List Byte
  | 0 => []
  | n + 1 => (List.range 32).map (fun i => BitVec.ofNat 8 ((Config.random fresh).toNat / 256 ^ i)) ++ randomBytes (fresh + 1) n

/-- Bytes at an offset of the auxiliary area. -/
def State.auxRead (s : State) (sec : Bool) (j : CryJob) (off n : Nat) : Except Nat (List Byte) := s.cryRead sec (j.aux + off) n

/-- A digest operation's length in bytes rounded to 16, from which the public key of a verify follows. -/
def round16 (n : Nat) : Nat := (n + 15) / 16 * 16

/-- The signature and the public key of a verify (15 R502). -/
def State.verifyArgs (s : State) (sec : Bool) (j : CryJob) (sig pub : Nat) : Except Nat (List Byte × List Byte) :=
  match s.auxRead sec j 0 sig, s.auxRead sec j (round16 sig) pub with
  | .ok a, .ok b => .ok (a, b)
  | .error e, _ => .error e
  | _, .error e => .error e

/-- A key is placed in a slot; its nonce state is left (15 R502, log 52). -/
def State.placeKey (s : State) (n alg : Nat) (key : List Byte) : State :=
  s.setKeySlot n { (s.keySlot n) with alg := alg, key := key }

/-- The end of a GCM job: the tag over additional data and ciphertext (15 R502, R504). -/
def State.gcmFinish (s : State) (sec : Bool) (j : CryJob) (cipher out : List Byte) : Except Nat UnitWork :=
  match s.auxRead sec j 32 j.aadLen with
  | .error e => .error e
  | .ok aad =>
    let t := gcmTag j.key j.iv aad cipher
    if j.op = 1 then
      match s.cryPut sec (j.aux + 16) t j.tag with
      | none => .error 7
      | some s1 => .ok ⟨s1, j, out, 0⟩
    else match s.auxRead sec j 16 16 with
      | .error e => .error e
      | .ok given => .ok ⟨s, j, out, if given = t then 0 else 1⟩

/-- The work of a unit whose source bytes are bs; last names the job's last unit. -/
def State.unitDo (s : State) (sec : Bool) (j : CryJob) (bs : List Byte) (last : Bool) : Except Nat UnitWork :=
  let all := j.src ++ bs
  let j1 := { j with src := all }
  let plain (out : List Byte) : Except Nat UnitWork := .ok ⟨s, j1, out, 0⟩
  let rnd := Config.random s.fresh
  let s1 := { s with fresh := s.fresh + 1 }
  if j.op = 1 ∨ j.op = 2 then
    match (if j.op = 2 && j.units == 0 then s.auxRead sec j 0 12 else .ok j.iv.reverse) with
    | .error e => .error e
    | .ok ivb =>
      let j2 := { j1 with iv := ivb.reverse }
      let out := streamXor j2.key (gcmBlock j2.iv) (1 + j.done / 16) bs
      if last then
        s.gcmFinish sec j2 (if j.op = 2 then all else streamXor j2.key (gcmBlock j2.iv) 1 all) out
      else .ok ⟨s, j2, out, 0⟩
  else if j.op = 3 then
    match (if j.units = 0 then s.auxRead sec j 0 16 else .ok j.iv) with
    | .error e => .error e
    | .ok iv => .ok ⟨s, { j1 with iv := iv }, streamXor j.key (ctrBlock iv) (j.done / 16) bs, 0⟩
  else if j.op = 4 then
    if !last then plain []
    else match s.cryPut sec (j.aux + 16) (aesCmac j.key all) j.tag with
      | none => .error 7
      | some s2 => .ok ⟨s2, j1, [], 0⟩
  else if bulkOp j.op && j.op != 0x28 then plain (if last then Config.digest j.op all else [])
  else if j.op = 0x28 then
    let n := j.unitLen
    .ok ⟨{ s with fresh := s.fresh + (n + 31) / 32 }, j1, (randomBytes s.fresh ((n + 31) / 32)).take n, 0⟩
  else if j.op = 0x10 then .ok ⟨s1, j1, Config.ecdsaSign j.key all rnd, 0⟩
  else if j.op = 0x11 then
    (s.verifyArgs sec j 96 96).map (fun a => ⟨s, j1, [], if Config.ecdsaVerify a.2 all a.1 then 0 else 1⟩)
  else if j.op = 0x12 then
    let k := Config.ecdsaKeygen rnd
    .ok ⟨s1.placeKey j.slot 3 k.1, j1, k.2, 0⟩
  else if j.op = 0x14 then
    if !last then plain []
    else match Config.mldsaSign j.key all rnd with
      | some sig => .ok ⟨s1, j1, sig, 0⟩
      | none => .ok ⟨s1, j1, [], 0xB⟩
  else if j.op = 0x15 then
    if !last then plain []
    else (s.verifyArgs sec j 4627 2592).map (fun a => ⟨s, j1, [], if Config.mldsaVerify a.2 all a.1 then 0 else 1⟩)
  else if j.op = 0x16 then
    let k := Config.mldsaKeygen rnd
    .ok ⟨s1.placeKey j.slot 4 k.1, j1, k.2, 0⟩
  else if j.op = 0x18 then
    let k := Config.mlkemKeygen rnd
    .ok ⟨s1.placeKey j.slot 5 k.1, j1, k.2, 0⟩
  else if j.op = 0x19 then
    let r := Config.mlkemEncaps all rnd
    .ok ⟨s1.placeKey j.slot2 2 r.1, j1, r.2, 0⟩
  else if j.op = 0x1A then .ok ⟨s.placeKey j.slot2 2 (Config.mlkemDecaps j.key all), j1, [], 0⟩
  else if j.op = 0x20 then
    let alg := if j.slot = 63 then 2 else j.alg
    let key := if j.slot = 63 then s.keyw.huk.getD [] else all
    if alg = 1 ∨ alg = 2 then
      (s.auxRead sec j 0 16).map (fun a =>
        let start := BitVec.ofNat 64 (leNat (a.drop 8))
        ⟨s.setKeySlot j.slot { alg := alg, key := key, fixed := BitVec.ofNat 32 (leNat (a.take 4)), nctr := start, nres := start },
         j1, [], 0⟩)
    else .ok ⟨s.setKeySlot j.slot { alg := alg, key := key }, j1, [], 0⟩
  else .ok ⟨s.setKeySlot j.slot {}, j1, [], 0⟩

/-- Where the output of a unit goes. -/
def CryJob.outAt (j : CryJob) : Nat := if [1, 2, 3, 0x28].contains j.op then j.dst + j.done else j.dst

/-- The destination of a GCM-DEC with a bad tag is overwritten (15 R504). -/
def State.wipeDst (s : State) (sec : Bool) (j : CryJob) : State :=
  if j.len = 0 then s else (s.cryPut sec j.dst (List.replicate j.len 0) Tag.uninit).getD s

/-- A unit of queue q's job ends: its source was read, its output is written, and the job goes on or ends (15 R501, R504, R509). -/
def State.unitEnd (s : State) (q : Nat) (j : CryJob) : State :=
  let sec := decide (4 ≤ q)
  let n := j.unitLen
  let last := decide (j.total ≤ j.units + 1)
  match (if sourceOp j.op then s.cryRead sec (j.src0 + j.done) n else .ok []) with
  | .error e => s.cryEnd q j e j.done
  | .ok bs =>
    match s.unitDo sec j bs last with
    | .error e => s.cryEnd q j e j.done
    | .ok w =>
      if w.status = 0xB then w.st.cryEnd q w.job 0xB j.done
      else match w.st.cryPut sec j.outAt w.out j.tag with
        | none => w.st.cryEnd q w.job 7 j.done
        | some s1 =>
          let done := j.done + n
          if last then
            let s2 := if j.op = 2 ∧ w.status = 1 then s1.wipeDst sec j else s1
            s2.cryEnd q w.job w.status (if sourceOp j.op then done else 0)
          else s1.setCryQ q { (s1.cryQ q) with job := some { w.job with done := done, units := j.units + 1 } }

/-- What a unit reads: its source bytes, and of the auxiliary area what its operation takes there (15 R501, R502). -/
def CryJob.readSpans (j : CryJob) : List (Nat × Nat) :=
  let first := j.units == 0
  let last := decide (j.total ≤ j.units + 1)
  let aux : List (Nat × Nat) :=
    if j.op = 1 then (if last then [(32, j.aadLen)] else [])
    else if j.op = 2 then (if first then [(0, 12)] else []) ++ (if last then [(32, j.aadLen), (16, 16)] else [])
    else if j.op = 3 then (if first then [(0, 16)] else [])
    else if j.op = 0x11 then [(0, 96), (96, 96)]
    else if j.op = 0x15 then (if last then [(0, 4627), (round16 4627, 2592)] else [])
    else if j.op = 0x20 then [(0, 16)] else []
  (if sourceOp j.op then [(j.src0 + j.done, j.unitLen)] else []) ++ aux.map (fun x => (j.aux + x.1, x.2))

/-- What a unit writes: its output, a tag or MAC, and the end of its descriptor at address a (15 R500, R502). -/
def CryJob.writeSpans (j : CryJob) (a : Nat) : List (Nat × Nat) :=
  let last := decide (j.total ≤ j.units + 1)
  let size : Nat :=
    if [1, 2, 3, 0x28].contains j.op then j.unitLen
    else if !last then 0
    else if j.op = 0x08 ∨ j.op = 0x0C then 32 else if j.op = 0x09 ∨ j.op = 0x0D then 48 else if j.op = 0x0A ∨ j.op = 0x0E then 64
    else if j.op = 0x10 ∨ j.op = 0x12 then 96 else if j.op = 0x14 then 4627 else if j.op = 0x16 then 2592
    else if j.op = 0x18 ∨ j.op = 0x19 then 1568 else 0
  (j.outAt, size) :: ((if last && (j.op == 1 || j.op == 4) then [(j.aux + 16, 16)] else []) ++ [(a, 64)])

/-- The first refused address of a unit's accesses is logged (01 R16, 15 R501). -/
def State.cryLog (s : State) (q : Nat) (j : CryJob) : State :=
  let sec := decide (4 ≤ q)
  let bad (x : Nat × Nat) : Option Nat :=
    ((List.range ((x.1 + x.2 + 15) / 16 - x.1 / 16)).map (fun i => x.1 / 16 * 16 + 16 * i)).find? (fun b => !(s.dmaOk (cryAgent sec) b))
  match (j.readSpans ++ j.writeSpans j.desc).findSome? bad with
  | some b => s.dmaLog (.crypto q) b
  | none => s

/-- CRYPTO_UNIT_END (01 R16; 09 R310; 10 R353; 15 R509): a unit waits for a chunk that is not yet initialised. -/
def execCryptoUnitEnd (s : State) : Out :=
  match s.cry.run with
  | none => .next s
  | some q => match (s.cryQ q).job with
    | none => .next s.cryChoose
    | some j =>
      match (j.readSpans ++ j.writeSpans j.desc).findSome? (fun x => s.spanWaits x.1 x.2) with
      | some b => .next { s with dram := s.dram.promote b }
      | none =>
        let s1 := (j.readSpans.foldl (fun s x => s.spanSnoop x.1 x.2) s).cryLog q j
        .next (s1.unitEnd q j).cryChoose

/-- CRYPTO_UNIT_TIMEOUT (15 R510, 07 R258). -/
def execCryptoUnitTimeout (s : State) : Out :=
  match s.cry.run with
  | none => .next s
  | some q => match (s.cryQ q).job with
    | none => .next s.cryChoose
    | some j => .next (((s.cryEnd q j 8 j.done).raise 404 0).cryChoose)

/-! ## Registers (15 R505, R508, R512) -/

/-- CRY_KWORLD: every slot whose bit changes is cleared (15 R505); the monitor writes it (R512). -/
def State.kworldWrite (s : State) (w : Writer) (v : W64) : State :=
  if !w.secure || w.lvl != 3 then s
  else
    let moved := s.reg Key.cryKworld ^^^ v
    let s1 := s.setReg Key.cryKworld v
    s1.setCry { s1.cry with slots := s1.cry.slots.filter (fun (e : Nat × KeySlot) => !(bit moved e.1)) }

/-- CRY_KWORLD_WRITE. -/
def execCryKworldWrite (w : Writer) (v : W64) (s : State) : Out := .next (s.kworldWrite w v)

/-- CRY_KNRES: only NRES + k × 2^16 is accepted (15 R508). -/
def State.knresWrite (s : State) (n : Nat) (v : W64) : State :=
  let k := s.keySlot n
  if k.nres < v ∧ (v.toNat - k.nres.toNat) % 2 ^ 16 = 0 then s.setKeySlot n { k with nres := v } else s

/-- CRY_KNRES_WRITE: a secure writer uses the secure half, any other the normal one, where a secure slot ignores writes (15 R512). -/
def execCryKnresWrite (w : Writer) (slot : Nat) (v : W64) (s : State) : Out :=
  if 64 ≤ slot then .fault .noSuchUnit
  else if !w.secure && s.slotSecure slot then .next s
  else .next (s.knresWrite slot v)

/-- CRY_Q: ignored while EN is 1 unless it clears EN; EN from 0 to 1 starts at entry 0 (15 R500, R512). -/
def State.cryQWrite (s : State) (q : Nat) (v : W64) : State :=
  let k := cryQKey q
  if s.rb k 59 && bit v 59 then s
  else
    let s1 := s.writeReg k v
    if !(s.rb k 59) && bit v 59 then
      s1.setCryQ q { next := 0, job := (s1.cryQ q).job.map (fun j => { j with stale := true }) }
    else s1

/-- Writes of the CRY_ page that do more than their table says. -/
def State.cryRegWrite (s : State) (w : Writer) (k : Nat) (v : W64) : Option State :=
  match regIdx (Key.cryQs 0) 0x10 4 k, regIdx (Key.cryQn 0) 0x10 4 k, regIdx (Key.cryKnres 0) 0x20 64 k, regIdx 0x59010 0x20 64 k with
  | some i, _, _, _ => some (s.cryQWrite (4 + i) v)
  | _, some i, _, _ => some (s.cryQWrite i v)
  | _, _, some n, _ => some (s.knresWrite n v)
  | _, _, _, some n => some (if s.slotSecure n then s else s.knresWrite n v)
  | _, _, _, _ => if k = Key.cryKworld then some (s.kworldWrite w v) else none

/-- The live fields of CRY_KSTAT, CRY_KNRES and CRY_KNCTR of a slot. -/
def KeySlot.view (x : KeySlot) (which : Nat) : List (Nat × Nat × Nat) :=
  if which = 0 then [(63, 63, b2n (x.alg != 0)), (59, 56, x.alg), (55, 55, b2n x.exh), (31, 0, x.fixed.toNat)]
  else if which = 1 then [(63, 0, x.nres.toNat)]
  else [(63, 0, x.nctr.toNat)]

/-- The CRY_ page as software sees it (15 R512): the normal views of a secure slot read 0. -/
def State.cryView (s : State) (k : Nat) : List (Nat × Nat × Nat) :=
  let sec (which n : Nat) : List (Nat × Nat × Nat) := (s.keySlot n).view which
  let nrm (which n : Nat) : List (Nat × Nat × Nat) := if s.slotSecure n then [(63, 0, 0)] else (s.keySlot n).view which
  let at6 := [(regIdx 0x51000 0x20 64 k, sec 0), (regIdx 0x51010 0x20 64 k, sec 1), (regIdx 0x53000 0x10 64 k, sec 2),
              (regIdx 0x59000 0x20 64 k, nrm 0), (regIdx 0x59010 0x20 64 k, nrm 1), (regIdx 0x5B000 0x10 64 k, nrm 2)]
  (at6.findSome? (fun (e : Option Nat × (Nat → List (Nat × Nat × Nat))) => e.1.map e.2)).getD []

end Sys2Proof.Machine
end

