-- ==== Sys2Proof/Machine/ControlIo.lean ====
section
/-! DEFINITION. Measurement: the timebase and its compare units, sigma-delta inputs, the ADC, encoders and resolvers
(11 R365 to R391). -/

namespace Sys2Proof.Machine


/-! ## Sigma-delta inputs (11 R370 to R376) -/

/-- The lead that an input names (11 R373). -/
def State.sdLead (s : State) (n : Nat) : Nat := s.rf (Key.sdCfg n) 20 16

def State.sdEn (s : State) (n : Nat) : Bool := s.rb (Key.sdCfg n) 63

def State.sdLane (s : State) (n : Nat) : Nat := s.rf (Key.sdCfg n) 25 24

def State.sdOsr (s : State) (n : Nat) : Nat := s.rf (Key.sdCfg n) 57 48

def State.sdClksel (s : State) (n : Nat) : Nat := s.rf (Key.sdCfg n) 60 58

def State.sdTs (s : State) (n : Nat) : Bool := s.rb (Key.sdCfg n) 39

/-- A lead whose timestamp and sample want the same lane (11 R373). -/
def State.leadErr (s : State) (n : Nat) : Bool := s.sdTs n && s.sdLane n == 3

/-- The conditions of 11 R373 on an input that names another as its lead. -/
def State.memberOk (s : State) (n : Nat) : Bool :=
  let l := s.sdLead n
  s.sdEn l && s.sdLead l == l && !(s.leadErr l) && s.sdClksel n == s.sdClksel l && s.sdOsr n == s.sdOsr l &&
  s.sdLane n != s.sdLane l &&
  !((List.range n).any (fun m => m != l && s.sdLead m == l && s.sdLane m == s.sdLane n)) &&
  !(s.sdLane n == 3 && s.sdTs l)

/-- SD_STAT.CFGERR (11 R373). -/
def State.sdCfgErr (s : State) (n : Nat) : Bool := if s.sdLead n = n then s.leadErr n else !(s.memberOk n)

/-- The inputs that contribute to the group of lead l, the lead first. -/
def State.contributors (s : State) (l : Nat) : List Nat :=
  l :: (List.range 32).filter (fun m => m != l && s.sdLead m == l && s.memberOk m)

/-- The order of the main filter (11 R371). -/
def State.sdOrder (s : State) (n : Nat) : Nat := if s.rb (Key.sdCfg n) 62 then 4 else 3

/-- Sums of every w consecutive elements. -/
def slidingSums (w : Nat) (xs : List Int) : List Int :=
  let ps := xs.foldl (fun (acc : List Int × Int) x => (acc.1 ++ [acc.2 + x], acc.2 + x)) ([0], 0)
  List.zipWith (fun a b => b - a) ps.1 (ps.1.drop w)

/-- The raw output of a sinc filter over the newest bits of a history: a bit counts as +1 or -1 (11 R371). -/
def sincOut (order w : Nat) (hist : List Bool) : Int :=
  let xs := (hist.take (order * (w - 1) + 1)).map (fun b => if b then (1 : Int) else -1)
  ((List.range order).foldl (fun ys _ => slidingSums w ys) xs).headD 0

/-- A value saturated to n signed bits. -/
def satS (n : Nat) (v : Int) : Int := if v < -(2 ^ (n - 1)) then -(2 ^ (n - 1)) else if 2 ^ (n - 1) ≤ v then 2 ^ (n - 1) - 1 else v

/-- The sample that a raw output gives (11 R371). -/
def sdScaled (scale shift : Nat) (offset r : Int) : Int :=
  satS 32 ((2 * r * scale + 2 ^ shift) / 2 ^ (shift + 1) - offset)

/-- The modulator clock of an input runs: an external one, or its internal clock with EN set (11 R370). -/
def State.sdClockOn (s : State) (n : Nat) : Bool := decide (4 ≤ s.sdClksel n) || s.rb (Key.cioSdClk (s.sdClksel n)) 63

/-- 0.625 ns in units of 2^-32 ns. -/
def sdUnit : Nat := 2684354560

/-- The period of the internal clock of an input (11 R370). -/
def State.sdPer (s : State) (n : Nat) : Nat := s.rf (Key.cioSdClk (s.sdClksel n)) 8 0 * sdUnit

/-- Where in a period of its internal clock the input samples: at the rising edge, or after the high phase (11 R370). -/
def State.sdOff (s : State) (n : Nat) : Nat :=
  if s.rb (Key.sdCfg n) 61 then (s.rf (Key.cioSdClk (s.sdClksel n)) 8 0 + 1) / 2 * sdUnit else 0

/-- The level of internal clock k, and of the ball that drives it out: low until its first rising edge after EN (11 R370). -/
def State.sdClkBall (s : State) (k : Nat) : Bool :=
  let div := s.rf (Key.cioSdClk k) 8 0
  s.rb (Key.cioSdClk k) 63 && decide (tget 0 s.cio.sdFrom k ≤ s.cio.now) && decide (s.cio.now % (div * sdUnit) < (div + 1) / 2 * sdUnit)

/-- The NOW of the tick in which an instant falls: the first tick at or after it, ticks having come at the present rate (11 R365,
log 43). -/
def State.tickNow (s : State) (inst : Nat) : Nat :=
  let inc := (tickInc s.adj (if 0 < s.cio.slew then 100 else if s.cio.slew < 0 then -100 else 0)).toNat
  if s.cio.now < inst then inst else s.cio.now - (s.cio.now - inst) / inc * inc

/-- The number of the first sampling edge of the input's internal clock after an instant; edges are counted from NOW = 0, and from the
first rising edge after the clock's EN (11 R370). -/
def State.sdNext (s : State) (n t : Nat) : Nat :=
  let o := s.sdOff n
  let from' := (tget 0 s.cio.sdFrom (s.sdClksel n) + s.sdPer n - 1) / s.sdPer n
  Nat.max (if t < o then 0 else (t - o) / s.sdPer n + 1) from'

/-- The instant of the sampling edge that is the len-th after an instant (11 R370). -/
def State.sdEdge (s : State) (n t len : Nat) : Nat := s.sdOff n + (s.sdNext n t + len - 1) * s.sdPer n

/-- The instant of the boundary that a window of len bits gives: of the internal clock's edge, at its tick; an external clock's edge comes
now (11 R370, R371). -/
def State.sdInstant (s : State) (n len : Nat) : Nat :=
  if s.sdClksel n < 4 then s.tickNow (s.sdEdge n (s.sdIn n).last (len - (s.sdIn n).part)) else s.cio.now

/-- The word of a group: each contributing sample in its lane, the timestamp of the boundary in lane 3 with TS (11 R373). -/
def State.groupWord (s : State) (l inst : Nat) : Data :=
  let w := (s.contributors l).foldl (fun w m => setBits w (32 * s.sdLane m + 31) (32 * s.sdLane m) (s.sdIn m).sample.toNat)
    (0 : Data)
  if s.sdTs l then setBits w 127 96 (inst / 2 ^ 32 % 2 ^ 32) else w

/-- Every contributing member has left the settling state. -/
def State.groupSettled (s : State) (l : Nat) : Bool := (s.contributors l).all (fun m => (s.sdIn m).settled)

/-- A delivery instant of lead l: its group's word goes to the Event Router, or SKIP counts (11 R373, R374). -/
def State.groupDeliver (s : State) (l inst : Nat) : State :=
  if s.leadErr l then s
  else if s.groupSettled l then s.raise l (s.groupWord l inst)
  else s.count (Key.sdStat l) 63 48 1

/-- No boundary falls on a later sync instant (11 R374). -/
def State.syncError (s : State) (l : Nat) : State := (s.setRf (Key.sdStat l) 4 4 1).inputFault l

/-- With an external clock, a sync instant that no boundary has met is an error once its instant has passed (11 R374). -/
def State.syncResolve (s : State) (l : Nat) : State :=
  match (s.sdIn l).syncAt, (s.sdIn l).alignB with
  | some i, some _ =>
    if s.sdClksel l < 4 || s.cio.now ≤ i then s else (s.setSd l { s.sdIn l with syncAt := none }).syncError l
  | _, _ => s

/-- A boundary of an aligned lead with an internal clock falls in the tick at the instant: it is whole windows after its last edge
(11 R370, R374). -/
def State.syncMeets (s : State) (l inst : Nat) : Bool :=
  let b := s.sdEdge l (s.sdIn l).last (s.sdOsr l - (s.sdIn l).part)
  let w := s.sdOsr l * s.sdPer l
  decide (b < inst + sdUnit) && s.tickNow (b + (inst + sdUnit - 1 - b) / w * w) == inst

/-- A sync instant meets the leads that it synchronises: a boundary that fell on it delivers; a lead aligns its window to the first; a
later one waits for its boundary, or is an error where none falls on it (11 R374). Both are at the NOW of their ticks. -/
def State.sdSync (s : State) (kind n at' l : Nat) : State :=
  let inst := s.tickNow at'
  if s.sdEn l && s.sdLead l == l && s.rf (Key.sdCfg l) 38 37 == kind && s.rf (Key.sdCfg l) 36 32 == n then
    let s1 := s.syncResolve l
    let x := s1.sdIn l
    if x.lastB = some inst then (s1.setSd l { x with lastB := none, alignB := x.lastB }).groupDeliver l inst
    else if x.alignB.isNone then s1.setSd l { x with syncAt := some (x.syncAt.getD inst) }
    else if s.sdClksel l < 4 && !(s1.syncMeets l inst) then s1.syncError l
    else s1.setSd l { x with syncAt := some inst }
  else s

/-- A boundary of lead l: counted for DELIV, or met with a sync instant, the first of which aligns the window (11 R374). -/
def State.leadBoundary (s : State) (l inst : Nat) : State :=
  if s.rf (Key.sdCfg l) 38 37 = 0 then
    if s.groupSettled l then
      let d := (s.sdIn l).deliv + 1
      if s.rf (Key.sdCfg l) 47 40 ≤ d then (s.setSd l { s.sdIn l with deliv := 0 }).groupDeliver l inst
      else s.setSd l { s.sdIn l with deliv := d }
    else s
  else
    let s1 := s.syncResolve l
    let x := s1.sdIn l
    match x.syncAt with
    | some i =>
      if i = inst then (s1.setSd l { x with syncAt := none, lastB := none, alignB := some inst }).groupDeliver l inst
      else if x.alignB.isNone && decide (i < inst) then s1.setSd l { x with syncAt := none, alignB := some inst }
      else s1
    | none => s1

/-- The edge that ends a window is the one on which the lead's first sync instant falls, or with none there the first after it (11 R374,
log 43). -/
def State.alignsAt (s : State) (n i inst : Nat) : Bool :=
  decide (i ≤ inst) && (decide (4 ≤ s.sdClksel n) || decide (inst < i + s.sdPer n))

/-- A window has OSR bits. It ends early only where a lead aligns it to its first sync instant, or where a member's ends with its lead's
aligning one; and the aligning boundary is not passed over (11 R374). -/
def State.windowOk (s : State) (n len inst : Nat) : Bool :=
  let l := s.sdLead n
  let x0 := s.sdIn n
  let x := s.sdIn l
  decide (x0.part < len) &&
  match s.rf (Key.sdCfg l) 38 37, x.alignB, x.syncAt with
  | 0, _, _ => len == s.sdOsr n
  | _, some b, _ => len == s.sdOsr n || (decide (len ≤ s.sdOsr n) && n != l && b == inst)
  | _, none, some i => decide (len ≤ s.sdOsr n) && (s.alignsAt n i inst || (len == s.sdOsr n && decide (inst < i)))
  | _, none, none => len == s.sdOsr n

/-- DECIMATION_BOUNDARY (11 R367, R370 to R374): bits are those of the window, the oldest first; it comes once NOW has reached its edge. A group is delivered at its lead's
boundary, with the samples its members have then (log 43). -/
def execDecimationBoundary (n : Nat) (bits : List Bool) (s : State) : Out :=
  if 32 ≤ n then .fault .noSuchUnit
  else if s.sdEn n && s.sdClockOn n && s.windowOk n bits.length (s.sdInstant n bits.length) &&
      decide (s.sdInstant n bits.length ≤ s.cio.now) then
    let inst := s.sdInstant n bits.length
    let x := s.sdIn n
    let hist := (bits.reverse ++ x.hist).take 2048
    let ent := x.entered + bits.length
    let settled := x.settled || decide (s.sdOrder n * s.sdOsr n ≤ ent)
    let k := Key.sdScale n
    let v := sdScaled (s.rf k 23 0) (s.rf k 29 24) (signed 32 (s.rf k 63 32)) (sincOut (s.sdOrder n) (s.sdOsr n) hist)
    let x' := { x with hist := hist, entered := ent, settled := settled, bounds := x.bounds + 1, lastB := some inst, last := inst, part := 0,
                       sample := if settled then BitVec.ofInt 32 v else x.sample }
    let s1 := s.setSd n x'
    .next (if s.sdLead n = n then s1.leadBoundary n inst else s1)
  else .next s

/-- A write of SD_CFG: while EN is 1 only EN changes; a change of EN starts or stops the input with an empty filter (11 R372,
R375). -/
def State.sdCfgWrite (s : State) (n : Nat) (v : W64) : State :=
  let k := Key.sdCfg n
  if s.sdEn n then
    if bit v 63 then s else ((s.syncResolve n).setRf k 63 63 0).setSd n {}
  else
    let s1 := s.writeReg k v
    if bit v 63 then s1.setSd n { last := s.cio.now } else s1

/-- The bits that the input's clock has sampled up to now join its window's (11 R370). -/
def State.sdHalt (s : State) (n : Nat) : State :=
  let x := s.sdIn n
  s.setSd n { x with part := x.part + (s.sdNext n s.cio.now - s.sdNext n x.last), last := s.cio.now }

/-- A write of CIO_SD_CLK: a clock whose EN becomes 1 starts at its next rising edge; one that stops leaves the windows of its inputs as
they are (11 R370). -/
def State.sdClkWrite (s : State) (k : Nat) (v : W64) : State :=
  let was := s.rb (Key.cioSdClk k) 63
  let s0 := if was && !(bit v 63) then (List.range 32).foldl (fun s n => if s.sdEn n && s.sdClksel n == k then s.sdHalt n else s) s else s
  let s1 := s0.writeReg (Key.cioSdClk k) v
  if was || !(bit v 63) then s1
  else
    let per := s1.rf (Key.cioSdClk k) 8 0 * sdUnit
    { s1 with cio := { s1.cio with sdFrom := tput s1.cio.sdFrom k ((s.cio.now / per + 1) * per) } }

/-- SD_CFG_WRITE (11 R375). -/
def execSdCfgWrite (n : Nat) (v : W64) (s : State) : Out :=
  if 32 ≤ n then .fault .noSuchUnit else .next (s.sdCfgWrite n v)

/-- SD_CLOCK_LOSS (11 R373, R375): on the ball SD_CK of input n; the ball of a lead clocks every member of its group. -/
def execSdClockLoss (n : Nat) (s : State) : Out :=
  if 32 ≤ n then .fault .noSuchUnit
  else
    let hit := (List.range 32).filter (fun m => s.sdLead m == n && s.sdEn m && s.sdClksel m == 4)
    if hit.isEmpty then .next s
    else
      let s1 := hit.foldl (fun s m =>
        (s.setSd m { s.sdIn m with hist := [], entered := 0, settled := false }).setRf (Key.sdStat m) 1 1 1) s
      .next (s1.raise 158 (BitVec.ofNat 128 (hit.foldl (fun a m => a + 2 ^ m) 0)))

/-- SD_STUCK (11 R375): the filter keeps running. -/
def execSdStuck (n : Nat) (_level : Bool) (s : State) : Out :=
  if 32 ≤ n then .fault .noSuchUnit
  else if s.sdEn n then .next ((s.setRf (Key.sdStat n) 3 3 1).inputFault n)
  else .next s

/-- The ratio of a fast comparator (11 R376). -/
def State.cosr (s : State) (n : Nat) : Nat := 8 * 2 ^ s.rf (Key.sdCmp n) 61 60

/-- The output of the fast comparator in Q15 (11 R376); bits are its window, the oldest first. -/
def State.cmpOut (s : State) (n : Nat) (bits : List Bool) : Int :=
  satS 16 (sincOut 2 (s.cosr n) bits.reverse * 32768 / (s.cosr n * s.cosr n : Nat))

/-- The fast comparator is active: it is enabled and 2 × COSR bits have entered (11 R376). -/
def State.cmpActive (s : State) (n : Nat) (bits : List Bool) : Bool :=
  s.sdEn n && s.rb (Key.sdCmp n) 63 && s.sdClockOn n && decide (2 * s.cosr n ≤ bits.length)

/-- The output lies above HI or below LO (11 R376). -/
def State.cmpOver (s : State) (n : Nat) (bits : List Bool) : Bool :=
  let y := s.cmpOut n bits
  decide (signed 16 (s.rf (Key.sdCmp n) 31 16) < y) || decide (y < signed 16 (s.rf (Key.sdCmp n) 15 0))

/-- COMPARATOR_OVER_RANGE (11 R376, R400). -/
def execComparatorOverRange (n : Nat) (bits : List Bool) (s : State) : Out :=
  if 32 ≤ n then .fault .noSuchUnit
  else if s.cmpActive n bits && s.cmpOver n bits then
    let s1 := (s.setRf (Key.sdStat n) 5 5 1).setSd n { s.sdIn n with overRange := true }
    .next (if s.rb (Key.sdCmp n) 62 then s1.trip (1#16 <<< s.rf (Key.sdCmp n) 59 56) else s1)
  else .next s

/-- COMPARATOR_IN_RANGE (11 R402): the cause of the trip is no longer active. -/
def execComparatorInRange (n : Nat) (bits : List Bool) (s : State) : Out :=
  if 32 ≤ n then .fault .noSuchUnit
  else if s.cmpActive n bits && !(s.cmpOver n bits) then .next (s.setSd n { s.sdIn n with overRange := false })
  else .next s

/-! ## SAR ADC (11 R378 to R380) -/

/-- Sequence q is triggered (11 R378, R379); a converter that is off ignores it (log 43). -/
def State.adcTrigger (s : State) (q : Nat) : State :=
  if !(s.rb Key.adcCtl 63) then s
  else if s.rb Key.adcCtl 62 || s.cio.adcRun == some q || s.cio.adcQueue.contains q then s.count Key.adcStat 63 48 1
  else match s.cio.adcRun with
    | none =>
      if s.cio.adcQueue.isEmpty then { s with cio := { s.cio with adcRun := some q } }
      else { s with cio := { s.cio with adcQueue := s.cio.adcQueue ++ [q] } }
    | some _ => { s with cio := { s.cio with adcQueue := s.cio.adcQueue ++ [q] } }

/-- A write of ADC_CTL (11 R378): a rising EN starts calibration; a converter that is off holds no sequence (log 43). -/
def State.adcCtlWrite (s : State) (v : W64) : State :=
  let s1 := s.setRf Key.adcCtl 63 63 (b2n (bit v 63))
  if bit v 63 then (if s.rb Key.adcCtl 63 then s1 else s1.setRf Key.adcCtl 62 62 1)
  else { s1.setRf Key.adcCtl 62 62 0 with cio := { s.cio with adcRun := none, adcQueue := [] } }

/-- ADC_ENABLE (11 R378). -/
def execAdcEnable (v : W64) (s : State) : Out := .next (s.adcCtlWrite v)

/-- ADC_CALIBRATION_DONE (11 R378). -/
def execAdcCalibrationDone (s : State) : Out := .next (s.setRf Key.adcCtl 62 62 0)

/-- A write of ADC_SWTRIG triggers the sequences it names, the lower first (11 R378). -/
def State.adcSwtrigWrite (s : State) (v : W64) : State :=
  (List.range 4).foldl (fun s q => if bit v q then s.adcTrigger q else s) s

/-- ADC_SWTRIG (11 R378). -/
def execAdcSwtrig (v : W64) (s : State) : Out := .next (s.adcSwtrigWrite v)

/-- ADC_SEQUENCE_START (11 R379). -/
def execAdcSequenceStart (s : State) : Out :=
  match s.cio.adcRun, s.cio.adcQueue with
  | none, q :: r => .next { s with cio := { s.cio with adcRun := some q, adcQueue := r } }
  | _, _ => .next s

/-- The word of a sequence: lane i is the code of slot i less 32,768, lanes from LEN upward 0 (11 R380). -/
def adcWord (len : Nat) (codes : List (BitVec 16)) : Data :=
  (List.range len).foldl (fun (w : Data) i => setBits w (16 * i + 15) (16 * i) ((codes.getD i 0) ^^^ 0x8000#16).toNat) 0

/-- ADC_SEQUENCE_END (11 R380): codes are those of the slots in order. -/
def execAdcSequenceEnd (codes : List (BitVec 16)) (s : State) : Out :=
  match s.cio.adcRun with
  | none => .next s
  | some q =>
    let len := s.rf (Key.adcSeq q) 63 60
    if codes.length < len then .next s
    else
      .next ({ s with cio := { s.cio with adcRun := none } }.raise (32 + s.rf (Key.adcSeq q) 3 0) (adcWord len codes))

/-! ## Encoders (11 R382 to R384) -/

/-- A delivery of interface n (11 R383): position and timestamp, what happened since the last one, and whether this frame failed. -/
def State.encDeliver (s : State) (n : Nat) (pos : W64) (ts : BitVec 32) (failed : Bool) : State :=
  let e := s.enc n
  let w := pos.toNat + ts.toNat * 2 ^ 64 + b2n e.zSince * 2 ^ 96 + b2n e.qSince * 2 ^ 97 + b2n failed * 2 ^ 98
  (s.setEnc n { e with zSince := false, qSince := false }).raise (48 + n) (BitVec.ofNat 128 w)

/-- Interface n is triggered at an instant (11 R383). -/
def State.encTrigger (s : State) (n inst : Nat) : State :=
  if s.rf (Key.encCfg n) 62 61 = 0 then s.encDeliver n (s.reg (Key.encPos n)) (BitVec.ofNat 32 (inst / 2 ^ 32)) false
  else if (s.enc n).frame.isSome || decide (inst / 2 ^ 32 < (s.enc n).monoUntil) then s.count (Key.encStat n) 63 48 1
  else s.setEnc n { s.enc n with frame := some (inst / 2 ^ 32) }

def State.encAbz (s : State) (n : Nat) : Bool := s.rb (Key.encCfg n) 63 && s.rf (Key.encCfg n) 62 61 == 0

/-- Whether A and B moved one step in the sense A leads B: 00, 10, 11, 01. -/
def quadUp (a b a' b' : Bool) : Bool := if a != a' then a' != b else a == b'

/-- ENCODER_EDGE (11 R382): a filtered sample of A and B. -/
def execEncoderEdge (n : Nat) (a b : Bool) (s : State) : Out :=
  if 8 ≤ n then .fault .noSuchUnit
  else
    let e := s.enc n
    let s1 := s.setEnc n { e with a := a, b := b }
    if !(s.encAbz n) || (a == e.a && b == e.b) then .next s1
    else if a != e.a && b != e.b then
      .next ((s.setEnc n { e with a := a, b := b, qSince := true }).setRf (Key.encStat n) 0 0 1)
    else
      let up := quadUp e.a e.b a b == Config.encoderALeadsUp
      .next (s1.setReg (Key.encPos n) (s.reg (Key.encPos n) + (if up then 1 else -1)))

/-- ENCODER_INDEX (11 R382). -/
def execEncoderIndex (n : Nat) (s : State) : Out :=
  if 8 ≤ n then .fault .noSuchUnit
  else if s.encAbz n then
    let s1 := (s.setReg (Key.encZpos n) (s.reg (Key.encPos n))).setRf (Key.encStat n) 2 2 1
    let s2 := s1.setEnc n { s.enc n with zSince := true }
    .next (if s.rb (Key.encCfg n) 60 then s2.setReg (Key.encPos n) 0 else s2)
  else .next s

/-- Gray code to binary over 32 bits. -/
def grayDecode (v : Nat) : Nat := (List.range 32).foldl (fun a i => a ^^^ (v >>> i)) 0

/-- SSI_FRAME_END (11 R383, R384): the bits read, whether the line was low at the trigger, and the bit after the last data bit. -/
def execSsiFrameEnd (n : Nat) (raw : BitVec 32) (lineLow tail : Bool) (s : State) : Out :=
  if 8 ≤ n then .fault .noSuchUnit
  else match (s.enc n).frame with
    | none => .next s
    | some t0 =>
      let c := Key.encCfg n
      let endNs := t0 + (s.rf c 39 32 + 1) * s.rf c 31 16 * 10
      let e := { s.enc n with frame := none, monoUntil := endNs + s.rf c 15 0 * 10 }
      if lineLow || tail then
        .next ((((s.setEnc n e).setRf (Key.encStat n) 1 1 1).inputFault (32 + n)).encDeliver n e.pos e.ts true)
      else
        let r := raw.toNat % 2 ^ s.rf c 39 32
        let v := BitVec.ofNat 64 (if s.rf c 62 61 = 2 then grayDecode r else r)
        let ts := BitVec.ofNat 32 t0
        .next ((s.setEnc n { e with pos := v, ts := ts }).encDeliver n v ts false)

/-- A write of ENC_CFG: a change of EN drops the frame in progress; when EN rises no good frame has been read (11 R384). -/
def State.encCfgWrite (s : State) (n : Nat) (v : W64) : State :=
  let s1 := s.writeReg (Key.encCfg n) v
  if s.rb (Key.encCfg n) 63 == bit v 63 then s1
  else s1.setEnc n { s.enc n with frame := none, pos := 0, ts := 0, zSince := false, qSince := false }

/-! ## Resolvers (11 R386, R387) -/

/-- A resolver's input is enabled as its own lead without SYNC, its clock runs, and an internal one gives it 16 boundaries a period
(11 R370, R386). -/
def State.resInputOk (s : State) (n i : Nat) : Bool :=
  s.sdEn i && s.sdLead i == i && s.rf (Key.sdCfg i) 38 37 == 0 && s.sdClockOn i &&
  (decide (4 ≤ s.sdClksel i) ||
    decide (16 * s.sdOsr i * s.rf (Key.cioSdClk (s.sdClksel i)) 8 0 * 5 ≤ 8 * s.rf (Key.resCfg n) 18 0))

def State.resSin (s : State) (n : Nat) : Nat := s.rf (Key.resCfg n) 60 56

def State.resCos (s : State) (n : Nat) : Nat := s.rf (Key.resCfg n) 55 51

/-- The configuration of channel n is not refused (11 R386). -/
def State.resOk (s : State) (n : Nat) : Bool := s.resInputOk n (s.resSin n) && s.resInputOk n (s.resCos n) && !(s.resCh n).few

/-- Both inputs have left their settling state. -/
def State.resSettledInputs (s : State) (n : Nat) : Bool := (s.sdIn (s.resSin n)).settled && (s.sdIn (s.resCos n)).settled

/-- The amplitude in Q31; its rounding is open (log 33). -/
def resAmplitude (sin cos : Int) : Nat :=
  let q := (sin * sin + cos * cos).toNat
  let r := Nat.sqrt q
  if r * r = q then r else r + b2n (Config.resolverRoundUp q)

/-- Externally clocked inputs placed fewer than 16 boundaries in the period that ends. -/
def State.resFew (s : State) (n : Nat) : Bool :=
  let r := s.resCh n
  (decide (4 ≤ s.sdClksel (s.resSin n)) && decide ((s.sdIn (s.resSin n)).bounds < r.snapSin + 16)) ||
  (decide (4 ≤ s.sdClksel (s.resCos n)) && decide ((s.sdIn (s.resCos n)).bounds < r.snapCos + 16))

/-- RESOLVER_PERIOD_END (11 R386, R387): the demodulated sine and cosine in Q31, and whether the tracking error stayed below 2^-12 turn,
once NOW has reached the end of the period (log 33). -/
def execResolverPeriodEnd (n : Nat) (sin cos : Int) (tracking : Bool) (s : State) : Out :=
  if 4 ≤ n then .fault .noSuchUnit
  else if !(s.rb (Key.resCfg n) 63) || decide (s.cio.now < (s.resCh n).endAt) then .next s
  else
    let inst := (s.resCh n).endAt
    let s0 := s.setRes n { s.resCh n with endAt := inst + s.rf (Key.resCfg n) 18 0 * 2 ^ 32, few := s.resFew n, snapSin := (s.sdIn (s.resSin n)).bounds,
                                          snapCos := (s.sdIn (s.resCos n)).bounds }
    let r := s0.resCh n
    if !(s0.resOk n) then .next (s0.setRes n { r with good := 0, settled := false, deliv := 0 })
    else if !(s0.resSettledInputs n) then .next (s0.setRes n { r with good := 0, settled := false, deliv := 0 })
    else if !r.settled then
      let g := if tracking then r.good + 1 else 0
      .next (s0.setRes n { r with good := g, settled := decide (16 ≤ g), deliv := 0 })
    else
      let d := r.deliv + 1
      let amp := resAmplitude sin cos
      let out := decide ((signed 16 (s.rf (Key.resThr n) 31 16)) * 65536 < (amp : Int)) ||
        decide ((amp : Int) < (signed 16 (s.rf (Key.resThr n) 15 0)) * 65536)
      let s1 := if out then (s0.setRf (Key.resStat n) 1 1 1).inputFault (40 + n) else s0
      if d < s.rf (Key.resCfg n) 47 40 then .next (s1.setRes n { r with deliv := d })
      else
        let (ang, vel) := Config.resolverTrack n (s.rf (Key.resCfg n) 62 61) sin cos s.fresh
        let lane2 := if amp < 2 ^ 31 then amp else bits (Config.freeValue (s.fresh + 1)) 31 0
        let w := ang.toNat + vel.toNat * 2 ^ 32 + lane2 * 2 ^ 64 + inst / 2 ^ 32 % 2 ^ 32 * 2 ^ 96
        .next ({ s1.setRes n { r with deliv := 0 } with fresh := s.fresh + 2 }.raise (56 + n) (BitVec.ofNat 128 w))

/-- A write of RES_CFG: a change of EN starts the channel afresh, its excitation with it (11 R386, log 33). -/
def State.resCfgWrite (s : State) (n : Nat) (v : W64) : State :=
  let s1 := s.writeReg (Key.resCfg n) v
  if s.rb (Key.resCfg n) 63 == bit v 63 then s1
  else s1.setRes n { snapSin := (s.sdIn (s1.resSin n)).bounds, snapCos := (s.sdIn (s1.resCos n)).bounds,
                     endAt := s.cio.now + s1.rf (Key.resCfg n) 18 0 * 2 ^ 32 }

/-! ## Triggers (11 R374, R378, R383) -/

/-- A trigger at an instant: kind 1 a period boundary, 2 a period centre of gate unit n, 3 the firing of compare unit n. -/
def State.trigger (s : State) (kind n inst : Nat) : State :=
  let s1 := (List.range 32).foldl (fun s l => s.sdSync kind n inst l) s
  let s2 := (List.range 4).foldl (fun s q =>
    if s.rf (Key.adcSeq q) 59 58 = kind ∧ s.rf (Key.adcSeq q) 57 53 = n then s.adcTrigger q else s) s1
  (List.range 8).foldl (fun s i =>
    if s.rb (Key.encCfg i) 63 ∧ s.rf (Key.encCfg i) 55 54 = kind ∧ s.rf (Key.encCfg i) 53 49 = n then s.encTrigger i inst else s) s2

/-! ## Timebase and compare units (11 R366 to R369) -/

/-- A read of NOW latches its fraction (11 R369). -/
def State.tbLatch (s : State) : State := s.setReg Key.cioTbFrac (BitVec.ofNat 64 (s.cio.now % 2 ^ 32))

/-- TB_NOW_READ (11 R369). -/
def execTbNowRead (s : State) : Out := .next s.tbLatch

/-- A standby's timebase is locked to the primary's: software writes no rate, slew or step (14 R477). -/
def State.tbLocked (s : State) : Bool := s.pair.role == 2 && s.rb Key.pairCtl 63 && s.rb Key.pairCtl 62

/-- A write of CIO_TB_RATE: a reserved ADJ leaves it (11 R369, 00 R5). -/
def State.tbRateWrite (s : State) (v : W64) : State :=
  let a := signed 32 (bits v 31 0)
  if s.tbLocked then s
  else if -500000 ≤ a ∧ a ≤ 500000 then s.writeReg Key.cioTbRate v else s

/-- TB_RATE_WRITE (11 R366). -/
def execTbRateWrite (v : W64) (s : State) : Out := .next (s.tbRateWrite v)

/-- A slew of the offset in v starts: any slew in progress is discarded (11 R366). -/
def State.slewStart (s : State) (v : W64) : State :=
  let ofs := signed 40 (bits v 39 0)
  { (s.writeReg Key.cioTbSlew v).setRf Key.cioTbSlew 63 63 (b2n (ofs != 0)) with cio := { s.cio with slew := ofs * 2 ^ 32 } }

/-- A write of CIO_TB_SLEW (11 R366, 14 R477). -/
def State.tbSlewWrite (s : State) (v : W64) : State := if s.tbLocked then s else s.slewStart v

/-- TB_SLEW_WRITE (11 R366). -/
def execTbSlewWrite (v : W64) (s : State) : Out := .next (s.tbSlewWrite v)

/-- SLEW_COMPLETE (11 R366): the ticks have absorbed the offset, and the slew is over; BUSY shows what they have left (log 44). -/
def execSlewComplete (s : State) : Out := .next (if s.cio.slew = 0 then s.setRf Key.cioTbSlew 63 63 0 else s)

/-- Some gate unit is RUN or ARMED. -/
def State.gatesBusy (s : State) : Bool := (List.range 16).any (fun u => (s.gu u).run || (s.gu u).armed)

/-- A write of CIO_TB_STEP (11 R366, R391). -/
def State.tbStepWrite (s : State) (v : W64) : State :=
  if s.tbLocked then s
  else if s.gatesBusy || bit v 63 then (s.setRf Key.cioTbStat 0 0 1).raise 159 (1#128 <<< 16)
  else { s with cio := { s.cio with now := (s.cio.now + v.toNat * 2 ^ 32) % 2 ^ 96 } }

/-- TB_STEP_WRITE (11 R366). -/
def execTbStepWrite (v : W64) (s : State) : Out := .next (s.tbStepWrite v)

/-- A write of AT or ARM: an AT that has passed when ARM is 1 fires at the next tick, and sets PAST (11 R368). -/
def State.compareArmed (s : State) (n : Nat) : State :=
  let was := s.rb (Key.cioTbCmpctl n) 0 && decide ((s.reg (Key.cioTbCmp n)).toNat ≤ s.nowNs)
  let rest := tdel s.cio.past n
  { s with cio := { s.cio with past := if was then tput rest n (s.cio.tick s.adj).now else rest } }

/-- A write of CIO_TB_CMP or CIO_TB_CMPCTL (11 R368). -/
def State.compareWrite (s : State) (n : Nat) (ctl : Bool) (v : W64) : State :=
  if ctl then
    let s1 := s.writeReg (Key.cioTbCmpctl n) v
    if s.rb (Key.cioTbCmpctl n) 0 == bit v 0 then s1 else s1.compareArmed n
  else (s.writeReg (Key.cioTbCmp n) v).compareArmed n

/-- COMPARE_WRITE (11 R368). -/
def execCompareWrite (n : Nat) (ctl : Bool) (v : W64) (s : State) : Out :=
  if 32 ≤ n then .fault .noSuchUnit else .next (s.compareWrite n ctl v)

/-- The instant at which compare unit n fires: the next tick where AT had passed, else AT (11 R368). -/
def State.compareAt (s : State) (n : Nat) : Nat := (tfind s.cio.past n).getD ((s.reg (Key.cioTbCmp n)).toNat * 2 ^ 32)

/-- COMPARE_FIRE (11 R368): the first tick in which ARM is 1 and NOW is at or past AT; that tick's NOW has the nanosecond of AT. -/
def execCompareFire (n : Nat) (s : State) : Out :=
  if 32 ≤ n then .fault .noSuchUnit
  else if s.rb (Key.cioTbCmpctl n) 0 && decide (s.compareAt n ≤ s.cio.now) then
    let per := s.rf (Key.cioTbCmpctl n) 63 32
    let s1 := s.raise (160 + n) (BitVec.ofNat 128 (s.compareAt n / 2 ^ 32 % 2 ^ 64))
    let s2 := if (tfind s.cio.past n).isSome then
        { s1.setRf (Key.cioTbCmpctl n) 1 1 1 with cio := { s.cio with past := tdel s.cio.past n } } else s1
    let s3 := if per = 0 then s2.setRf (Key.cioTbCmpctl n) 0 0 0
      else s2.setReg (Key.cioTbCmp n) (s.reg (Key.cioTbCmp n) + BitVec.ofNat 64 per)
    .next (s3.trigger 3 n (s.compareAt n))
  else .next s

end Sys2Proof.Machine
end

