-- ==== Sys2Proof/Machine/Gates.lean ====
section
/-! DEFINITION. The gate-pattern units and gate inhibit, and what software reads and writes in the pages of the control IO
(11 R364, R369, R377, R381, R385, R387, R392 to R404). -/

namespace Sys2Proof.Machine

def State.guMode (s : State) (u : Nat) : Nat := s.rf (Key.guCfg u) 63 62

def State.guHalf (s : State) (u : Nat) : Nat := s.rf (Key.guHalf u) 23 0

/-- The sources of the channels of unit u whose EVSEL is e, with the NOW of the event (11 R390, R399). -/
def State.gateEvents (s : State) (u e nowNs : Nat) : State :=
  (List.range 6).foldl (fun s c => if s.evsel u c = e then s.raise (60 + 6 * u + c) (BitVec.ofNat 128 nowNs) else s) s

/-! ## Carrier and demand (11 R393 to R395) -/

/-- The instant of carrier event k of unit u, in units of 2^-32 ns: even k a boundary, odd k a centre (11 R393). -/
def State.carrierAt (s : State) (u k : Nat) : Nat := (s.reg (Key.guStart u)).toNat * 2 ^ 32 + k * s.guHalf u * 2 ^ 30

/-- The first carrier event after an instant. -/
def State.carrierNext (s : State) (u now : Nat) : Nat :=
  let start := (s.reg (Key.guStart u)).toNat * 2 ^ 32
  if now < start then 0 else (now - start) / (s.guHalf u * 2 ^ 30) + 1

/-- Position pos of the period in progress, in units of 250 ps of NOW. -/
def State.posAbs (s : State) (u pos : Nat) : Nat :=
  (s.reg (Key.guStart u)).toNat * 4 + ((s.gu u).next - 1) / 2 * (2 * s.guHalf u) + pos

/-- The compare value of a leg. -/
def Pattern.cmp : Pattern → Nat → Nat
  | .comp c0 _ _, 0 => c0
  | .comp _ c1 _, 1 => c1
  | .comp _ _ c2, _ => c2
  | .edges _, _ => 0

/-- What the applied pattern asks of channel c at position pos of the period, dead time apart; in EDGE mode before the interlock
(11 R394, R395). -/
def Pattern.demand (p : Pattern) (half c pos : Nat) : Bool :=
  match p with
  | .comp _ _ _ =>
    let x := p.cmp (c / 2)
    let hi := decide (half - x ≤ pos) && decide (pos < half + x)
    if c % 2 = 0 then hi else !hi
  | .edges rf => match rf[c]? with
    | some (r, f) => decide (r ≤ pos) && decide (pos < f)
    | none => false

/-- The partner of a channel: the other switch of its leg. -/
def partner (c : Nat) : Nat := if c % 2 = 0 then c + 1 else c - 1

/-- A channel turns off at an instant. -/
def GateUnit.turnOff (g : GateUnit) (c at250 : Nat) : GateUnit := { g with on := setBits g.on c c 0, offAt := tput g.offAt c at250 }

/-- Dead time: the partner is off and has been for at least DT (11 R394). -/
def GateUnit.deadOver (g : GateUnit) (c at250 dt : Nat) : Bool :=
  !(bit g.on (partner c)) && (match tfind g.offAt (partner c) with | none => true | some a => decide (a + dt ≤ at250))

/-- Channel c of unit u at position pos: it turns off or on as the pattern, dead time and the EDGE interlock have it (11 R394,
R395), raising its event when EVSEL selects edges (R399). Nothing switches while the outputs are held (R403). -/
def State.channelEdge (s : State) (u c pos : Nat) : State :=
  let g := s.gu u
  let half := s.guHalf u
  let at250 := s.posAbs u pos
  let edge (s : State) : State := if s.evsel u c = 4 then s.raise (60 + 6 * u + c) (BitVec.ofNat 128 (at250 / 4)) else s
  match g.pat with
  | none => s
  | some p =>
    if !g.run || g.hold || s.cio.inhibited u then s
    else
      let want := p.demand half c pos
      match p with
      | .comp _ _ _ =>
        if bit g.on c && !want then edge (s.setGu u (g.turnOff c at250))
        else if !(bit g.on c) && want && g.deadOver c at250 (s.rf (Key.guCfg u) 11 0) then
          edge (s.setGu u { g with on := setBits g.on c c 1 })
        else s
      | .edges _ =>
        let other := p.demand half (partner c) pos
        if want && other then
          let wasC := bit g.on c
          let wasP := bit g.on (partner c)
          let g1 := if wasC then g.turnOff c at250 else g
          let g2 := if wasP then g1.turnOff (partner c) at250 else g1
          let s1 := s.setGu u { g2 with overlap := setBits g2.overlap (c / 2) (c / 2) 1 }
          let s2 := if wasC then edge s1 else s1
          let s3 := if wasP && s2.evsel u (partner c) == 4 then
            s2.raise (60 + 6 * u + partner c) (BitVec.ofNat 128 (at250 / 4)) else s2
          if bit g.overlap (c / 2) then s3 else (s3.setRf (Key.guStat u) 3 3 1).gateFault u
        else
          let g1 := { g with overlap := setBits g.overlap (c / 2) (c / 2) 0 }
          if bit g.on c && !want then edge (s.setGu u (g1.turnOff c at250))
          else if !(bit g.on c) && want then edge (s.setGu u { g1 with on := setBits g1.on c c 1 })
          else s.setGu u g1

/-- The outputs take the states that the pattern gives at position pos: those to turn off first (11 R394, R397). -/
def State.settleOutputs (s : State) (u pos : Nat) : State :=
  let offs := (List.range 6).foldl (fun s c => if bit (s.gu u).on c then s.channelEdge u c pos else s) s
  (List.range 6).foldl (fun s c => if bit (s.gu u).on c then s else s.channelEdge u c pos) offs

/-- GATE_EDGE (11 R394, R395, R399): pos in units of 250 ps from the last period boundary, which NOW has reached. -/
def execGateEdge (u c pos : Nat) (s : State) : Out :=
  if 16 ≤ u ∨ 6 ≤ c then .fault .noSuchUnit
  else if pos < 2 * s.guHalf u && decide (s.posAbs u pos ≤ s.now250) then .next (s.channelEdge u c pos)
  else .next s

/-! ## Starting, stopping and the carrier (11 R393, R396 to R399) -/

/-- A write that a running or armed unit refuses (11 R398). -/
def State.guRefuse (s : State) (u : Nat) : State := (s.setRf (Key.guStat u) 2 2 1).gateFault u

def State.guBusy (s : State) (u : Nat) : Bool := (s.gu u).run || (s.gu u).armed

/-- A write of GU_CFG (11 R398): the first MODE other than 0 takes the unit's balls out of high impedance (19 R620). -/
def State.guCfgWrite (s : State) (u : Nat) (v : W64) : State :=
  if s.guBusy u then s.guRefuse u
  else
    let s1 := s.writeReg (Key.guCfg u) v
    if s1.guMode u = 0 then s1 else { s1 with cio := { s1.cio with driven := s1.cio.driven ||| (1#16 <<< u) } }

/-- A write of GU_START (11 R396, R398, R403): AT in the future arms the unit, AT passed runs it; outputs that a cause holds off stay held
to a boundary. -/
def State.gateStartWrite (s : State) (u : Nat) (v : W64) : State :=
  if s.guBusy u then s.guRefuse u
  else
    let s1 := s.setReg (Key.guStart u) v
    if v.toNat ≤ s.nowNs then
      s1.modGu u (fun g => { g with run := true, stopping := false, pat := none, next := s1.carrierNext u s1.cio.now, hold := s1.cio.inhibited u })
    else s1.modGu u (fun g => { g with armed := true })

/-- GATE_START_WRITE (11 R396). -/
def execGateStartWrite (u : Nat) (v : W64) (s : State) : Out :=
  if 16 ≤ u then .fault .noSuchUnit else .next (s.gateStartWrite u v)

/-- The last of the staged patterns is applied, and the others count as replaced (11 R397). -/
def State.applyStaged (s : State) (u : Nat) (q rest : List Staged) : State :=
  match q.getLast? with
  | none => s
  | some x => (s.modGu u (fun g => { g with pat := some x.pat, staged := rest })).count (Key.guStat u) 63 48 (q.length - 1)

/-- GATE_RUN_START (11 R396): at AT the unit runs, and a pattern stored before is applied. -/
def execGateRunStart (u : Nat) (s : State) : Out :=
  if 16 ≤ u then .fault .noSuchUnit
  else if (s.gu u).armed && decide ((s.reg (Key.guStart u)).toNat ≤ s.nowNs) then
    let q := (s.gu u).staged
    let s1 := s.modGu u (fun g => { g with armed := false, run := true, stopping := false, pat := none, next := 0, hold := s.cio.inhibited u })
    let s2 := s1.applyStaged u q []
    .next (if q.isEmpty then s2 else s2.gateEvents u 3 (s.reg (Key.guStart u)).toNat)
  else .next s

/-- A write of STOP (11 R396). -/
def State.gateStop (s : State) (u : Nat) : State :=
  let g := s.gu u
  if g.run then s.setGu u { g with stopping := true }
  else if g.armed then s.setGu u { g with armed := false, staged := [], pat := none }
  else s

/-- GATE_STOP (11 R396). -/
def execGateStop (u : Nat) (s : State) : Out :=
  if 16 ≤ u then .fault .noSuchUnit else .next (s.gateStop u)

/-- The staged patterns that a boundary at an instant applies, and those that stay (11 R396, R397): those stored before the unit ran, and with UPD
= 0 those sent at least 40 ns before it. -/
def State.qualify (s : State) (u inst : Nat) : List Staged × List Staged :=
  (s.gu u).staged.partition (fun x => x.early || (!(s.rb (Key.guCfg u) 61) && decide (x.sent + 40 * 2 ^ 32 ≤ inst)))

/-- The outputs of a unit at a boundary with no cause left resume with the latest pattern accepted (11 R403). -/
def State.resumeOutputs (s : State) (u : Nat) : State :=
  let g := s.gu u
  if !g.hold || s.cio.inhibited u then s
  else
    let g1 := { g with hold := false }
    match g.staged.getLast? with
    | some x => (s.setGu u { g1 with pat := some x.pat, staged := [] }).count (Key.guStat u) 63 48 (g.staged.length - 1)
    | none => s.setGu u g1

/-- GATE_PERIOD_BOUNDARY (11 R393, R396, R397, R399, R403). -/
def execGatePeriodBoundary (u : Nat) (s : State) : Out :=
  if 16 ≤ u then .fault .noSuchUnit
  else
    let g := s.gu u
    let inst := s.carrierAt u g.next
    if g.run && g.next % 2 == 0 && decide (inst ≤ s.cio.now) then
      let ns := inst / 2 ^ 32
      let s0 := s.setGu u { g with next := g.next + 1 }
      let s1 :=
        if g.stopping then
          let s1 := s0.offUnit u (inst / 2 ^ 30)
          let held := s0.cio.inhibited u
          s1.setGu u { s1.gu u with run := false, stopping := false, pat := none, staged := [], hold := held }
        else
          let (q, rest) := s0.qualify u inst
          let s1 := s0.applyStaged u q rest
          let s2 := s1.resumeOutputs u
          let applied := !q.isEmpty || (s1.gu u).staged != (s2.gu u).staged
          let s3 := if applied then s2.gateEvents u 3 ns else s2
          s3.settleOutputs u 0
      .next ((s1.gateEvents u 1 ns).trigger 1 u inst)
    else .next s

/-- GATE_PERIOD_CENTRE (11 R393, R399). -/
def execGatePeriodCentre (u : Nat) (s : State) : Out :=
  if 16 ≤ u then .fault .noSuchUnit
  else
    let g := s.gu u
    let inst := s.carrierAt u g.next
    if g.run && g.next % 2 == 1 && decide (inst ≤ s.cio.now) then
      .next (((s.setGu u { g with next := g.next + 1 }).gateEvents u 2 (inst / 2 ^ 32)).trigger 2 u inst)
    else .next s

/-! ## Patterns (11 R394, R395, R397) -/

/-- A compare value clamped to 0 to HALF (11 R394). -/
def clampCmp (half v : Nat) : Nat := let x := signed 32 v; if x < 0 then 0 else if half < x.toNat then half else x.toNat

/-- The pattern of a 128-bit store to the pattern window (11 R394). -/
def compPattern (half : Nat) (d : Data) : Pattern :=
  .comp (clampCmp half (bits d 31 0)) (clampCmp half (bits d 63 32)) (clampCmp half (bits d 95 64))

/-- A pattern is accepted (11 R396, R397). -/
def State.stage (s : State) (u sent : Nat) (p : Pattern) : State :=
  s.modGu u (fun g => { g with staged := g.staged ++ [{ pat := p, sent := sent, early := !g.run }] })

/-- A store to GU_PAT; an error response unless MODE is COMP3 (11 R394). -/
def State.patternStore (s : State) (u sent : Nat) (d : Data) : Option State :=
  if s.guMode u = 1 then some (s.stage u sent (compPattern (s.guHalf u) d)) else none

/-- PATTERN_STORE (11 R394, R397): it reaches the unit 16 ns after it was sent (R364). -/
def execPatternStore (u : Nat) (d : Data) (s : State) : Out :=
  if 16 ≤ u then .fault .noSuchUnit else .next ((s.patternStore u (s.cio.now - 16 * 2 ^ 32) d).getD s)

/-- PATTERN_APPLY (11 R397): with UPD = 1 the oldest pattern sent to the running unit, 40 ns after it was sent, at the position pos that the
carrier has then. -/
def execPatternApply (u pos : Nat) (s : State) : Out :=
  if 16 ≤ u then .fault .noSuchUnit
  else
    let g := s.gu u
    match g.staged with
    | x :: r =>
      let inst := x.sent + 40 * 2 ^ 32
      if g.run && s.rb (Key.guCfg u) 61 && !x.early && pos == (inst / 2 ^ 30 - 4 * (s.reg (Key.guStart u)).toNat) % (2 * s.guHalf u) &&
          decide (inst ≤ s.cio.now) then
        let s1 := s.setGu u { g with pat := some x.pat, staged := r }
        .next ((s1.gateEvents u 3 (inst / 2 ^ 32)).settleOutputs u pos)
      else .next s
    | [] => .next s

/-- A write of GU_COMMIT.GO: the staged edges are the pattern (11 R395); outside EDGE mode it does nothing (log 43). -/
def State.edgeCommit (s : State) (u sent : Nat) : State :=
  if s.guMode u = 2 then
    s.stage u sent (.edges ((List.range 6).map (fun c => (s.rf (Key.guEdge u c) 31 0, s.rf (Key.guEdge u c) 63 32))))
  else s

/-- EDGE_COMMIT (11 R395). -/
def execEdgeCommit (u : Nat) (s : State) : Out :=
  if 16 ≤ u then .fault .noSuchUnit else .next (s.edgeCommit u (s.cio.now - 16 * 2 ^ 32))

/-! ## Gate inhibit (11 R400 to R404) -/

/-- The cause of GATE_INHIBIT_N (11 R400). -/
def State.pinCause (s : State) : State := if s.cio.pinLow && s.rb Key.inhCfg 0 then s.assertPin else s

/-- The causes of the fault balls (11 R400). -/
def State.fltCause (s : State) : State := s.trip (s.cio.fltLow &&& BitVec.ofNat 16 (s.rf Key.inhCfg 31 16))

/-- INHIBIT_PIN_ASSERT (11 R400, R401): low past the 50 ns filter. -/
def execInhibitPinAssert (s : State) : Out := .next { s with cio := { s.cio with pinLow := true } }.pinCause

/-- INHIBIT_PIN_RELEASE (11 R402): the latched inhibit stays. -/
def execInhibitPinRelease (s : State) : Out := .next { s with cio := { s.cio with pinLow := false } }

/-- GATE_FAULT_PIN (11 R400). -/
def execGateFaultPin (u : Nat) (s : State) : Out :=
  if 16 ≤ u then .fault .noSuchUnit
  else
    let s1 := { s with cio := { s.cio with fltLow := setBits s.cio.fltLow u u 1 } }
    .next (if s.rb Key.inhCfg (16 + u) then s1.trip (1#16 <<< u) else s1)

/-- GATE_FAULT_PIN_RELEASE (11 R402): the trip stays. -/
def execGateFaultPinRelease (u : Nat) (s : State) : Out :=
  if 16 ≤ u then .fault .noSuchUnit else .next { s with cio := { s.cio with fltLow := setBits s.cio.fltLow u u 0 } }

/-- SOFTWARE_INHIBIT (11 R400). -/
def execSoftwareInhibit (s : State) : Out := .next s.assertSw

/-- UNIT_TRIP (11 R400). -/
def execUnitTrip (units : BitVec 16) (s : State) : Out := .next (s.trip units)

/-- A write of INH_CLR's unit bits: a trip clears when no cause of the unit is active (11 R402, R403). -/
def State.tripClear (s : State) (units : BitVec 16) : State :=
  let keep := (List.range 16).foldl (fun (m : BitVec 16) u => if s.tripCause u then setBits m u u 1 else m) 0
  { s with cio := { s.cio with utrip := s.cio.utrip &&& (~~~ units ||| keep) } }.releaseHolds

/-- UNIT_TRIP_CLEAR (11 R402). -/
def execUnitTripClear (units : BitVec 16) (s : State) : Out := .next (s.tripClear units)

/-- INH_CLR.PIN (11 R402): when the ball is high. -/
def State.pinClear (s : State) : State :=
  if s.cio.pinLow then s else { s with cio := { s.cio with inhPin := false } }.releaseHolds

/-- PIN_INHIBIT_CLEAR (11 R402). -/
def execPinInhibitClear (s : State) : Out := .next s.pinClear

/-- INH_CLR.SW (11 R402). -/
def State.swClear (s : State) : State := { s with cio := { s.cio with inhSw := false } }.releaseHolds

/-- SOFTWARE_INHIBIT_CLEAR (11 R402). -/
def execSoftwareInhibitClear (s : State) : Out := .next s.swClear

/-- A write of INH_CFG: read-only with LOCK = 1; a ball that is low while it becomes enabled acts (11 R400, R404). -/
def State.inhCfgWrite (s : State) (v : W64) : State :=
  if s.rb Key.inhCfg 63 then s else ((s.writeReg Key.inhCfg v).pinCause).fltCause

/-- INHIBIT_LOCK (11 R404): offsets below 0x8000 of page 6 take secure writes alone (R364). -/
def execInhibitLock (w : Writer) (v : W64) (s : State) : Out := .next (if w.secure then s.inhCfgWrite v else s)

/-! ## The pages of the control IO as software writes and reads them -/

/-- A write of a register of the control IO whose effect is more than its table's; sent is when the store was sent. -/
def State.cioWrite (s : State) (k : Nat) (v : W64) : Option State :=
  let two (a b : Option State) : Option State := match a with | some x => some x | none => b
  let fam (base stride count : Nat) (f : Nat → State) : Option State := (regIdx base stride count k).map f
  let page0 :=
    if k = Key.cioTbRate then some (s.tbRateWrite v)
    else if k = Key.cioTbSlew then some (s.tbSlewWrite v)
    else if k = Key.cioTbStep then some (s.tbStepWrite v)
    else two (fam (Key.cioTbCmp 0) 0x10 32 (fun n => s.compareWrite n false v))
      (fam (Key.cioTbCmpctl 0) 0x10 32 (fun n => s.compareWrite n true v))
  let page1 := two (two (fam (Key.sdCfg 0) 0x40 32 (fun n => s.sdCfgWrite n v)) (fam (Key.cioSdClk 0) 0x10 4 (fun k => s.sdClkWrite k v)))
    (fam (Key.sdCmp 0) 0x40 32 (fun n =>
      let s1 := s.writeReg k v
      if bit v 63 then s1 else s1.setSd n { s.sdIn n with overRange := false }))
  let page2 := if k = Key.adcCtl then some (s.adcCtlWrite v) else if k = Key.adcSwtrig then some (s.adcSwtrigWrite v) else none
  let page3 := two (fam (Key.encCfg 0) 0x40 8 (fun n => s.encCfgWrite n v))
    (fam (Key.encPos 0) 0x40 8 (fun n => if s.rb (Key.encCfg n) 63 then s else s.writeReg k v))
  let page4 := fam (Key.resCfg 0) 0x40 4 (fun n => s.resCfgWrite n v)
  let page5 :=
    two (fam (Key.guCfg 0) 0x100 16 (fun u => s.guCfgWrite u v))
    (two (fam (Key.guHalf 0) 0x100 16 (fun u => if s.guBusy u then s.guRefuse u else s.writeReg k v))
    (two (fam (Key.guStart 0) 0x100 16 (fun u => s.gateStartWrite u v))
    (two (fam (Key.guCtl 0) 0x100 16 (fun u => if bit v 0 then s.gateStop u else s))
      (fam (Key.guCommit 0) 0x100 16 (fun u => if bit v 0 then s.edgeCommit u s.cio.now else s)))))
  let page6 :=
    if k = Key.inhCfg then some (s.inhCfgWrite v)
    else if k = Key.inhSet then
      some ((if bit v 0 then s.assertSw else s).trip (BitVec.ofNat 16 (bits v 31 16)))
    else if k = Key.inhClr then
      let s1 := s.tripClear (BitVec.ofNat 16 (bits v 31 16))
      let s2 := if bit v 1 then s1.pinClear else s1
      some (if bit v 0 then s2.swClear else s2)
    else none
  match k / 0x10000 with
  | 0x30 => page0
  | 0x31 => page1
  | 0x32 => page2
  | 0x33 => page3
  | 0x34 => page4
  | 0x35 => page5
  | 0x36 => page6
  | _ => none

/-- The fields of a register that the units show live: high bit, low bit, value. -/
def State.cioView (s : State) (k : Nat) : List (Nat × Nat × Nat) :=
  let fam (base stride count : Nat) (f : Nat → List (Nat × Nat × Nat)) : List (Nat × Nat × Nat) :=
    match regIdx base stride count k with | some n => f n | none => []
  match k / 0x10000 with
  | 0x30 => if k = Key.cioTbNow then [(63, 0, s.nowNs)] else if k = Key.cioTbSlew then [(63, 63, b2n (s.cio.slew != 0))] else []
  | 0x31 => fam (Key.sdStat 0) 0x40 32 (fun n =>
      [(0, 0, b2n !(s.sdEn n && (s.sdIn n).settled)), (2, 2, b2n (s.sdCfgErr n))])
  | 0x32 => if k = Key.adcStat then
      [(3, 0, (List.range 4).foldl (fun a q => a + (if s.cio.adcRun = some q ∨ s.cio.adcQueue.contains q then 2 ^ q else 0)) 0)]
      else []
  | 0x34 => fam (Key.resStat 0) 0x40 4 (fun n =>
      [(2, 2, b2n (s.rb (Key.resCfg n) 63 && !(s.resOk n))),
       (0, 0, b2n !(s.rb (Key.resCfg n) 63 && (s.resCh n).settled && s.resSettledInputs n))])
  | 0x35 =>
    fam (Key.guCtl 0) 0x100 16 (fun u => [(2, 2, b2n (s.gu u).armed), (1, 1, b2n (s.gu u).run)]) ++
    fam (Key.guStat 0) 0x100 16 (fun u => [(1, 1, b2n (bit s.cio.utrip u)), (0, 0, b2n (s.cio.inhibited u || (s.gu u).hold))])
  | 0x36 => if k = Key.inhStat then
      [(47, 32, s.cio.utrip.toNat), (3, 3, b2n s.cio.inhBdg), (2, 2, b2n s.cio.inhPin), (1, 1, b2n s.cio.inhSw),
       (0, 0, b2n s.cio.global)] else []
  | _ => []

/-- The counter that an overrun of a control IO source increments: register and field (11 R390); the ADC's sources are 32 to 47. -/
def ovrOf (src : Nat) : Option (Nat × Nat × Nat) :=
  if src < 32 then some (Key.sdStat src, 47, 32)
  else if src < 48 then some (Key.adcStat, 47, 32)
  else if src < 56 then some (Key.encStat (src - 48), 47, 32)
  else if src < 60 then some (Key.resStat (src - 56), 47, 32)
  else none

end Sys2Proof.Machine
end

