-- ==== Sys2Proof/Machine/Historian.lean ====
section
/-! DEFINITION. The Historian Engine: zones, submission, units, the hash chain, checkpoints, reading, failures and drives
(13 R455 to R466). -/

namespace Sys2Proof.Machine

/-! ## Checksums and hashes (13 R458, R460) -/

/-- One bit of CRC-64, reflected (13 R458). -/
def crc64Bit (c : W64) : W64 := if bit c 0 then (c >>> 1) ^^^ 0xC96C5795D7870F42#64 else c >>> 1

def crc64Byte (c : W64) (b : Byte) : W64 := (List.range 8).foldl (fun c _ => crc64Bit c) (c ^^^ b.setWidth 64)

/-- CRC-64 of bytes in ascending order (13 R458): the reflection of polynomial 0x42F0E1EBA9EA3693, initial value and final XOR all
ones. -/
def crc64 (bs : List Byte) : W64 := bs.foldl crc64Byte (-1) ^^^ (-1)

/-- The bytes of words in ascending order. -/
def wordsBytes (ws : List Data) : List Byte := ws.flatMap wordBytes

/-! ## Engine state -/

def State.setHse (s : State) (h : Hse) : State := { s with hse := h }

def State.tier (s : State) (t : Nat) : HTier := tget {} s.hse.tiers t

def State.setTier (s : State) (t : Nat) (x : HTier) : State := s.setHse { s.hse with tiers := tset {} s.hse.tiers t x }

def State.drive (s : State) (n : Nat) : HDrive := tget {} s.hse.drives n

def State.setDrive (s : State) (n : Nat) (x : HDrive) : State := s.setHse { s.hse with drives := tset {} s.hse.drives n x }

def State.hseOn (s : State) : Bool := s.rb Key.hseCtl 63

/-- NOW + HSE_EPOCH. -/
def State.epochNow (s : State) : W64 := BitVec.ofNat 64 s.nowNs + s.reg Key.hseEpoch

/-- The zone table entry of a zone is written (13 R456). -/
def State.writeZoneEntry (s : State) (z : Nat) (x : HZone) : State :=
  let a := s.rf Key.hseZt 47 14 * 2 ^ 14 + 32 * z
  let w0 := x.zslba.toNat + x.drive * 2 ^ 48 + x.tier * 2 ^ 52 + x.st * 2 ^ 56 + x.zseq % 2 ^ 64 * 2 ^ 64
  let w1 := x.t0.toNat + x.t1.toNat * 2 ^ 64
  (s.dmaSet .hse a { data := BitVec.ofNat 128 w0, tag := Tag.int }).dmaSet .hse (a + 16)
    { data := BitVec.ofNat 128 w1, tag := Tag.int }

/-- A zone's entry, in the engine and in the table. -/
def State.setZone (s : State) (z : Nat) (x : HZone) : State :=
  (s.setHse { s.hse with zones := tput s.hse.zones z x }).writeZoneEntry z x

/-- The fault event (13 R465). -/
def State.hseFault (s : State) : State := s.raise 357 0

/-! ## Commands of the drives (13 R455) -/

/-- The entries of a drive's queues: none before software has handed the pair to the engine. -/
def State.nvmeDepth (s : State) (n : Nat) : Nat := s.rf (Key.hseDrvsq n) 63 52

/-- A doorbell is written in the PCIe window: the write is discarded and logged while the link is down (13 R451). -/
def State.doorbell (s : State) (pa : Nat) : State := if s.rb Key.pcieStat 63 then s else (s.pcieLog 4 pa).raise 342 0

/-- A command is put into a drive's submission queue, and its doorbell written (13 R455, log 98). -/
def State.nvmeSubmit (s : State) (n op : Nat) (lba : BitVec 48) (blocks : Nat) : State :=
  let size := s.nvmeDepth n
  if size = 0 then s
  else
    let d := s.drive n
    let ns := BitVec.ofNat 32 (s.rf (Key.hseDrvctl n) 31 0)
    let ws := (List.range 4).map (fun i => ({ data := Config.nvmeCommand op ns lba blocks i, tag := Tag.bits } : TWord))
    let s1 := s.dmaSetAll .hse (s.rf (Key.hseDrvsq n) 47 12 * 2 ^ 12 + 64 * (d.tail % size)) ws
    (s1.setDrive n { d with tail := (d.tail + 1) % size }).doorbell (s.rf (Key.hseDrvdb n) 47 2 * 4)

/-- The completion entry of a drive's command is read, and the head doorbell written (13 R455). -/
def State.nvmeComplete (s : State) (n : Nat) : State :=
  let size := s.nvmeDepth n
  if size = 0 then s
  else
    let d := s.drive n
    let s1 := (s.dmaRead .hse (s.rf (Key.hseDrvcq n) 47 12 * 2 ^ 12 + 16 * (d.head % size))).2
    (s1.setDrive n { d with head := (d.head + 1) % size }).doorbell (s.rf (Key.hseDrvdb n) 47 2 * 4 + 4 * 2 ^ s.rf (Key.hseDrvdb n) 63 60)

/-! ## Checkpoints (13 R460) -/

def State.ckArea (s : State) (t : Nat) : Nat := s.rf Key.hseCkbase 47 10 * 2 ^ 10 + 256 * t

/-- A checkpoint of a tier: ZSEQ and the unit count of a zone, then h, for signing; skipped while the last one is unsigned (13 R460). -/
def State.checkpointOf (s : State) (t zseq units : Nat) (hash : List Byte) : State :=
  let x := s.tier t
  if !(s.rb Key.hseCkctl 63) then s
  else if x.unsigned then s.count Key.hseCnt 15 0 1
  else
    let w0 : Data := BitVec.ofNat 128 (zseq % 2 ^ 64 + units % 2 ^ 64 * 2 ^ 64)
    let ws := (w0 :: (packBytes hash ++ [0, 0, 0]).take 3).map (fun d => ({ data := d, tag := Tag.full } : TWord))
    ((s.dmaSetAll .hseCheckpoint (s.ckArea t) ws).setTier t { x with unsigned := true }).raise 353 (BitVec.ofNat 128 t)

/-- A checkpoint of a tier's zone as it stands. -/
def State.checkpoint (s : State) (t : Nat) : State := s.checkpointOf t (s.tier t).zseq (s.tier t).units (s.tier t).hash

/-! ## Zones (13 R456, R461) -/

/-- The online drive with the lowest WRITTEN that has an empty zone, the lower number among equals (13 R456). -/
def State.chooseDrive (s : State) : Option Nat :=
  (List.range 16).foldl (fun b n =>
    let d := s.drive n
    if d.st = 2 && !d.empty.isEmpty then
      match b with
      | none => some n
      | some m => if d.written < (s.drive m).written then some n else b
    else b) none

/-- The zones of a tier that count against its quota: open, finished or failed. -/
def State.tierZones (s : State) (t : Nat) : List (Nat × HZone) :=
  s.hse.zones.filter (fun (e : Nat × HZone) => e.2.tier == t && (e.2.st == 1 || e.2.st == 2 || e.2.st == 3))

/-- The finished zone of a tier with the lowest ZSEQ. -/
def State.oldestZone (s : State) (t : Nat) : Option (Nat × HZone) :=
  ((s.tierZones t).filter (fun (e : Nat × HZone) => e.2.st == 2)).foldl (fun b (e : Nat × HZone) =>
    match b with
    | none => some e
    | some m => if e.2.zseq < m.2.zseq then some e else b) none

/-- The lowest index of the zone table that holds no zone (log 51). -/
def State.freeZidx (s : State) : Option Nat :=
  (List.range (s.hse.zones.length + 1)).find? (fun z =>
    decide (z < s.rf Key.hseZtlim 31 0) && (match tfind s.hse.zones z with | none => true | some x => x.st == 0 || x.st == 4))

/-- A zone of a tier is reset and its entry reclaimed (13 R461). -/
def State.reclaim (s : State) (z : Nat) (x : HZone) : State :=
  let d := s.drive x.drive
  let s1 := ((s.setZone z { x with st := 4 }).setDrive x.drive { d with empty := d.empty ++ [(x.zslba, x.cap)] })
  (s1.nvmeSubmit x.drive 3 x.zslba 0).raise 356 0

/-- Room under the quota: with RECLAIM the oldest finished zone goes, without it the tier stops (13 R461). -/
def State.quotaRoom (s : State) (t : Nat) : State × Bool :=
  let quota := s.rf (Key.hseTier t) 31 0
  if quota = 0 ∨ (s.tierZones t).length < quota then (s, true)
  else if s.rb (Key.hseTier t) 63 then
    match s.oldestZone t with
    | some (z, x) => (s.reclaim z x, true)
    | none => ((s.setTier t { s.tier t with stopped := true }).raise 356 0, false)
  else ((s.setTier t { s.tier t with stopped := true }).raise 356 0, false)

/-- The words of a zone header block (13 R456). -/
def State.zoneHeader (s : State) (t drive zseq : Nat) (prev : List Byte) : List Data :=
  let w0 : Data := BitVec.ofNat 128 (0x5A48534500000001 + zseq % 2 ^ 64 * 2 ^ 64)
  let w1 : Data := BitVec.ofNat 128 (t + drive * 16 + s.epochNow.toNat * 2 ^ 64)
  let ws := w0 :: w1 :: (packBytes prev ++ [0, 0, 0]).take 3
  (ws ++ [(crc64 (wordsBytes ws)).setWidth 128]) ++ List.replicate 250 0

/-- A new zone for a tier (13 R456, R460, R461, R465); unchanged but for stops and faults where none can be had. -/
def State.openZone (s : State) (t : Nat) : State :=
  let (s1, ok) := s.quotaRoom t
  if !ok then s1
  else match s1.chooseDrive, s1.freeZidx with
    | some n, some z =>
      let d := s1.drive n
      match d.empty with
      | [] => s1.hseFault
      | (lba, cap) :: rest =>
        let q := s1.hse.zseq
        let x := s1.tier t
        let block := s1.zoneHeader t n q x.hash
        let zone : HZone := { drive := n, zslba := lba, cap := cap, tier := t, st := 1, zseq := q, wp := 1, t0 := 0, t1 := 0 }
        let s2 := (s1.setHse { s1.hse with zseq := q + 1 }).setDrive n { d with written := d.written + 1, empty := rest }
        let s3 := (s2.setZone z zone).setTier t { x with zone := some z, units := 0, hash := sha384 (wordsBytes block), zseq := q }
        (s3.nvmeSubmit n 0 lba 1).raise 354 0
    | _, _ => s1.hseFault

/-- The open zone of a tier is finished, with a checkpoint (13 R460, R465). -/
def State.finishZone (s : State) (t : Nat) : State :=
  match (s.tier t).zone with
  | none => s
  | some z =>
    match tfind s.hse.zones z with
    | none => s
    | some x =>
      let s1 := (((s.setZone z { x with st := 2 }).nvmeSubmit x.drive 2 x.zslba 0).raise 354 0).checkpoint t
      s1.setTier t { s1.tier t with zone := none }

/-! ## Submission (13 R457 to R459) -/

/-- Word k of slot i of a queue. -/
def State.slotAddr (s : State) (q i : Nat) : Nat := s.rf (Key.hseSq q) 47 9 * 512 + 512 * i

def State.sqSize (s : State) (q : Nat) : Nat := 2 ^ s.rf (Key.hseSq q) 63 60

/-- The header of a record (13 R458). -/
def recHeader (time : W64) (stream len tier seq : Nat) : Data :=
  BitVec.ofNat 128 (time.toNat + stream * 2 ^ 64 + len * 2 ^ 76 + tier * 2 ^ 81 + seq % 2 ^ 32 * 2 ^ 96)

/-- A record: header word, tag word with its CRC, payload; POISON is stored with data 0 (13 R458). -/
def recWords (hdr : Data) (pl : List TWord) : List Data :=
  let ds := pl.map (fun w => if w.tag = Tag.poison then 0 else w.data)
  let tags := (List.range pl.length).foldl (fun a i => a + (pl.getD i TWord.fresh).tag.toNat * 16 ^ i) 0
  let crc := crc64 (wordBytes hdr ++ (wordBytes (BitVec.ofNat 128 tags)).take 8 ++ wordsBytes ds)
  hdr :: BitVec.ofNat 128 (tags + crc.toNat * 2 ^ 64) :: ds

/-- The next SEQ of a stream. -/
def State.nextSeq (s : State) (stream : Nat) : Nat × State :=
  let n := tget 0 s.hse.seqs stream
  (n, s.setHse { s.hse with seqs := tset 0 s.hse.seqs stream ((n + 1) % 2 ^ 32) })

/-- A record joins the unit of its tier, closing the unit it does not fit (13 R459). -/
def State.addRecord (s : State) (t : Nat) (ws : List Data) (time : W64) (slot : List HSlot) : State :=
  let x := s.tier t
  let x1 := if 4096 < x.unit.ws.length + ws.length then { x with closed := x.closed ++ [x.unit], unit := {} } else x
  let u := x1.unit
  let u1 : HUnit := { ws := u.ws ++ ws, slots := u.slots ++ slot, t0 := if u.ws.isEmpty then time else u.t0, t1 := time }
  s.setTier t { x1 with unit := u1 }

/-- A slot completes: word 1, then word 0 with tag EMPTY (13 R459). -/
def State.slotDone (s : State) (sl : HSlot) (zidx lba status : Nat) : State :=
  let a := s.slotAddr sl.q sl.idx
  let w1 : TWord := { data := BitVec.ofNat 128 (sl.seq % 2 ^ 32 + zidx * 2 ^ 32 + lba * 2 ^ 64 + status * 2 ^ 96), tag := Tag.bits }
  let s1 := s.dmaSet .hse (a + 16) w1
  match s1.dmaRead .hse a with
  | (some w0, s1) => s1.dmaSet .hse a { w0 with tag := Tag.empty }
  | (none, s1) => s1

/-- The slots of a tier that wait: those of its units (13 R459). -/
def HTier.slots (x : HTier) : List HSlot :=
  (match x.out with | some (u, _) => u.slots | none => []) ++ x.closed.flatMap (·.slots) ++ x.unit.slots

/-- An invalid slot of queue q completes in ring order: with the last unit that holds a slot of its queue (13 R457, R459). -/
def HTier.attach (x : HTier) (sl : HSlot) : HTier :=
  let holds (u : HUnit) : Bool := u.slots.any (fun y => y.q == sl.q)
  let add (u : HUnit) : HUnit := { u with slots := u.slots ++ [sl] }
  if holds x.unit then { x with unit := add x.unit }
  else
    let behind := (x.closed.reverse.takeWhile (fun u => !(holds u))).reverse
    match (x.closed.take (x.closed.length - behind.length)).reverse with
    | u :: r => { x with closed := r.reverse ++ [add u] ++ behind }
    | [] => { x with out := x.out.map (fun o => (add o.1, o.2)) }

/-- HSE_SLOT_TAKE (01 R16; 13 R457, R458): a slot with a word that cannot be read is stopped: it is passed over. -/
def execHseSlotTake (q : Nat) (s : State) : Out :=
  if 8 ≤ q then .fault .noSuchUnit
  else dmaCmd (fun s =>
    let t := s.rf (Key.hseSq q) 59 58
    let i := tget 0 s.hse.sq q % s.sqSize q
    let x := s.tier t
    let held := (List.range 4).any (fun t => (s.tier t).slots.any (fun sl => sl.q == q && sl.idx == i))
    let past (s : State) : State := s.setHse { s.hse with sq := tset 0 s.hse.sq q ((i + 1) % s.sqSize q) }
    if !s.hseOn || x.stopped || held then .next s
    else match s.dmaRead .hse (s.slotAddr q i) with
      | (none, s) => .next (past s)
      | (some w0, s) =>
        if w0.tag != Tag.full then .next s
        else
          let s0 := past s
          let len := bits w0.data 80 76
          let stream := bits w0.data 75 64
          if len = 0 ∨ 16 < len ∨ stream = 4095 then
            let sl : HSlot := { q := q, idx := i, seq := 0, valid := false }
            if x.slots.any (fun y => y.q == q) then
              .next (s0.setTier t (x.attach sl))
            else .next ((s0.slotDone sl 0 0 1).raise (344 + q) (BitVec.ofNat 128 i))
          else
            let (seq, s1) := s0.nextSeq stream
            let time := if bits w0.data 63 0 = 0 then s1.epochNow else BitVec.ofNat 64 (bits w0.data 63 0)
            match s1.dmaReads .hse (s1.slotAddr q i + 32) len with
            | (none, s2) => .next (past { s with ioLog := s2.ioLog, dmaLate := s2.dmaLate })
            | (some pl, s2) =>
              let ws := recWords (recHeader time stream len t seq) pl
              .next (s2.addRecord t ws time [{ q := q, idx := i, seq := seq, valid := true }])) s

/-- HSE_FLUSH_TIMER (13 R459). -/
def execHseFlushTimer (tier : Nat) (s : State) : Out :=
  if 4 ≤ tier then .fault .noSuchUnit
  else
    let x := s.tier tier
    if !s.hseOn || x.unit.ws.isEmpty then .next s
    else .next (s.setTier tier { x with closed := x.closed ++ [x.unit], unit := {} })

/-! ## Appending (13 R456, R459, R463) -/

/-- The blocks of a unit. -/
def HUnit.blocks (u : HUnit) : Nat := (u.ws.length + 255) / 256

/-- The bytes of a unit: the words of its records, 0 to the end of its last block. -/
def HUnit.bytes (u : HUnit) : List Byte := wordsBytes (u.ws ++ List.replicate (256 * u.blocks - u.ws.length) 0)

/-- The open zone of a tier has no room for some blocks. -/
def State.zoneFull (s : State) (t n : Nat) : Bool :=
  match (s.tier t).zone with
  | none => false
  | some z => match tfind s.hse.zones z with | some x => decide (x.cap < x.wp + n) | none => true

/-- The append of a unit: its words go into the staging area, 64 KiB for each tier (log 98), and the command to the drive (13 R455,
R459). -/
def State.sendAppend (s : State) (t : Nat) (u : HUnit) : State :=
  match (s.tier t).zone.bind (tfind s.hse.zones) with
  | none => s
  | some z =>
    if s.nvmeDepth z.drive = 0 then s
    else
      let ws := (u.ws ++ List.replicate (256 * u.blocks - u.ws.length) 0).map (fun d => ({ data := d, tag := Tag.bits } : TWord))
      (s.dmaSetAll .hse (s.rf Key.hseBuf 47 20 * 2 ^ 20 + 0x10000 * t) ws).nvmeSubmit z.drive 0 z.zslba u.blocks

/-- HSE_UNIT_APPEND (13 R455, R456, R459): the oldest closed unit goes to the open zone of its tier; a full zone is finished and a new one
opened first. -/
def execHseUnitAppend (tier : Nat) (s : State) : Out :=
  if 4 ≤ tier then .fault .noSuchUnit
  else dmaCmd (fun s => match (s.tier tier).closed with
    | [] => .next s
    | u :: _ =>
      if !s.hseOn || (s.tier tier).out.isSome || (s.tier tier).stopped then .next s
      else
        let s1 := if s.zoneFull tier u.blocks then s.finishZone tier else s
        let s2 := if (s1.tier tier).zone.isNone then s1.openZone tier else s1
        let x := s2.tier tier
        if x.zone.isNone then .next s2
        else .next ((s2.setTier tier { x with closed := x.closed.drop 1, out := some (u, false) }).sendAppend tier u)) s

/-- The open zones of a retiring drive are finished and replaced elsewhere, one with an append outstanding when that has ended; the
drive is RETIRED once it has none (13 R459, R464). -/
def State.retireZones (s : State) (n : Nat) : State :=
  let on (s : State) (t : Nat) : Bool :=
    match (s.tier t).zone with
    | none => false
    | some z => match tfind s.hse.zones z with | some x => x.drive == n | none => false
  let s1 := (List.range 4).foldl (fun s t => if on s t && (s.tier t).out.isNone then (s.finishZone t).openZone t else s) s
  if (List.range 4).any (on s1) then s1 else s1.setDrive n { s1.drive n with st := 4 }

/-- A drive is to be retired (13 R464, R465): source 355 tells the state it comes to. -/
def State.retireDrive (s : State) (n : Nat) : State :=
  let d := s.drive n
  if d.st = 3 ∨ d.st = 4 then s else ((s.setDrive n { d with st := 3 }).retireZones n).raise 355 0

/-- An append of a drive has ended: a drive that is retiring goes on (13 R464, R465). -/
def State.retireGoesOn (s : State) (n : Nat) : State :=
  if (s.drive n).st ≠ 3 then s
  else
    let s1 := s.retireZones n
    if (s1.drive n).st = 4 then s1.raise 355 0 else s1

/-- The queues whose slots a unit holds, each with its last slot. -/
def lastSlots (sl : List HSlot) : List (Nat × Nat) :=
  (List.range 8).filterMap (fun q => ((sl.filter (fun x => x.q == q)).getLast?).map (fun x => (q, x.idx)))

/-- HSE_APPEND_COMPLETE (13 R459, R460, R463, R464): lba is the unit's first block; with none outstanding it is late. -/
def execHseAppendComplete (tier : Nat) (lba : BitVec 32) (s : State) : Out :=
  if 4 ≤ tier then .fault .noSuchUnit
  else dmaCmd (fun s =>
    let x := s.tier tier
    match x.out, x.zone with
    | some (u, _), some z =>
      match tfind s.hse.zones z with
      | none => .next s
      | some zn =>
        let d := s.drive zn.drive
        let zn1 := { zn with wp := zn.wp + u.blocks, t0 := if x.units = 0 then u.t0 else zn.t0,
                             t1 := if u.ws.isEmpty then zn.t1 else u.t1 }
        let x1 := { x with out := none, units := x.units + 1, hash := sha384 (x.hash ++ u.bytes) }
        let s1 := (((s.setZone z zn1).setTier tier x1).setDrive zn.drive { d with written := d.written + u.blocks, fails := 0 }).nvmeComplete zn.drive
        let s2 := u.slots.foldl (fun s sl =>
          if sl.valid then s.slotDone sl z lba.toNat 0 else s.slotDone sl 0 0 1) s1
        let s3 := (lastSlots u.slots).foldl (fun s (e : Nat × Nat) => s.raise (344 + e.1) (BitVec.ofNat 128 e.2)) s2
        .next (s3.retireGoesOn zn.drive)
    | _, _ => .next (s.count Key.hseLate 31 0 1)) s

/-- A command of a drive has failed; the third in a row makes the drive FAILED (13 R463, R465). -/
def State.driveFails (s : State) (n : Nat) : State :=
  let d := s.drive n
  let f := d.fails + 1
  if 3 ≤ f ∧ d.st ≠ 5 then (s.setDrive n { d with fails := f, st := 5 }).raise 355 0
  else s.setDrive n { d with fails := f }

/-- HSE_COMMAND_TIMEOUT (13 R463): an append is retried once; then its zone fails and the unit goes to a new zone. -/
def execHseCommandTimeout (tier : Nat) (s : State) : Out :=
  if 4 ≤ tier then .fault .noSuchUnit
  else dmaCmd (fun s =>
    let x := s.tier tier
    match x.out, x.zone with
    | some (u, retried), some z =>
      match tfind s.hse.zones z with
      | none => .next s
      | some zn =>
        if !retried then .next (((s.setTier tier { x with out := some (u, true) }).driveFails zn.drive).sendAppend tier u)
        else
          let s1 := ((s.driveFails zn.drive).setZone z { zn with st := 3 }).count Key.hseCnt 31 16 1
          .next (((s1.setTier tier { x with out := none, zone := none, closed := u :: x.closed }).hseFault).retireGoesOn zn.drive)
    | _, _ => .next s) s

/-! ## Checkpoint rows (13 R460) -/

/-- HSE_CHECKPOINT (13 R460): for a tier that has a zone. -/
def execHseCheckpoint (tier : Nat) (s : State) : Out :=
  if 4 ≤ tier then .fault .noSuchUnit
  else if s.hseOn && (s.tier tier).zone.isSome then dmaCmd (fun s => .next (s.checkpoint tier)) s
  else .next s

/-- A write of HSE_CKDONE (13 R460): the signed checkpoint becomes a record of stream 4,095. -/
def State.ckDone (s : State) (v : W64) : State :=
  let t := bits v 1 0
  let x := s.tier t
  if !x.unsigned then s
  else
    match (s.setTier t { x with unsigned := false }).dmaReads .hseCheckpoint (s.ckArea t) 10 with
    | (none, s1) => s1
    | (some pl, s0) =>
      let (seq, s1) := s0.nextSeq 4095
      s1.addRecord t (recWords (recHeader s1.epochNow 4095 10 t seq) pl) s1.epochNow []

/-- CHECKPOINT_DONE (13 R460, R466): a secure register. -/
def execCheckpointDone (w : Writer) (v : W64) (s : State) : Out := dmaCmd (fun s => .next (if w.secure then s.ckDone v else s)) s

/-! ## Reading (13 R462) -/

/-- The words delivered for the records of a unit, the records and the CRC failures; fuel bounds the records. -/
def readRecords : Nat → List Data → List TWord × Nat × Nat
  | 0, _ => ([], 0, 0)
  | _, [] => ([], 0, 0)
  | f + 1, h :: r =>
    let len := bits h 80 76
    if len = 0 ∨ 16 < len ∨ r.length < len + 1 then ([], 0, 0)
    else
      let tw := r.headD 0
      let pl := (r.drop 1).take len
      let good := decide ((crc64 (wordBytes h ++ (wordBytes tw).take 8 ++ wordsBytes pl)).toNat = bits tw 127 64)
      let tags := (List.range len).map (fun i => BitVec.ofNat 4 (bits tw (4 * i + 3) (4 * i)))
      let out : List TWord :=
        if good then { data := h, tag := Tag.int } :: { data := tw, tag := Tag.int } ::
          List.zipWith (fun d t => { data := d, tag := t }) pl tags
        else List.replicate (len + 2) poisonWord
      let (ws, n, e) := readRecords f (r.drop (len + 1))
      (out ++ ws, n + 1, e + b2n !good)

/-- The next read descriptor. -/
def State.rdNext (s : State) : State := s.setHse { s.hse with rd := (s.hse.rd + 1) % 2 ^ s.rf Key.hseRdq 63 60 }

/-- A drive that delivers nothing: detached, retired or failed (13 R462). -/
def HDrive.away (d : HDrive) : Bool := d.st == 0 || d.st == 4 || d.st == 5

/-- What a read's command tells of its drive: an error is a failed command, and data ends a row of them (13 R463). -/
def State.driveRead (s : State) (n : Nat) : DriveRead → State
  | .data _ => s.setDrive n { s.drive n with fails := 0 }
  | .unavailable => s
  | .error => s.driveFails n

/-- HSE_READ (01 R16; 13 R455, R462, R463): the next read descriptor, with what the drive returned; one that meets a refusal is stopped. A
block count outside 1 to 16 delivers nothing, with a STATUS that the spec does not give (log 98). -/
def execHseRead (result : DriveRead) (s : State) : Out := dmaCmd (fun s =>
  let a := s.rf Key.hseRdq 47 5 * 32 + 32 * (s.hse.rd % 2 ^ s.rf Key.hseRdq 63 60)
  if !s.hseOn then .next s
  else match s.dmaReads .hse a 2 with
  | (some [w0, w1], s) =>
    if w0.tag != Tag.full then .next s
    else
      let zone := (tfind s.hse.zones (bits w0.data 31 0)).filter (fun x => x.st == 1 || x.st == 2 || x.st == 3)
      let blocks := bits w0.data 68 64
      let odd := blocks = 0 ∨ 16 < blocks
      let away := match zone with | some x => (s.drive x.drive).away | none => false
      let s := match zone with
        | some x =>
          if odd then { s with fresh := s.fresh + 1 }
          else if away then s
          else ((s.nvmeSubmit x.drive 1 (x.zslba + BitVec.ofNat 48 (bits w0.data 63 32)) blocks).driveRead x.drive result).nvmeComplete x.drive
        | none => s
      let (status, ws, n, e) : Nat × List TWord × Nat × Nat :=
        if zone.isNone then (1, [], 0, 0)
        else if odd then (bits (Config.freeValue (s.fresh - 1)) 2 0, [], 0, 0)
        else if away then (2, [], 0, 0)
        else match result with
          | .data d => let r := readRecords 4096 (d.take (256 * bits w0.data 68 64)); (0, r.1, r.2.1, r.2.2)
          | .unavailable => (2, [], 0, 0)
          | .error => (3, [], 0, 0)
      let put := s.dmaWrites .hse (bits w1.data 47 4 * 16) ws
      let s1 := put.2
      let d1 := setBits (setBits (setBits w1.data 111 96 n) 119 112 e) 122 120 status
      let s2 := (s1.dmaSet .hse (a + 16) { w1 with data := d1 }).dmaSet .hse a { w0 with tag := Tag.empty }
      if put.1 then .next ((s2.rdNext.count Key.hseCnt 47 32 e).raise 352 0) else .next s1.rdNext
  | (_, s) => .next s.rdNext) s

/-! ## Drives (13 R464, R465) -/

/-- DRIVE_RETIRE (13 R464). -/
def execDriveRetire (n : Nat) (s : State) : Out :=
  if 16 ≤ n then .fault .noSuchUnit else dmaCmd (fun s => .next ((s.setRf (Key.hseDrvctl n) 62 62 1).retireDrive n)) s

/-- A zone header whose CRC is good (13 R456, R464). -/
def headerGood (h : List Data) : Bool :=
  decide ((h.headD 0).toNat % 2 ^ 64 = 0x5A48534500000001) &&
    decide ((crc64 (wordsBytes ((h ++ List.replicate 6 0).take 5))).toNat = bits (h.getD 5 0) 63 0)

/-- A zone that a tier has open is finished by a rebuild: the tier needs another, and what it was appending waits (13 R464). -/
def HTier.leave (x : HTier) (z : Nat) : HTier :=
  if x.zone = some z then { x with zone := none, out := none, closed := (x.out.toList.map (·.1)) ++ x.closed } else x

/-- A zone found on a drive enters the table, finished, with a checkpoint when it was open; one that the table lists keeps its entry and
its times (13 R460, R464). -/
def State.enterZone (s : State) (n : Nat) (z : ZoneInfo) : State :=
  let q := bits (z.header.headD 0) 127 64
  let listed := s.hse.zones.find? (fun (e : Nat × HZone) => e.2.drive == n && e.2.zseq == q && (e.2.st == 1 || e.2.st == 2 || e.2.st == 3))
  match (listed.map (·.1)).orElse (fun _ => s.freeZidx) with
  | none => s.hseFault
  | some i =>
    let t := bits (z.header.getD 1 0) 1 0
    let zone : HZone := { drive := n, zslba := z.zslba, cap := z.cap, tier := t, st := 2, zseq := q, wp := z.blocks,
                          t0 := (listed.map (·.2.t0)).getD 0, t1 := (listed.map (·.2.t1)).getD 0 }
    let s1 := (List.range 4).foldl (fun s t => s.setTier t ((s.tier t).leave i)) (s.setZone i zone)
    let s2 := s1.setHse { s1.hse with zseq := if s1.hse.zseq ≤ q then q + 1 else s1.hse.zseq }
    let x := s2.tier t
    let s3 := if x.zone.isNone && decide (x.zseq ≤ q) then s2.setTier t { x with hash := z.chain, zseq := q, units := z.units } else s2
    if z.isOpen then ((s3.nvmeSubmit n 2 z.zslba 0).raise 354 0).checkpointOf t q z.units z.chain else s3

/-- DRIVE_ATTACH (13 R464): the drive's zones are entered in ZSEQ order, empty ones are kept for use, and the drive is online. -/
def execDriveAttach (n : Nat) (zones : List ZoneInfo) (s : State) : Out :=
  if 16 ≤ n then .fault .noSuchUnit
  else if (s.drive n).st != 0 && (s.drive n).st != 1 then .next s
  else dmaCmd (fun s =>
    let good := zones.filter (fun z => !z.header.isEmpty && headerGood z.header)
    let sorted := good.foldl (fun (t : Tab ZoneInfo) z => tput t (bits (z.header.headD 0) 127 64) z) []
    let empty := (zones.filter (fun z => z.header.isEmpty)).map (fun z => (z.zslba, z.cap))
    let d := s.drive n
    let s0 := ((s.setRf (Key.hseDrvctl n) 63 63 1).setDrive n { st := 1, empty := empty, tail := d.tail, head := d.head }).nvmeSubmit n 4 0 0
    let s1 := sorted.foldl (fun s (e : Nat × ZoneInfo) => s.enterZone n e.2) s0
    .next ((s1.setDrive n { s1.drive n with st := 2 }).raise 355 0)) s

/-! ## Registers (13 R466) -/

/-- A write of an HSE register whose effect is more than its table's (13 R464 to R466): the queue and area bases, a drive's queues among
them, keep their values while EN is 1 (log 51). -/
def State.hseWrite (s : State) (k : Nat) (v : W64) : Option State :=
  if k = Key.hseCkdone then some (s.ckDone v)
  else if k = Key.hseCtl then
    let s1 := s.writeReg k v
    some (if bit v 63 && !s.hseOn then s1.setHse { s1.hse with sq := [], rd := 0 } else s1)
  else if k = Key.hseCkbase ∨ (Key.hseBuf ≤ k ∧ k ≤ Key.hseRdq ∧ k ≠ Key.hseZtlim) ∨ (regIdx (Key.hseDrvsq 0) 0x40 16 k).isSome ∨
      (regIdx (Key.hseDrvcq 0) 0x40 16 k).isSome then some (if s.hseOn then s else s.writeReg k v)
  else match regIdx (Key.hseTier 0) 0x10 4 k with
    | some t =>
      let s1 := s.writeReg k v
      some (s1.setTier t { s1.tier t with stopped := false })
    | none => match regIdx (Key.hseDrvctl 0) 0x40 16 k with
      | some n =>
        let was := s.rb k 63
        let s1 := s.writeReg k v
        let s2 := if bit v 63 && !was then (s1.setDrive n { s1.drive n with st := 1 }).raise 355 0
          else if !(bit v 63) && was then (s1.setDrive n { s1.drive n with st := 0 }).raise 355 0 else s1
        some (if bit v 62 then s2.retireDrive n else s2)
      | none => none

/-- The live fields of an HSE register. -/
def State.hseView (s : State) (k : Nat) : List (Nat × Nat × Nat) :=
  match regIdx (Key.hseDrvstat 0) 0x10 16 k with
  | some n => [(63, 61, (s.drive n).st), (47, 0, (s.drive n).written)]
  | none => []

end Sys2Proof.Machine
end

