-- ==== Sys2Proof/Machine/Rinolink.lean ====
section
/-! DEFINITION. The Rinolink ports: frames, the directory, cycles, absence, service requests, discovery and registers
(12 R407 to R438), with the records that the pair link takes (14 R473, R476). -/

namespace Sys2Proof.Machine

/-! ## Ports, frames and the directory (12 R411 to R413, R432) -/

def State.port (s : State) (p : Nat) : RPort := tget {} s.rlk p

def State.setPort (s : State) (p : Nat) (x : RPort) : State := { s with rlk := tset {} s.rlk p x }

def State.modPort (s : State) (p : Nat) (f : RPort → RPort) : State := s.setPort p (f (s.port p))

def RPort.conc (x : RPort) (c : Nat) : RConc := tget {} x.concs c

def RPort.setConc (x : RPort) (c : Nat) (k : RConc) : RPort := { x with concs := tset {} x.concs c k }

def RPort.class (x : RPort) (n : Nat) : RCls := tget {} x.cls n

def RPort.setClass (x : RPort) (n : Nat) (k : RCls) : RPort := { x with cls := tset {} x.cls n k }

def State.setCls (s : State) (p n : Nat) (k : RCls) : State := s.modPort p (fun x => x.setClass n k)

/-- A header: type, class, concentrator, endpoint, payload words, SEQ and PARAM (12 R412). -/
def rHdr (ty cls conc ep plen seq param : Nat) : Data :=
  BitVec.ofNat 128 (ty + cls * 2 ^ 8 + conc * 2 ^ 16 + ep * 2 ^ 24 + plen * 2 ^ 32 + seq % 65536 * 2 ^ 64 + param * 2 ^ 80)

/-- A received header that R412 discards: reserved TYPE or a set RSV bit. -/
def badHdr (h : Data) : Bool :=
  let ty := bits h 7 0
  ty == 0 || decide (14 < ty) || bits h 15 12 != 0 || bit h 31 || bits h 47 41 != 0 || bits h 63 57 != 0

/-- The index of the entry of endpoint e of concentrator c on port p (12 R432). -/
def dirIndex (p c e : Nat) : Nat := (p * 250 + c - 1) * 128 + e

def State.dirAddr (s : State) (i : Nat) : Nat := s.rf Key.rlkDirbase 47 23 * 2 ^ 23 + 32 * i

/-- A read and a write by a Rinolink port, in the normal world with tags kept (01 R28, 15 R490); what it cannot reach reads as data 0
(log 47). -/
def State.rGet (s : State) (p pa : Nat) : TWord := (s.dmaGet (.rinolink p) pa).getD TWord.fresh

def State.rSet (s : State) (p pa : Nat) (w : TWord) : State := s.dmaSet (.rinolink p) pa w

/-- What the reads of n words do to the caches, to the error log and to a chunk not yet initialised (01 R16; 09 R310; 10 R353). -/
def State.rTouch (s : State) (p pa n : Nat) : State :=
  (List.range n).foldl (fun s i => (s.dmaRead (.rinolink p) (pa + 16 * i)).2) s

/-- The lines of a concentrator's entries are read (09 R310). -/
def State.dirTouch (s : State) (p c : Nat) : State :=
  let a := s.dirAddr (dirIndex p c 0)
  (List.range 63).foldl (fun s i => s.rTouch p (a + 64 * i) 1) s

/-- Word 0 and word 1 of an entry. -/
def State.dir0 (s : State) (p c e : Nat) : Data := (s.rGet p (s.dirAddr (dirIndex p c e))).data

def State.dir1 (s : State) (p c e : Nat) : Data := (s.rGet p (s.dirAddr (dirIndex p c e) + 16)).data

def State.setDir0 (s : State) (p c e : Nat) (d : Data) : State :=
  s.rSet p (s.dirAddr (dirIndex p c e)) { data := d, tag := Tag.int }

def dSt (d : Data) : Nat := bits d 63 62
def dClass (d : Data) : Nat := bits d 61 60
def dInw (d : Data) : Nat := bits d 53 48
def dOutw (d : Data) : Nat := bits d 59 54

/-- The input and output areas of an entry. -/
def State.inA (s : State) (p c e : Nat) : Nat := bits (s.dir1 p c e) 47 4 * 16

def State.outA (s : State) (p c e : Nat) : Nat := bits (s.dir1 p c e) 111 68 * 16

/-- The endpoints of a concentrator, 0 the concentrator itself. -/
def endpoints : List Nat := List.range 126

/-- The fault event (12 R436). -/
def State.rFault (s : State) (p b : Nat) : State := s.raise (207 + 8 * p) (BitVec.ofNat 128 (2 ^ b))

/-- A decision of the port offered to the pair link (14 R473). -/
def State.portDecides (s : State) (p : Nat) (d : PortDecision) : State := { s with pair := s.pair.push (.portrec p d) }

/-! ## Sending (12 R411, R416) -/

/-- A port sends: a standby's sends TOKENs only, and a demoted member's nothing (14 R476, R483). -/
def State.rSends (s : State) : Bool := s.pair.role != 2 && s.pair.role != 3

/-- A frame is queued behind those to send. -/
def State.rSend (s : State) (p : Nat) (h : Data) (payload : List Data) : State :=
  if s.rSends then s.modPort p (fun x => { x with tx := x.tx ++ [{ f := { hdr := h, payload := payload }, cut := false }] }) else s

def TxFrame.isSra (t : TxFrame) : Bool := bits t.f.hdr 7 0 == 6

/-- The frame on the line is ended after the payload word in progress, and its rest continues (12 R416). -/
def TxFrame.split (t : TxFrame) (bytes : Nat) : List TxFrame × List TxFrame :=
  let plen := t.f.payload.length
  let w := (bytes - 24 + 15) / 16
  if bytes = 0 then ([], [t])
  else if t.isSra || decide (plen < w + 4) then ([t], [])
  else
    let h := setBits (setBits (setBits t.f.hdr 10 10 1) 56 48 (bits t.f.hdr 56 48 + w)) 40 32 (plen - w)
    ([{ f := { t.f with payload := t.f.payload.take w }, cut := true }], [{ f := { hdr := h, payload := t.f.payload.drop w }, cut := t.cut }])

/-- An SRA pre-empts every other frame (12 R416): it stands behind what is on the line and behind earlier SRAs. -/
def RPort.sendSra (x : RPort) (f : RFrame) : RPort :=
  let sra : TxFrame := { f := f, cut := false }
  match x.tx with
  | [] => { x with tx := [sra] }
  | t :: r =>
    let (a, b) := t.split x.txBytes
    let q := b ++ r
    { x with tx := a ++ q.takeWhile TxFrame.isSra ++ [sra] ++ q.dropWhile TxFrame.isSra }

/-- The line carries n more bytes: a frame of k words takes 40 + 16 k with its idle (12 R411). -/
def RPort.lineAdvance (x : RPort) (n : Nat) : RPort :=
  match x.tx with
  | [] => x
  | t :: r =>
    if 40 + 16 * t.f.payload.length ≤ x.txBytes + n then { x with tx := r, txBytes := 0 }
    else { x with txBytes := x.txBytes + n }

/-! ## Absence (12 R421, R422) -/

/-- The section of an endpoint leaves an OUT frame. -/
def State.dropSection (s : State) (p c e : Nat) (f : RFrame) : RFrame :=
  match f.payload with
  | [] => f
  | pres :: rest =>
    if bit pres e then
      let before := (endpoints.filter (fun i => decide (i < e) && bit pres i)).map (fun i => dOutw (s.dir0 p c i))
      let o := before.sum
      let n := dOutw (s.dir0 p c e)
      { hdr := setBits f.hdr 40 32 (bits f.hdr 40 32 - n), payload := setBits pres e e 0 :: (rest.take o ++ rest.drop (o + n)) }
    else f

/-- An OUT frame of the concentrator and class that carries a section of endpoint e, none of it sent yet: a continuation belongs to a
frame already on the line (12 R416, R422). -/
def outFrameOf (c cls e : Nat) (t : TxFrame) : Bool :=
  bits t.f.hdr 7 0 == 3 && !(bit t.f.hdr 10) && bits t.f.hdr 9 8 == cls && bits t.f.hdr 23 16 == c &&
  (match t.f.payload with | p :: _ => bit p e | [] => false)

/-- A node has changed its state since the last input phase ended (12 R436). -/
def RPort.noteChange (x : RPort) (i : Nat) : RPort := if x.changed.contains i then x else { x with changed := x.changed ++ [i] }

/-- A node becomes ABSENT (12 R421, R422): STATE 2, OUTEN cleared, its section gone from every OUT frame not yet on the line. -/
def State.nodeAbsent (s : State) (p c e : Nat) : State :=
  let s := s.rTouch p (s.dirAddr (dirIndex p c e)) 1
  let d := s.dir0 p c e
  if dSt d ≠ 1 then s
  else
    let n := dClass d
    let s1 := (s.setDir0 p c e (setBits (setBits d 63 62 2) 64 64 0)).portDecides p (.absent c e)
    let x := s1.port p
    let k := x.class n
    let answered := k.phase == .between || (k.phase == .input && k.took.contains c && !(k.waiting.contains c))
    let k1 := { k with lost := if answered && bit d 64 then k.lost ++ [(c, e)] else k.lost }
    let busy := if x.txBytes = 0 then 0 else 1
    let hit := (x.tx.drop busy).any (outFrameOf c n e)
    let tx := x.tx.take busy ++ (x.tx.drop busy).map (fun t =>
      if outFrameOf c n e t then { t with f := s1.dropSection p c e t.f } else t)
    let s2 := s1.setPort p (({ x with tx := tx }.setClass n k1).noteChange (dirIndex p c e))
    if hit then s2.count (Key.rlkDrop p) 31 0 1 else s2

/-- A concentrator that becomes ABSENT makes every endpoint ABSENT (12 R421). -/
def State.concAbsent (s : State) (p c : Nat) : State :=
  let s1 := s.modPort p (fun x => x.setConc c { x.conc c with absent := true })
  endpoints.foldl (fun s e => s.nodeAbsent p c e) s1

/-! ## Cycles (12 R417 to R423) -/

/-- A status word (12 R423). -/
def statusWord12 (stamp age : Nat) (absent : Bool) (seq : Nat) : TWord :=
  { data := BitVec.ofNat 128 (stamp + age * 2 ^ 32 + b2n absent * 2 ^ 48 + seq % 65536 * 2 ^ 64), tag := Tag.int }

/-- The entries of a class that have areas: concentrator and endpoint, in ascending index. -/
def State.classNodes (s : State) (p n : Nat) : List (Nat × Nat) :=
  (List.range (s.port p).nconc).flatMap (fun i =>
    (endpoints.filter (fun e => let d := s.dir0 p (i + 1) e; (dSt d == 1 || dSt d == 2) && dClass d == n)).map (fun e => (i + 1, e)))

/-- The cycles since the last good input (12 R423): from its number where the port has taken one, else counted in the status word. -/
def State.ageOf (s : State) (p c e seq : Nat) (w : Data) : Nat :=
  match tfind (s.port p).good (dirIndex p c e) with
  | some g => seq - g
  | none => if bit w 48 then bits w 47 32 + 1 else (seq + 65536 - bits w 79 64) % 65536

/-- The status word of a node that stays ABSENT (12 R421, R423). -/
def State.ageStatus (s : State) (p c e seq : Nat) : State :=
  let a := s.inA p c e
  let s := s.rTouch p a 1
  let w := (s.rGet p a).data
  let age1 := s.ageOf p c e seq w
  s.rSet p a (statusWord12 (bits w 31 0) (if 65535 < age1 then 65535 else age1) true (bits w 79 64))

/-- The entries of every concentrator of the line are read. -/
def State.lineTouch (s : State) (p : Nat) : State := (List.range (s.port p).nconc).foldl (fun s i => s.dirTouch p (i + 1)) s

/-- The input phase completes (12 R418, R421, R436): the nodes that were ABSENT before this cycle get their status words, then the
events; a change of state of any node of the port since the last input phase counts. -/
def State.inputComplete (s : State) (p n : Nat) : State :=
  let s := s.lineTouch p
  let k := (s.port p).class n
  let ch := (s.port p).changed
  let nodes := s.classNodes p n
  let absent := nodes.filter (fun ce => dSt (s.dir0 p ce.1 ce.2) == 2)
  let s1 := (absent.filter (fun ce => !(ch.contains (dirIndex p ce.1 ce.2)))).foldl (fun s ce =>
    s.ageStatus p ce.1 ce.2 k.seq) s
  let s2 := (s1.setCls p n { k with phase := .between }).modPort p (fun x => { x with changed := [] })
  let w := k.seq % 65536 + (if 65535 < absent.length then 65535 else absent.length) * 2 ^ 16 + k.stamp * 2 ^ 32
  let s3 := s2.raise (200 + 8 * p + n) (BitVec.ofNat 128 w)
  if ch.isEmpty then s3
  else s3.raise (204 + 8 * p) (BitVec.ofNat 128 (ch.foldl Nat.min (2 ^ 18 - 1) + ch.length * 2 ^ 18))

/-- The length of a cycle in ns (12 R417). -/
def cycleNs (n : Nat) : Nat := if n = 0 then 250000 else if n = 1 then 10000000 else 1000000000

/-- The concentrators that take part in a class: not ABSENT, with an endpoint of the class, itself among them (12 R417,
log 47). -/
def State.takers (s : State) (p n : Nat) : List Nat :=
  ((List.range (s.port p).nconc).map (· + 1)).filter (fun c =>
    !((s.port p).conc c).absent && !((s.port p).conc c).rejected &&
    endpoints.any (fun e => let d := s.dir0 p c e; (dSt d == 1 || dSt d == 2) && dClass d == n))

/-- The cycle of a class that NOW lies in, once NOW has reached RLK_CYCBASE (12 R417). -/
def State.cycleNow (s : State) (p n : Nat) : Option Nat :=
  let base := (s.reg (Key.rlkCycbase p)).toNat
  if s.nowNs < base then none else some ((s.nowNs - base) / cycleNs n)

/-- The timestamp of the instant at which a cycle starts (12 R417). -/
def State.cycleStamp (s : State) (p n q : Nat) : Nat := ((s.reg (Key.rlkCycbase p)).toNat + q * cycleNs n) % 2 ^ 32

/-- Cycle q starts, its start at a timestamp: NOGO where the last one sent no outputs, POLLs, in a slow cycle a DISC for the next free
address (12 R417 to R420, R434). -/
def State.cycleStart (s : State) (p n q stamp : Nat) : State :=
  let k := (s.port p).class n
  let s0 := if k.phase == .between then s.count (Key.rlkDrop p) 63 48 1 else s
  let s1 := (s0.portDecides p (.cycleStart n q stamp)).lineTouch p
  let took := s1.takers p n
  let k1 : RCls := { nextK := some (q + 1), phase := .input, seq := q, stamp := stamp, waiting := took, took := took }
  let s2 := took.foldl (fun s c => s.rSend p (rHdr 1 n c 0 0 q stamp) []) (s1.setCls p n k1)
  let x := s2.port p
  let s3 := if n = 2 ∧ x.st = 5 ∧ x.disc.isNone ∧ x.nconc < 250 then
      (s2.setPort p { x with disc := some (x.nconc + 1) }).rSend p (rHdr 7 3 0 0 0 0 (x.nconc + 1)) [] else s2
  if took.isEmpty then s3.inputComplete p n else s3

/-- A phase has ended: a cycle that waited for it starts, now (12 R420). -/
def State.phaseEnded (s : State) (p n : Nat) : State :=
  match ((s.port p).class n).deferred with
  | some q => s.cycleStart p n q s.stamp
  | none => s

/-- The endpoints of a concentrator and class whose outputs are sent (12 R415, R422). -/
def State.outEndpoints (s : State) (p n c : Nat) : List Nat :=
  endpoints.filter (fun e => let d := s.dir0 p c e; dSt d == 1 && dClass d == n && bit d 64)

/-- The addresses of the output words of a concentrator and class, in the order of an OUT frame (12 R414). -/
def State.outAddrs (s : State) (p n c : Nat) : List Nat :=
  (s.outEndpoints p n c).flatMap (fun e => (List.range (dOutw (s.dir0 p c e))).map (fun i => s.outA p c e + 16 * i))

/-- The output words are read; a POISON one that is not sent is logged (10 R348). -/
def State.outRead (s : State) (p n c : Nat) : State :=
  let as := s.outAddrs p n c
  let s := s.dirTouch p c
  let s1 := as.foldl (fun s a => s.rTouch p a 1) s
  match as.find? (fun a => (s.rGet p a).tag == Tag.poison) with
  | some a => s1.dmaLog (.rinolink p) a
  | none => s1

/-- An OUT frame of a concentrator (12 R414, R415, R419): header and payload, or HOLD when a word carries POISON or, for the port stops
what it cannot read (01 R16, log 47), a word receives an error response. -/
def State.outFrame (s : State) (p n c : Nat) (k : RCls) : RFrame × Bool :=
  let es := s.outEndpoints p n c
  let ws := (s.outAddrs p n c).map (s.rGet p)
  let pres := es.foldl (fun (d : Data) e => setBits d e e 1) 0
  if ws.any (fun w => w.tag == Tag.poison) || (s.outAddrs p n c).any (fun a => !(s.dmaOk (.rinolink p) a)) then
    ({ hdr := setBits (rHdr 3 n c 0 0 k.seq k.stamp) 11 11 1, payload := [] }, true)
  else
    let payload := pres :: ws.map TWord.untagged
    ({ hdr := rHdr 3 n c 0 payload.length k.seq k.stamp, payload := payload }, false)

/-- The output phase completes (12 R419, R436). -/
def State.outputComplete (s : State) (p n : Nat) : State :=
  let k := (s.port p).class n
  ((s.setCls p n { k with phase := .idle }).raise (203 + 8 * p) (BitVec.ofNat 128 (n + k.seq % 65536 * 4))).phaseEnded p n

/-- The output phase starts: one OUT frame to each concentrator that took part and is not ABSENT (12 R415, R419, R422). -/
def State.outputStart (s : State) (p n : Nat) : State :=
  let k := (s.port p).class n
  let dst := k.took.filter (fun c => !((s.port p).conc c).absent)
  let gone := (k.lost.filter (fun ce => dst.contains ce.1)).length
  let s1 := (s.setCls p n { k with phase := .output, waiting := dst, lost := [], ofsDone := false }).count (Key.rlkDrop p) 31 0 gone
  let s2 := (dst.map (fun c => (c, s1.outFrame p n c k))).foldl (fun s (c, f, hold) =>
    let s1 := (s.outRead p n c).rSend p f.hdr f.payload
    if hold && s1.rSends then ((s1.count (Key.rlkDrop p) 47 32 1).rFault p 4).portDecides p (.hold n c) else s1) s1
  if dst.isEmpty then s2.outputComplete p n else s2

/-- The input phase has ended: outputs whose offset has passed start, else a cycle that waited (12 R419, R420). -/
def State.inputEnded (s : State) (p n : Nat) : State :=
  let s1 := s.inputComplete p n
  let k := (s1.port p).class n
  match k.deferred with
  | some q => s1.cycleStart p n q s1.stamp
  | none => if k.ofsDone then s1.outputStart p n else s1

/-- A concentrator owes no more answer; the phase ends with the last (12 R418, R419). -/
def State.answered (s : State) (p n c : Nat) : State :=
  let k := (s.port p).class n
  let k1 := { k with waiting := k.waiting.filter (fun x => x != c) }
  let s1 := s.setCls p n k1
  if !k1.waiting.isEmpty then s1
  else match k.phase with
    | .input => s1.inputEnded p n
    | .output => s1.outputComplete p n
    | _ => s1

/-- RINOLINK_CYCLE_START (12 R417 to R420, R433): on a port whose cyclic service is on, at the start of a cycle that has not started; a
phase still running defers it. -/
def State.rCycleStart (s : State) (p n : Nat) : State :=
  let x := s.port p
  let k := x.class n
  match s.cycleNow p n with
  | none => s
  | some q =>
    if !(x.st == 5 && x.service) || (match k.nextK with | some m => decide (q < m) | none => false) then s
    else if k.phase == .input || k.phase == .output then
      let (hi, lo) := if n = 0 then (15, 0) else if n = 1 then (31, 16) else (47, 32)
      ((s.setCls p n { k with nextK := some (q + 1), deferred := some q }).count (Key.rlkOvrn p) hi lo 1).rFault p n
    else s.cycleStart p n q (s.cycleStamp p n q)

def execRinolinkCycleStart (p cls : Nat) (s : State) : Out :=
  if 8 ≤ p ∨ 3 ≤ cls then .fault .noSuchUnit
  else dmaCmd (fun s => if s.rSends then .next (s.rCycleStart p cls) else .next s) s

/-! ## Received frames of the cycles (12 R418, R419, R421) -/

/-- One endpoint of an IN frame of class n: its input words and status word, or its absence; answers where its section ends. The section of
an endpoint that takes no part (STATE 3) is passed over (12 R414). -/
def State.inEndpoint (s : State) (p n c e : Nat) (pres : Data) (sect : List Data) (o : Nat) : State × Nat :=
  let d := s.dir0 p c e
  if dClass d ≠ n then (s, o)
  else if dSt d ≠ 1 ∧ dSt d ≠ 2 then (s, if bit pres e then o + dInw d else o)
  else if bit pres e then
    let k := (s.port p).class n
    let i := dirIndex p c e
    let words := (List.range (dInw d)).map (fun i => ({ data := sect.getD (o + i) 0, tag := Tag.full } : TWord))
    let a := s.inA p c e
    let s1 := (s.dmaSetAll (.rinolink p) (a + 16) words).rSet p a (statusWord12 k.stamp 0 false k.seq)
    let s2 := s1.modPort p (fun x => { x with good := tput x.good i k.seq })
    let s3 := if dSt d = 2 then (s2.setDir0 p c e (setBits d 63 62 1)).modPort p (fun x => x.noteChange i) else s2
    (if e = 0 then s3.modPort p (fun x => x.setConc c { x.conc c with absent := false }) else s3, o + dInw d)
  else (s.nodeAbsent p c e, o)

/-- The concentrator takes part in the class itself and its own bit of the presence word is 0 (12 R414, R421). -/
def State.concGone (s : State) (p n c : Nat) (pres : Data) : Bool :=
  let d := s.dir0 p c 0
  dClass d == n && (dSt d == 1 || dSt d == 2) && !(bit pres 0)

/-- An IN frame (12 R418, R421): late ones are discarded and counted (07 R259). -/
def State.rIn (s : State) (p : Nat) (f : RFrame) : State :=
  let n := bits f.hdr 9 8
  let c := bits f.hdr 23 16
  let k := (s.port p).class n
  if !(k.phase == .input && k.waiting.contains c && bits f.hdr 79 64 == k.seq % 65536) then s.count (Key.rlkLate p) 31 0 1
  else
    let s := s.dirTouch p c
    let pres := f.payload.headD 0
    let sect := f.payload.drop 1
    if s.concGone p n c pres then (s.concAbsent p c).answered p n c
    else
      let r := endpoints.foldl (fun (r : State × Nat) e => r.1.inEndpoint p n c e pres sect r.2) (s, 0)
      r.1.answered p n c

/-- An ACK frame (12 R419). -/
def State.rAck (s : State) (p : Nat) (f : RFrame) : State :=
  let n := bits f.hdr 9 8
  let c := bits f.hdr 23 16
  let k := (s.port p).class n
  if k.phase == .output && k.waiting.contains c && bits f.hdr 79 64 == k.seq % 65536 then s.answered p n c
  else s.count (Key.rlkLate p) 31 0 1

/-- A LOSS frame (12 R421). -/
def State.rLoss (s : State) (p : Nat) (f : RFrame) : State :=
  let c := bits f.hdr 23 16
  let lost := f.payload.headD 0
  if bit lost 0 then s.concAbsent p c
  else endpoints.foldl (fun s e => if bit lost e then s.nodeAbsent p c e else s) s

/-- A frame with a bad FCS, a reserved TYPE or a set RSV bit (12 R412). -/
def execRinolinkFrameDiscard (p : Nat) (s : State) : Out :=
  if 8 ≤ p then .fault .noSuchUnit else .next (s.count (Key.rlkFcs p) 31 0 1)

/-- A missed deadline (12 R418, R419, R421; 07 R258 entry 3). -/
def State.rMiss (s : State) (p n c : Nat) : State :=
  let k := (s.port p).class n
  if (k.phase == .input || k.phase == .output) && k.waiting.contains c then
    let s1 := ((s.count (Key.rlkMiss p) 31 0 1).portDecides p (.missed n c)).raise 403 0
    (s1.concAbsent p c).answered p n c
  else s

def execRinolinkDeadlineMiss (p cls conc : Nat) (s : State) : Out :=
  if 8 ≤ p ∨ 3 ≤ cls then .fault .noSuchUnit
  else dmaCmd (fun s => if s.rSends then .next (s.rMiss p cls conc) else .next s) s

/-- A write of RLK_OUTGO: ignored before the input phase completes (12 R419). -/
def State.rOutGo (s : State) (p : Nat) (v : W64) : State :=
  (List.range 3).foldl (fun s n => if bit v n && ((s.port p).class n).phase == .between then s.outputStart p n else s) s

def execOutputGo (p : Nat) (v : W64) (s : State) : Out :=
  if 8 ≤ p then .fault .noSuchUnit else dmaCmd (fun s => .next (s.rOutGo p v)) s

/-- The output offset of a class in µs (12 R437). -/
def State.outOfs (s : State) (p n : Nat) : Nat :=
  if n = 0 then s.rf (Key.rlkOutofs p) 7 0 else if n = 1 then s.rf (Key.rlkOutofs p) 29 16 else s.rf (Key.rlkOutofs p) 63 44

/-- OUTPUT_OFFSET_EXPIRY (12 R419). -/
def execOutputOffsetExpiry (p cls : Nat) (s : State) : Out :=
  if 8 ≤ p ∨ 3 ≤ cls then .fault .noSuchUnit
  else dmaCmd (fun s =>
    let k := (s.port p).class cls
    if s.outOfs p cls = 0 then .next s
    else match k.phase with
      | .between => .next (s.outputStart p cls)
      | .input => .next (s.setCls p cls { k with ofsDone := true })
      | _ => .next s) s

/-! ## Service requests (12 R424 to R428) -/

/-- A service request arrives: spacing is counted, its descriptor is read (12 R425, R426). -/
def State.rSrq (s : State) (p : Nat) (f : RFrame) : State :=
  let x := s.port p
  let now := s.nowNs
  let near := match x.prevSrq with | some t => decide (now < t + 3000) | none => false
  let s1 := if near then (s.count (Key.rlkSrstat p) 63 48 1).rFault p 3 else s
  let at' := s1.rf (Key.rlkAtbase p) 47 12 * 4096 + 16 * bits f.hdr 87 80
  let desc := s1.rGet p at'
  (s1.rTouch p at' 1).modPort p (fun x => { x with prevSrq := some now, srqs := x.srqs ++ [{ f := f, stamp := now % 2 ^ 32, desc := desc }] })

/-- A descriptor that an answer may be taken from (12 R424, R425). -/
def descUsable (d : TWord) : Bool :=
  (d.tag == Tag.int || d.tag == Tag.bits || d.tag == Tag.ptr) && bit d.data 56 && decide (bits d.data 55 48 ≤ 16)

/-- The answer words that a descriptor names. -/
def State.answerWords (s : State) (p : Nat) (d : TWord) : List TWord :=
  (List.range (bits d.data 55 48)).map (fun i => s.rGet p (bits d.data 47 4 * 16 + 16 * i))

/-- The answer words that a descriptor names are read; a POISON one, which is not sent, is logged (10 R348). -/
def State.answerRead (s : State) (p : Nat) (d : TWord) : State :=
  let a := bits d.data 47 4 * 16
  let s1 := s.rTouch p a (bits d.data 55 48)
  match firstPoison a (s.answerWords p d) with
  | some b => s1.dmaLog (.rinolink p) b
  | none => s1

/-- Every answer word can be read (01 R16). -/
def State.answerOk (s : State) (p : Nat) (d : TWord) : Bool :=
  (List.range (bits d.data 55 48)).all (fun i => s.dmaOk (.rinolink p) (bits d.data 47 4 * 16 + 16 * i))

/-- READY is cleared after use with ONCE, unless the descriptor has changed (12 R425). -/
def State.useOnce (s : State) (p pa : Nat) (d : TWord) : State :=
  if bit d.data 57 && s.rGet p pa == d then s.rSet p pa { d with data := setBits d.data 56 56 0 } else s

/-- An SRA to the sender of a request (12 R413, R425). -/
def sraFrame (h : Data) (status : Nat) (ws : List Data) : RFrame :=
  { hdr := rHdr 6 3 (bits h 23 16) (bits h 30 24) ws.length (bits h 79 64) (bits h 103 80 + status * 2 ^ 24), payload := ws }

/-- An SRA is sent, and its status counted and offered to the pair link, with the descriptor of a final answer (12 R425, R428, R437;
14 R473). -/
def State.sendSra (s : State) (p : Nat) (h : Data) (status : Nat) (ws : List Data) (final : Option Addr) : State :=
  let s1 := if s.rSends then s.modPort p (fun x => x.sendSra (sraFrame h status ws)) else s
  let s2 := if status = 1 then s1.count (Key.rlkSrstat p) 47 32 1 else if status = 3 then s1.count (Key.rlkSrstat p) 31 16 1 else s1
  s2.portDecides p (.sraStatus (BitVec.ofNat 2 status) final)

/-- The status that a request is answered with, and the answer's words (12 R425); an answer that cannot be read is never complete. -/
def State.srqAnswer (s : State) (p : Nat) (q : RSrq) (late : Bool) : Nat × List TWord :=
  let ws := s.answerWords p q.desc
  if decide (31 < bits q.f.hdr 40 32) || q.desc.tag == Tag.poison then (3, [])
  else if !(descUsable q.desc) || late then (1, [])
  else if ws.any (fun w => w.tag == Tag.poison) then (3, [])
  else if !(s.answerOk p q.desc) then (1, [])
  else (0, ws)

/-- The request goes into the ring and to the responder thread (12 R427). -/
def State.srqHandOff (s : State) (p : Nat) (q : RSrq) (status : Nat) : State :=
  let i := (s.port p).ring
  let a := s.rf (Key.rlkSrring p) 47 17 * 2 ^ 17 + 512 * i
  let ws : List TWord := { data := q.f.hdr, tag := Tag.int } :: (q.f.payload.take 31).map (fun d => { data := d, tag := Tag.bits })
  let s1 := (s.dmaSetAll (.rinolink p) a ws).modPort p (fun x => { x with ring := (i + 1) % 256 })
  let h := q.f.hdr
  let w := i + bits h 23 16 * 2 ^ 8 + bits h 30 24 * 2 ^ 16 + bits h 87 80 * 2 ^ 24 + bits h 103 88 * 2 ^ 32 + status * 2 ^ 48 +
    q.stamp * 2 ^ 64
  s1.raise (192 + p) (BitVec.ofNat 128 w)

/-- The oldest request is answered with a status, written into the ring and handed to the responder thread (12 R425 to R427). -/
def State.srqFinish (s : State) (p : Nat) (q : RSrq) (rest : List RSrq) (status : Nat) (ws : List TWord) : State :=
  let s1 := (s.modPort p (fun x => { x with srqs := rest })).sendSra p q.f.hdr status (ws.map TWord.untagged) none
  let s2 := if status = 0 then s1.useOnce p (s1.rf (Key.rlkAtbase p) 47 12 * 4096 + 16 * bits q.f.hdr 87 80) q.desc else s1
  s2.srqHandOff p q status

/-- SRA_READY (12 R425): the answer is complete, or late: 2.5 µs have passed. -/
def execSraReady (p : Nat) (late : Bool) (s : State) : Out :=
  if 8 ≤ p then .fault .noSuchUnit
  else dmaCmd (fun s => match (s.port p).srqs with
    | [] => .next s
    | q :: r =>
      if s.rSends then
        let (status, ws) := s.srqAnswer p q late
        let s1 := if descUsable q.desc && !late then s.answerRead p q.desc else s
        .next (s1.srqFinish p q r status ws)
      else .next s) s

/-- A write of RLK_SRFIN (12 R428): an answer that cannot be read is an error (log 47). -/
def State.rSrFin (s : State) (p : Nat) (v : W64) : State :=
  let ring := s.rf (Key.rlkSrring p) 47 17 * 2 ^ 17 + 512 * bits v 63 56
  let pa := bits v 47 4 * 16
  let fin : Option Addr := some (BitVec.ofNat 48 pa)
  let s := (s.rTouch p ring 1).rTouch p pa 1
  let h := (s.rGet p ring).data
  let d := s.rGet p pa
  let ws := s.answerWords p d
  if bit v 0 || !(descUsable d) then s.sendSra p h 3 [] fin
  else
    let s1 := s.answerRead p d
    if ws.any (fun w => w.tag == Tag.poison) || !(s.answerOk p d) then s1.sendSra p h 3 [] fin
    else (s1.sendSra p h 2 (ws.map TWord.untagged) fin).useOnce p pa d

def execSrFinal (p : Nat) (v : W64) (s : State) : Out :=
  if 8 ≤ p then .fault .noSuchUnit else dmaCmd (fun s => .next (s.rSrFin p v)) s

/-! ## Discovery and the directory (12 R429 to R434) -/

/-- A change of STATE (14 R473). -/
def State.portState (s : State) (p st : Nat) : State :=
  (s.modPort p (fun x => { x with st := st })).portDecides p (.portState (BitVec.ofNat 3 st))

/-- The event of a step of discovery (12 R436). -/
def State.discEvent (s : State) (p step : Nat) : State :=
  s.raise (206 + 8 * p) (BitVec.ofNat 128 (step + (s.port p).nconc * 2 ^ 8))

/-- DISC of an address (12 R429). -/
def State.sendDisc (s : State) (p a : Nat) : State :=
  (s.modPort p (fun x => { x with disc := some a })).rSend p (rHdr 7 3 0 0 0 0 a) []

/-- Discovery starts: once its link is up, and in a pair once the member is primary (12 R429, R434; 14 R470). -/
def State.discStart (s : State) (p : Nat) : State :=
  if s.rb Key.pairCtl 63 && s.pair.role != 1 then s
  else
    let s1 := (s.portState p 2).modPort p (fun x =>
      { x with nconc := 0, concs := [], dirq := none, cls := [], service := false })
    s1.sendDisc p 1

/-- Every entry of a concentrator is given STATE 3 (12 R430, R434). -/
def State.rejectConc (s : State) (p c : Nat) : State :=
  let s1 := s.modPort p (fun x => x.setConc c { x.conc c with rejected := true })
  endpoints.foldl (fun s e => s.setDir0 p c e (setBits (s.dir0 p c e) 63 62 3)) s1

/-- Words with one value at consecutive addresses. -/
def State.rFill (s : State) (p pa n : Nat) (w : TWord) : State := s.dmaSetAll (.rinolink p) pa (List.replicate n w)

/-- The section words of IN and of OUT that the entries below endpoint e of a concentrator and class hold (12 R414). -/
def State.classTotals (s : State) (p c n e : Nat) : Nat × Nat :=
  (List.range e).foldl (fun (t : Nat × Nat) i =>
    let d := s.dir0 p c i
    if (dSt d == 1 || dSt d == 2) && dClass d == n then (t.1 + dInw d, t.2 + dOutw d) else t) (0, 0)

/-- The areas of one entry (12 R433); answers whether it was rejected. A concentrator that keeps its entries keeps the areas they have
(R434). -/
def State.allocEntry (s : State) (p c e : Nat) : State × Bool :=
  let d := s.dir0 p c e
  if dSt d ≠ 1 || (((s.port p).conc c).keep && s.dir1 p c e != 0) then (s, false)
  else
    let a := (s.port p).alloc
    let n := dInw d + 1 + dOutw d
    let (i, o) := s.classTotals p c (dClass d) e
    let tooMany := dClass d != 3 && (decide (255 < i + dInw d) || decide (255 < o + dOutw d))
    if tooMany || decide (s.rf (Key.rlkIolim p) 47 14 * 2 ^ 14 < a + 16 * n) then (s.setDir0 p c e (setBits d 63 62 3), true)
    else
      let s1 := s.rSet p a (statusWord12 0 0 true 0)
      let s2 := s1.rFill p (a + 16) (dInw d) { data := 0, tag := Tag.empty }
      let out := a + 16 * (dInw d + 1)
      let s3 := s2.rFill p out (dOutw d) TWord.fresh
      let w1 : TWord := { data := BitVec.ofNat 128 (a + out * 2 ^ 64), tag := Tag.int }
      let s4 := s3.rSet p (s3.dirAddr (dirIndex p c e) + 16) w1
      (s4.modPort p (fun x => { x with alloc := a + 16 * n, good := tdel x.good (dirIndex p c e) }), false)

/-- Areas for the entries of some concentrators, in ascending index (12 R433). -/
def State.allocate (s : State) (p : Nat) (cs : List Nat) : State :=
  let r := cs.foldl (fun (r : State × Bool) c =>
    endpoints.foldl (fun (r : State × Bool) e => let q := r.1.allocEntry p c e; (q.1, r.2 || q.2)) (r.1.dirTouch p c, r.2)) (s, false)
  if r.2 then r.1.rFault p 5 else r.1

/-- Concentrators 1 to n whose state p accepts. -/
def RPort.concsWhere (x : RPort) (q : RConc → Bool) : List Nat :=
  ((List.range x.nconc).map (· + 1)).filter (fun c => q (x.conc c))

/-- Where the next area lies: behind those that the kept concentrators' entries have in the area region, from RLK_IOBASE upward
(12 R433, R434). -/
def State.allocFrom (s : State) (p : Nat) : Nat :=
  let base := s.rf (Key.rlkIobase p) 47 14 * 2 ^ 14
  let lim := s.rf (Key.rlkIolim p) 47 14 * 2 ^ 14
  ((s.port p).concsWhere (fun c => c.keep && !c.rejected)).foldl (fun m c =>
    endpoints.foldl (fun m e =>
      let d := s.dir0 p c e
      let a := s.inA p c e
      if (dSt d == 1 || dSt d == 2) && s.dir1 p c e != 0 && decide (base ≤ a) && decide (a < lim) then
        max m (a + 16 * (dInw d + 1 + dOutw d))
      else m) m) base

/-- The upload ends: areas are allocated, STATE 5, and cyclic service where AUTO is 1 (12 R431, R433); the end of the upload of one
concentrator offers STATE 5 again (log 46). -/
def State.uploadEnd (s : State) (p : Nat) : State :=
  let s0 := s.modPort p (fun x => { x with alloc := s.allocFrom p, dirq := none })
  let s1 := s0.discEvent p 2
  let s2 := s1.allocate p ((s.port p).concsWhere (fun c => c.uploaded && !c.rejected))
  let s3 := s2.modPort p (fun x => { x with concs := x.concs.map (fun (e : Nat × RConc) => (e.1, { e.2 with keep := true })) })
  let s4 := s3.portState p 5
  s4.modPort p (fun x => { x with service := x.service || s4.rb (Key.rlkCtl p) 61 })

/-- DIRQ goes to the next concentrator to upload, or the upload ends (12 R431). -/
def State.dirqNext (s : State) (p : Nat) : State :=
  let x := s.port p
  match x.concsWhere (fun c => c.enumed && !c.rejected && !c.uploaded) with
  | [] => s.uploadEnd p
  | c :: _ => (s.setPort p { x with dirq := some c }).rSend p (rHdr 11 3 c 0 0 0 x.rtd) []

/-- Enumeration ends when every concentrator has answered or is rejected (12 R430). -/
def State.enumCheck (s : State) (p : Nat) : State :=
  let x := s.port p
  if x.concsWhere (fun c => !c.enumed && !c.rejected) != [] then s
  else if x.st = 5 then (s.discEvent p 1).dirqNext p
  else ((s.discEvent p 1).portState p 4).dirqNext p

/-- Discovery ends: ENUM to every concentrator (12 R429, R430). -/
def State.discEnd (s : State) (p : Nat) : State :=
  let s0 := s.modPort p (fun x => { x with disc := none })
  let s1 := ((s0.discEvent p 0).portDecides p (.discovered (s0.port p).nconc)).portState p 3
  (s1.rSend p (rHdr 9 3 0xFF 0 0 0 0) []).enumCheck p

/-- A concentrator is found at address a (12 R429, R434): one that matches the directory keeps its entries, another serial number
rejects them. -/
def State.concFound (s : State) (p a : Nat) (serial : BitVec 32) (rtd : Nat) : State :=
  let s := s.rTouch p (s.dirAddr (dirIndex p a 0)) 1
  let x := s.port p
  let d := s.dir0 p a 0
  let known := dSt d != 0
  let same := bits d 31 0 == serial.toNat
  let k : RConc := { serial := serial, keep := known && same }
  let s1 := s.setPort p ({ x with nconc := a, dirc := max x.dirc a, rtd := rtd, disc := none }.setConc a k)
  if known && !same then (s1.rejectConc p a).rFault p 6 else s1

/-- A DISC_R frame (12 R429, R434; 14 R473). -/
def State.rDiscR (s : State) (p : Nat) (f : RFrame) (rtd : Nat) : State :=
  let x := s.port p
  match x.disc with
  | none => s
  | some a =>
    let serial := BitVec.ofNat 32 (bits f.hdr 111 80)
    let s2 := (s.portDecides p (.found a serial rtd)).concFound p a serial rtd
    if x.st = 5 then (s2.rSend p (rHdr 9 3 a 0 0 0 0) []).enumCheck p
    else if a = 250 then s2.discEnd p
    else s2.sendDisc p (a + 1)

/-- DISC_R (12 R429); rtd in units of 8 ns. -/
def execDiscR (p : Nat) (f : RFrame) (rtd : BitVec 16) (s : State) : Out :=
  if 8 ≤ p then .fault .noSuchUnit
  else dmaCmd (fun s => if badHdr f.hdr then .next (s.count (Key.rlkFcs p) 31 0 1)
  else if s.rSends && bits f.hdr 7 0 == 8 then .next (s.rDiscR p f rtd.toNat) else .next s) s

/-- DISC_TIMEOUT (12 R429). -/
def execDiscTimeout (p : Nat) (s : State) : Out :=
  if 8 ≤ p then .fault .noSuchUnit
  else dmaCmd (fun s =>
    let x := s.port p
    if x.disc.isNone || !s.rSends then .next s
    else if x.st = 2 then .next (s.discEnd p)
    else .next (s.setPort p { x with disc := none })) s

/-- ENUM_D (12 R430). -/
def execEnumD (p : Nat) (f : RFrame) (s : State) : Out :=
  if 8 ≤ p then .fault .noSuchUnit
  else dmaCmd (fun s => if badHdr f.hdr then .next (s.count (Key.rlkFcs p) 31 0 1)
  else
    let c := bits f.hdr 23 16
    let x := s.port p
    if s.rSends && bits f.hdr 7 0 == 10 && (x.st == 3 || x.st == 5) && decide (1 ≤ c) && decide (c ≤ x.nconc) &&
        !(x.conc c).enumed && !(x.conc c).rejected then
      .next ((s.setPort p (x.setConc c { x.conc c with enumed := true })).enumCheck p)
    else .next s) s

/-- ENUM_TIMEOUT (12 R430): the concentrators that have not answered take no further part. -/
def execEnumTimeout (p : Nat) (s : State) : Out :=
  if 8 ≤ p then .fault .noSuchUnit
  else dmaCmd (fun s =>
    let x := s.port p
    let open' := x.concsWhere (fun c => !c.enumed && !c.rejected)
    if s.rSends && (x.st == 3 || x.st == 5) && open' != [] then
      .next ((open'.foldl (fun s c => (s.portDecides p (.silent c)).rejectConc p c) s).enumCheck p)
    else .next s) s

/-- The directory entry that a record gives (12 R431, R432). -/
def dirOfRecord (r : Nat) : Data :=
  let d : Data := BitVec.ofNat 128 (r % 2 ^ 62)
  setBits d 63 62 (r / 2 ^ 62 % 2)

/-- A DIRREP frame (12 R431): entries that a concentrator keeps stay (R434). -/
def State.rDirrep (s : State) (p : Nat) (f : RFrame) : State :=
  let c := bits f.hdr 23 16
  let s1 := if ((s.port p).conc c).keep then s
    else endpoints.foldl (fun s e =>
      let w := f.payload.getD (e / 2) 0
      s.setDir0 p c e (dirOfRecord (bits w (64 * (e % 2) + 63) (64 * (e % 2))))) s
  s1.modPort p (fun x => x.setConc c { x.conc c with enumed := true, uploaded := true })

def execDirrep (p : Nat) (f : RFrame) (s : State) : Out :=
  if 8 ≤ p then .fault .noSuchUnit
  else dmaCmd (fun s => if badHdr f.hdr then .next (s.count (Key.rlkFcs p) 31 0 1)
  else if s.rSends && bits f.hdr 7 0 == 12 && (s.port p).dirq == some (bits f.hdr 23 16) then
    let s0 := { s with pair := s.pair.push (.framecopy p f s.nowNs) }
    .next ((s0.rDirrep p f).dirqNext p)
  else .next s) s

/-- AUTO_START (12 R433): a write of RLK_CTL.AUTO starts cyclic service. -/
def State.autoStart (s : State) (p : Nat) : State :=
  let s1 := s.setRf (Key.rlkCtl p) 61 61 1
  if (s.port p).st = 5 then s1.modPort p (fun x => { x with service := true }) else s1

def execAutoStart (p : Nat) (s : State) : Out :=
  if 8 ≤ p then .fault .noSuchUnit else dmaCmd (fun s => .next (s.autoStart p)) s

/-- A write of REDISC (12 R434). -/
def State.rediscover (s : State) (p : Nat) : State := if (s.port p).link then s.discStart p else s

def execRediscovery (p : Nat) (s : State) : Out :=
  if 8 ≤ p then .fault .noSuchUnit else dmaCmd (fun s => .next (s.rediscover p)) s

/-! ## The link (12 R410, R436) -/

/-- The link comes up (12 R410, R429). -/
def execRinolinkLinkUp (p : Nat) (s : State) : Out :=
  if 8 ≤ p then .fault .noSuchUnit
  else dmaCmd (fun s => if s.rb (Key.rlkCtl p) 63 && !(s.port p).link then
    .next (((s.modPort p (fun x => { x with link := true, st := 1 })).raise (205 + 8 * p) 1).discStart p)
  else .next s) s

/-- The link goes down (12 R410, R421): every node that the directory holds becomes ABSENT, and the phases and the frames to send end. -/
def State.linkDown (s : State) (p st : Nat) : State :=
  let x := s.port p
  if !x.link then s.portState p st
  else
    let s1 := ((List.range (max x.nconc x.dirc)).map (· + 1)).foldl (fun s c => s.concAbsent p c) s
    let s2 := s1.modPort p (fun x => { x with link := false, disc := none, dirq := none, cls := [], service := false, srqs := [],
                                              tx := [], txBytes := 0, prevSrq := none })
    (s2.portState p st).raise (205 + 8 * p) 0

def execRinolinkLinkDown (p : Nat) (s : State) : Out :=
  if 8 ≤ p then .fault .noSuchUnit
  else dmaCmd (fun s => if (s.port p).link then .next (s.linkDown p 1) else .next s) s

/-! ## Frames from the line (12 R412, 14 R473, R476) -/

/-- What a port does with a good frame of a node: 2 IN, 4 ACK, 5 SRQ, 12 DIRREP, 13 LOSS. -/
def State.applyFrame (s : State) (p : Nat) (f : RFrame) : State :=
  match bits f.hdr 7 0 with
  | 2 => s.rIn p f
  | 4 => s.rAck p f
  | 5 => s.rSrq p f
  | 12 => s.rDirrep p f
  | 13 => s.rLoss p f
  | _ => s

/-- A frame that arrives on the line: discarded when its header is bad, or on a standby, which takes TOKENs only; a primary offers a
FRAMECOPY first. -/
def State.fromLine (s : State) (p ty : Nat) (f : RFrame) : State :=
  if badHdr f.hdr then s.count (Key.rlkFcs p) 31 0 1
  else if !s.rSends || !(s.port p).link || bits f.hdr 7 0 != ty then s
  else { s with pair := s.pair.push (.framecopy p f s.nowNs) }.applyFrame p f

/-- IN (12 R418). -/
def execInFrame (p : Nat) (f : RFrame) (s : State) : Out :=
  if 8 ≤ p then .fault .noSuchUnit else dmaCmd (fun s => .next (s.fromLine p 2 f)) s

/-- ACK (12 R419). -/
def execAck (p : Nat) (f : RFrame) (s : State) : Out :=
  if 8 ≤ p then .fault .noSuchUnit else dmaCmd (fun s => .next (s.fromLine p 4 f)) s

/-- LOSS (12 R421). -/
def execLoss (p : Nat) (f : RFrame) (s : State) : Out :=
  if 8 ≤ p then .fault .noSuchUnit else dmaCmd (fun s => .next (s.fromLine p 13 f)) s

/-- SRQ (12 R425). -/
def execSrq (p : Nat) (f : RFrame) (s : State) : Out :=
  if 8 ≤ p then .fault .noSuchUnit else dmaCmd (fun s => .next (s.fromLine p 5 f)) s

/-! ## Registers (12 R437, R438) -/

/-- A write of RLK_CTL: EN, AUTO and REDISC act (12 R410, R433, R434). -/
def State.rlkCtlWrite (s : State) (p : Nat) (v : W64) : State :=
  let s1 := s.writeReg (Key.rlkCtl p) v
  let was := s.rb (Key.rlkCtl p) 63
  let s2 := if was && !(bit v 63) then s1.linkDown p 0
    else if !was && bit v 63 then s1.portState p 1 else s1
  let s3 := if bit v 61 then s2.autoStart p else s2
  if bit v 58 then s3.rediscover p else s3

/-- A write of RLK_OUTOFS: each field takes the values that its table gives (12 R437, 00 R5). -/
def State.rlkOfsWrite (s : State) (p : Nat) (v : W64) : State :=
  let k := Key.rlkOutofs p
  let s1 := if bits v 63 44 ≤ 999999 then s.setRf k 63 44 (bits v 63 44) else s
  let s2 := if bits v 29 16 ≤ 9999 then s1.setRf k 29 16 (bits v 29 16) else s1
  if bits v 7 0 ≤ 249 then s2.setRf k 7 0 (bits v 7 0) else s2

/-- A write of a Rinolink register whose effect is more than its table's. -/
def State.rlkWrite (s : State) (k : Nat) (v : W64) : Option State :=
  if k = Key.rlkDirbase then
    some (if (List.range 8).any (fun p => decide (2 ≤ (s.port p).st)) then s else s.writeReg k v)
  else if 0x400000 ≤ k ∧ k < 0x480000 then
    let p := k / 0x10000 % 16
    let o := k % 0x10000
    if o = 0 then some (s.rlkCtlWrite p v)
    else if o = 0x30 then some (if (s.port p).st = 5 then s else s.writeReg k v)
    else if o = 0x40 then some (s.rlkOfsWrite p v)
    else if o = 0x50 then some (s.rOutGo p v)
    else if 0x60 ≤ o ∧ o ≤ 0x90 then some (if 2 ≤ (s.port p).st then s else s.writeReg k v)
    else if o = 0xA0 then some (s.rSrFin p v)
    else none
  else none

/-- The live fields of a Rinolink register. -/
def State.rlkView (s : State) (k : Nat) : List (Nat × Nat × Nat) :=
  match regIdx (Key.rlkStatus 0) 0x10000 8 k with
  | some p => let x := s.port p; [(63, 63, b2n x.link), (62, 60, x.st), (39, 32, x.nconc), (15, 0, x.rtd)]
  | none => []

end Sys2Proof.Machine
end

