-- ==== Sys2Proof/Machine/PairLink.lean ====
section
/-! DEFINITION. The pair link: roles, supervision and takeover, the mirrored stream, resynchronisation, repair and registers
(14 R467 to R489). -/

namespace Sys2Proof.Machine

def State.setPair (s : State) (p : Pair) : State := { s with pair := p }

/-! ## Roles (14 R469 to R471, R483) -/

/-- The pair hold follows ROLE and GHOLD, whatever EN holds (14 R469). -/
def State.holdUpdate (s : State) : State :=
  let on := s.rb Key.pairCtl 61 && s.pair.role != 1
  if on == s.cio.pairHold then s
  else
    let s1 := { s with cio := { s.cio with pairHold := on } }
    if on then s1.holdUnits (fun _ => true) else s1.releaseHolds

/-- ROLE changes (14 R469, R488). -/
def State.setRole (s : State) (role : Nat) : State :=
  let s1 := s.setPair { s.pair with role := role }
  (s1.raise 360 (BitVec.ofNat 128 (role + s1.pair.epoch.toNat * 2 ^ 32))).holdUpdate

/-- SYNC becomes solo or isolated (14 R483, R488). -/
def State.loseSync (s : State) (sync : Nat) : State :=
  (s.setPair { s.pair with sync := sync, sendQ := [] }).raise 363 (BitVec.ofNat 128 sync)

/-- SYNC becomes syncing: copying starts anew (14 R484). -/
def State.startSync (s : State) : State :=
  s.setPair { s.pair with sync := 1, copyArea := 0, copyAddr := 0, copyWords := 0, copied := false }

/-- The chunks of the mirrored regions that are not yet initialised: the first (10 R356). -/
def State.regionsWait (s : State) : Option Nat :=
  ((List.range 8).filterMap (fun n =>
    let lo := s.rf (Key.pairMreg n) 47 16 * 2 ^ 16
    let hi := s.rf (Key.pairMlim n) 47 16 * 2 ^ 16
    if s.rb (Key.pairMreg n) 63 then s.spanWaits lo (hi - lo) else none)).head?

/-- A primary's ports that have waited start discovery (14 R470). -/
def State.portsStart (s : State) : State :=
  (List.range 8).foldl (fun s p => if (s.port p).link && (s.port p).st == 1 then s.discStart p else s) s

/-- The member becomes primary with 1 + the higher epoch seen (14 R470). -/
def State.becomePrimary (s : State) (partner : Bool) : State :=
  let e := s.pair.seen + 1
  let s1 := (s.setPair { s.pair with epoch := e, seen := e, sync := 0 }).setRole 1
  (if partner then s1.startSync else s1).portsStart

/-- The higher of two epochs. -/
def maxEpoch (a b : BitVec 32) : BitVec 32 := if a < b then b else a

/-- The member becomes standby, with the primary's epoch (14 R470, R484); where the partner was undecided, that is 1 + the higher epoch seen
until the primary names its own. -/
def State.becomeStandby (s : State) (epoch : BitVec 32) (adopts : Bool) : State :=
  ((s.setPair { s.pair with epoch := epoch, seen := epoch, adopts := adopts }).setRole 2).startSync

/-- A standby that has still to adopt its primary's epoch adopts it (14 R470). -/
def State.adoptEpoch (s : State) (epoch : BitVec 32) : State :=
  if s.pair.role = 2 && s.pair.adopts then s.setPair { s.pair with epoch := epoch, seen := maxEpoch s.pair.seen epoch, adopts := false } else s

/-- An undecided partner's strap and serial number decide (14 R470, case 2). -/
def State.decideRole (s : State) (serial : W64) (strap : BitVec 2) : State :=
  let mine := s.pair.strap == 1 && strap == 2
  let theirs := s.pair.strap == 2 && strap == 1
  if mine || (!theirs && decide (s.keyw.serial < serial)) then s.becomePrimary true
  else s.becomeStandby (s.pair.seen + 1) true

/-- A port that stops sending ends the frame that is on the line (14 R483). -/
def RPort.stopSending (x : RPort) : RPort := { x with tx := if x.txBytes = 0 then [] else x.tx.take 1 }

/-- The member is demoted by a higher epoch (14 R468, R483). -/
def State.demote (s : State) (epoch : BitVec 32) : State :=
  let s1 := (s.setPair { s.pair with seen := maxEpoch s.pair.seen epoch, sendQ := [] }).pairSend (.giveup s.pair.epoch)
  let s2 := (List.range 8).foldl (fun s p => s.modPort p RPort.stopSending) s1
  (s2.setRole 3).raise 367 (BitVec.ofNat 128 (epoch.toNat * 2 ^ 32))

/-- A frame with a good CRC has arrived (14 R478). -/
def State.pairRx (s : State) : State := s.setPair { s.pair with lastRx := s.nowNs, suspect := false }

/-- Pair operation is on: its frames are taken. -/
def State.pairOn (s : State) : Bool := s.rb Key.pairCtl 63

/-- HELLO (14 R470). -/
def execHello (serial : W64) (strap : BitVec 2) (epoch : BitVec 32) (s : State) : Out :=
  if !s.pairOn then .next s
  else
    let s1 := s.pairRx
    let s2 := s1.setPair { s1.pair with peer := serial, seen := maxEpoch s1.pair.seen epoch }
    .next (if s2.pair.role = 0 then s2.decideRole serial strap else s2)

/-- A TOKEN goes to the line of a port (14 R471): header, serial number and strap. -/
def State.sendToken (s : State) (p kind : Nat) : State :=
  let f : RFrame := { hdr := rHdr 14 3 0xFF 0 1 0 (s.pair.epoch.toNat + kind * 2 ^ 32),
                      payload := [BitVec.ofNat 128 (s.keyw.serial.toNat + s.pair.strap.toNat * 2 ^ 64)] }
  if s.pair.role != 3 && (s.port p).link then s.modPort p (fun x => { x with tx := x.tx ++ [{ f := f, cut := false }] }) else s

/-- HELLO_SEND (14 R470, R478): while ROLE is none; the HELLO goes to the pair link, the CLAIM to port 0 unless the safe state is forced. -/
def execHelloSend (s : State) : Out :=
  if s.pairOn && s.pair.role == 0 then
    let s1 := s.pairSend (.hello s.keyw.serial s.pair.strap s.pair.epoch)
    .next (if s.cio.inhBdg then s1 else s1.sendToken 0 2)
  else .next s

/-- TOKEN_SEND (14 R471, R478): not once the safe state is forced. -/
def execTokenSend (s : State) : Out :=
  if s.pairOn && (s.pair.role == 1 || s.pair.role == 2) && !s.cio.inhBdg then .next (s.sendToken 0 (s.pair.role - 1)) else .next s

/-- JOIN_TIMEOUT (14 R470, case 3). -/
def execJoinTimeout (s : State) : Out :=
  if s.pairOn && s.pair.role == 0 then .next (s.becomePrimary false) else .next s

/-- TOKEN (14 R470, R471, R479, R483): a frame on any port. -/
def execToken (p : Nat) (f : RFrame) (s : State) : Out :=
  if 8 ≤ p then .fault .noSuchUnit
  else if badHdr f.hdr then .next (s.count (Key.rlkFcs p) 31 0 1)
  else if !s.pairOn || bits f.hdr 7 0 != 14 then .next s
  else
    let epoch := BitVec.ofNat 32 (bits f.hdr 111 80)
    let kind := bits f.hdr 113 112
    let w := f.payload.headD 0
    let s := if kind = 0 then s.adoptEpoch epoch else s
    let r := s.pair
    if r.role = 0 then
      if kind = 0 then .next (s.becomeStandby epoch false)
      else if kind = 2 then
        .next ((s.setPair { r with seen := maxEpoch r.seen epoch }).decideRole (BitVec.ofNat 64 (bits w 63 0))
          (BitVec.ofNat 2 (bits w 65 64)))
      else .next s
    else if r.role = 3 then .next s
    else if kind = 0 && decide (r.epoch < epoch) then .next (s.demote epoch)
    else if r.role = 2 && kind = 0 && epoch == r.epoch && p == 0 then
      let s1 := s.setPair { r with lastTok := some s.nowNs }
      .next (if r.suspect && r.sync != 3 then s1.loseSync 3 else s1)
    else if r.role = 1 && kind = 1 && p == 0 then .next (s.setPair { r with lastTok := some s.nowNs })
    else .next s

/-! ## Supervision and takeover (14 R477 to R481) -/

/-- SYNC becomes synced (14 R485, R486). -/
def State.synced (s : State) : State := (s.setPair { s.pair with sync := 2, peerInh := false }).raise 364 0

/-- The areas that resynchronisation copies, in order (14 R484): mirrored regions ascending, then the directory entries,
areas and request rings of the enabled ports. -/
def State.copyAreas (s : State) : List (Nat × Nat) :=
  let regs := (List.range 8).filterMap (fun n =>
    if s.rb (Key.pairMreg n) 63 then some (s.rf (Key.pairMreg n) 47 16 * 2 ^ 16, s.rf (Key.pairMlim n) 47 16 * 2 ^ 16) else none)
  let ports := (List.range 8).filter (fun p => s.rb (Key.rlkCtl p) 63)
  let dirs := ports.map (fun p => let d := s.dirAddr (dirIndex p 1 0); (d, d + 32 * 32000))
  let areas := ports.map (fun p => (s.rf (Key.rlkIobase p) 47 14 * 2 ^ 14, (s.port p).alloc))
  let rings := ports.map (fun p => let b := s.rf (Key.rlkSrring p) 47 17 * 2 ^ 17; (b, b + 0x20000))
  regs.foldl (fun t (r : Nat × Nat) => tput t r.1 r.2) [] ++ dirs ++ areas ++ rings

/-- The address of the last word that resynchronisation copies (14 R484): the areas whose length a standby cannot know lie before it. -/
def State.lastCopy (s : State) : Option Nat :=
  ((s.copyAreas.filter (fun (r : Nat × Nat) => decide (r.1 < r.2))).getLast?).map (fun (r : Nat × Nat) => r.2 - 16)

/-- Every word has been copied, and the link has carried it (14 R485). -/
def State.copyDone (s : State) : Bool := decide (s.copyAreas.length ≤ s.pair.copyArea) && s.pair.sendQ.isEmpty

/-- HEARTBEAT (14 R468, R470, R477, R483 to R485): a standby resynchronises after isolation and after a solo or isolated period of its
primary; a primary is synced with its standby once every word is copied. -/
def execHeartbeat (role sync : BitVec 2) (epoch : BitVec 32) (now : W64) (_seq : Nat) (s : State) : Out :=
  if !s.pairOn then .next s
  else
    let s1 := if role = 1 then s.pairRx.adoptEpoch epoch else s.pairRx
    let r := s1.pair
    if r.role = 0 then .next (if role = 1 then s1.becomeStandby epoch false else s1)
    else if r.role = 3 then .next s1
    else if role = 1 && decide (r.epoch < epoch) then .next (s1.demote epoch)
    else if r.role = 2 && role = 1 then
      let s2 := if r.sync = 3 || (r.sync = 2 && (sync = 0 || sync = 3)) then s1.startSync else s1
      .next (if s2.tbLocked then s2.slewStart (now - BitVec.ofNat 64 s2.nowNs) else s2)
    else if r.role = 1 && role = 2 then
      .next (if r.sync = 0 || r.sync = 3 then s1.startSync else if r.sync = 1 && sync = 2 && s1.copyDone then s1.synced else s1)
    else .next s1

/-- PAIR_HEARTBEAT_SEND (14 R468, R478): not once the safe state is forced. -/
def execPairHeartbeatSend (s : State) : Out :=
  if s.pairOn && !s.cio.inhBdg then
    .next (s.pairSend (.heartbeat s.pair.role s.pair.sync s.pair.epoch s.nowNs s.pair.sendSeq))
  else .next s

/-- PAIR_LINK_UP (14 R467). -/
def execPairLinkUp (s : State) : Out := if s.pairOn then .next (s.setPair { s.pair with link := true }) else .next s

/-- PAIR_LINK_DOWN (14 R467). -/
def execPairLinkDown (s : State) : Out := .next (s.setPair { s.pair with link := false })

/-- PAIR_FRAME_CRC_ERROR (14 R468, R488). -/
def execPairFrameCrcError (s : State) : Out := .next ((s.count Key.pairCnt 31 0 1).raise 366 2)

/-- The TOKENs of the partner still arrive: one came within the last 150 µs (14 R479, R483). -/
def State.tokensArrive (s : State) : Bool := match s.pair.lastTok with | some t => decide (s.nowNs < t + 150000) | none => false

/-- PARTNER_SUSPECT (14 R478, R483, R485): 200 µs of silence; a frame at the same instant prevents it. -/
def execPartnerSuspect (s : State) : Out :=
  if !s.pairOn || s.pair.suspect || (s.pair.role != 1 && s.pair.role != 2) || decide (s.nowNs < s.pair.lastRx + 200000) then .next s
  else
    let s1 := (s.setPair { s.pair with suspect := true }).raise 361 (BitVec.ofNat 128 (s.pair.lastRx % 2 ^ 32))
    if s.pair.role = 1 then
      if s.pair.sync = 1 || s.pair.sync = 2 then .next (s1.loseSync (if s.tokensArrive then 3 else 0)) else .next s1
    else if s.pair.sync = 1 then .next (s1.raise 363 1)
    else .next s1

/-- The takeover of the standby (14 R480): every record received has been performed; the ports go to STATE 5 and the pair hold
ends. The new primary suspects its partner, so its SYNC becomes solo (R483, log 50). -/
def State.takeOver (s : State) (giveup : Bool) : State :=
  let r := s.pair
  let e := r.epoch + 1
  let s1 := s.setPair { r with peerInh := true, role := 1, epoch := e, seen := e }
  let on := (List.range 8).filter (fun p => s1.rb (Key.rlkCtl p) 63)
  let s2 := on.foldl (fun s p => s.sendToken p 0) s1
  let s3 := s2.raise 362 (BitVec.ofNat 128 (s.stamp + b2n giveup * 2 ^ 32))
  let s4 := on.foldl (fun s p => s.modPort p (fun x =>
    { x with st := 5, service := true, cls := x.cls.map (fun (c : Nat × RCls) => (c.1, { nextK := c.2.nextK, seq := c.2.seq })) })) s3
  ((s4.raise 360 (BitVec.ofNat 128 (1 + e.toNat * 2 ^ 32))).holdUpdate).loseSync 0

/-- LOSS_CONFIRM (14 R479, R480): suspected, and no TOKEN of the primary within the last 150 µs. -/
def execLossConfirm (s : State) : Out :=
  if s.pairOn && s.pair.role == 2 && s.pair.sync == 2 && s.pair.suspect && !s.tokensArrive then .next (s.takeOver false) else .next s

/-- GIVEUP (14 R479, R485): from the primary of a synced standby it confirms the loss at once; a syncing one has lost its primary. -/
def execGiveup (epoch : BitVec 32) (s : State) : Out :=
  if !s.pairOn then .next s
  else
    let s1 := s.pairRx
    let s2 := s1.setPair { s1.pair with seen := maxEpoch s1.pair.seen epoch }
    .next (if s2.pair.role = 2 && s2.pair.sync == 2 then s2.takeOver true
      else if s2.pair.role = 2 && s2.pair.sync == 1 then s2.raise 363 1 else s2)

/-- The safe state is forced: GIVEUP goes to the partner, the ports' EN goes to 0 and they stop sending (14 R478, 18 R586). -/
def State.pairSafe (s : State) : State :=
  let s1 := if s.pairOn then s.pairSend (.giveup s.pair.epoch) else s
  (List.range 8).foldl (fun s p => if s.rb (Key.rlkCtl p) 63 then (s.setRf (Key.rlkCtl p) 63 63 0).linkDown p 0 else s) s1

/-! ## The stream (14 R473 to R476, R484) -/

/-- A record of the stream is performed in order, once (14 R474). -/
def State.perform (s : State) (seq : Nat) (f : State → State) : State :=
  let s1 := s.pairRx
  if s1.pair.role = 2 && (s1.pair.sync = 1 || s1.pair.sync = 2) && decide (s1.pair.recvSeq < seq) then
    f (s1.setPair { s1.pair with recvSeq := seq })
  else s1

/-- MIRROR (14 R474): by the pair link, in the secure world (15 R490). -/
def execMirror (seq : Nat) (pa : Addr) (w : TWord) (s : State) : Out :=
  if s.pairOn then dmaCmd (fun s => .next (s.perform seq (fun s => s.dmaSet .pairLink (pa.toNat / 16 * 16) w))) s else .next s

/-- COPY (14 R484, R485): the primary resynchronises, so a standby that was synced does too; the last word ends the copying. -/
def execCopy (seq : Nat) (pa : Addr) (w : TWord) (s : State) : Out :=
  let a := pa.toNat / 16 * 16
  if s.pairOn then dmaCmd (fun s => .next (s.perform seq (fun s =>
    let s1 := if s.pair.sync = 2 then s.startSync else s
    let s2 := s1.dmaSet .pairLink a w
    if s2.lastCopy = some a then s2.setPair { s2.pair with copied := true } else s2))) s
  else .next s

/-- FRAMECOPY (14 R476): as if the port had received the frame at the primary's arrival time. -/
def execFramecopy (seq p : Nat) (f : RFrame) (arrival : W64) (s : State) : Out :=
  if 8 ≤ p then .fault .noSuchUnit
  else if s.pairOn then
    dmaCmd (fun s => .next (s.perform seq (fun s =>
      let now := s.cio.now
      let s1 := { s with cio := { s.cio with now := arrival.toNat * 2 ^ 32 } }.applyFrame p f
      { s1 with cio := { s1.cio with now := now } }))) s
  else .next s

/-- A standby that joins a running primary has the concentrators that the directory names, once it is copied (14 R476, R484, log 96). -/
def State.joinPort (s : State) (p : Nat) : State :=
  if (s.port p).st = 5 && s.pair.sync = 2 then s
  else
    let cs := ((List.range 250).map (· + 1)).filter (fun c => dSt (s.dir0 p c 0) != 0)
    let conc (c : Nat) : RConc :=
      let d := s.dir0 p c 0
      { serial := BitVec.ofNat 32 (bits d 31 0), enumed := true, rejected := dSt d == 3, uploaded := true, keep := true, absent := dSt d == 2 }
    s.modPort p (fun x => { x with st := 5, nconc := cs.getLastD x.nconc, concs := cs.foldl (fun t c => tput t c (conc c)) x.concs })

/-- A decision of the primary's port, made here (14 R476). -/
def State.applyDecision (s : State) (p : Nat) (d : PortDecision) : State :=
  match d with
  | .absent c e => s.nodeAbsent p c e
  | .cycleStart n q stamp => (s.joinPort p).cycleStart p n q stamp
  | .missed n c => s.rMiss p n c
  | .hold _ _ => (s.count (Key.rlkDrop p) 47 32 1).rFault p 4
  | .sraStatus st (some pa) =>
    let s1 := if st = 3 then s.count (Key.rlkSrstat p) 31 16 1 else s
    if st = 2 then s1.useOnce p pa.toNat (s1.rGet p pa.toNat) else s1
  | .sraStatus st none =>
    match (s.port p).srqs with
    | [] => s
    | q :: r => s.srqFinish p q r st.toNat (if st = 0 then s.answerWords p q.desc else [])
  | .discovered n => (s.modPort p (fun x => { x with nconc := n })).discEvent p 0
  | .found c serial rtd => s.concFound p c serial rtd
  | .silent c => s.rejectConc p c
  | .portState st =>
    if st = 2 then s.modPort p (fun x => { x with st := 2, nconc := 0, concs := [], dirq := none, cls := [], service := false })
    else if st = 4 then (s.discEvent p 1).modPort p (fun x =>
      { x with st := 4, concs := x.concs.map (fun (e : Nat × RConc) => (e.1, { e.2 with enumed := e.2.enumed || !e.2.rejected })) })
    else if st = 5 then s.uploadEnd p
    else if st.toNat ≤ 1 then s.modPort p (fun x => { x with st := st.toNat, disc := none, dirq := none, cls := [], service := false, srqs := [],
                                                             prevSrq := none })
    else s.modPort p (fun x => { x with st := st.toNat })

/-- PORTREC (14 R476). -/
def execPortrec (seq p : Nat) (d : PortDecision) (s : State) : Out :=
  if 8 ≤ p then .fault .noSuchUnit
  else if s.pairOn then dmaCmd (fun s => .next (s.perform seq (fun s => s.applyDecision p d))) s else .next s

/-- One word of resynchronisation is read, once its chunk is initialised (10 R353, R356), and its COPY accepted (14 R484). -/
def State.copyStep (s : State) : State :=
  let r := s.pair
  match s.copyAreas[r.copyArea]? with
  | none => s
  | some (lo, hi) =>
    let a := if r.copyAddr < lo then lo else r.copyAddr
    if hi ≤ a then s.setPair { r with copyArea := r.copyArea + 1, copyAddr := 0 }
    else if !(s.chunkReady a) then { s with dram := s.dram.promote a }
    else match s.dmaRead .pairLink a with
      | (none, s) => s.setPair { (r.push (.copy a TWord.fresh)) with copyAddr := a + 16 }
      | (some w, s) => s.setPair { (r.push (.copy a w)) with copyAddr := a + 16, copyWords := r.copyWords + 1 }

/-- The bytes that a frame of the pair link takes; R468 gives their contents and not their sizes (log 46). -/
def PairRec.bytes (r : PairRec) : Nat := 16 * r.units

/-- Whole frames of 32 bytes leave the line's bytes; answers how many frames went, and the bytes left. -/
def sendFrames (n : Nat) : List PairFrame → Nat × List PairFrame
  | [] => (n, [])
  | f :: q => if 32 ≤ n then sendFrames (n - 32) q else (n, f :: q)

/-- The records that n bytes of the line carry; answers those that wait and the bytes of the first of them that are on the line. -/
def sendBytes (n : Nat) : List PairRec → Nat × List PairRec
  | [] => (0, [])
  | r :: q => if r.bytes ≤ n then sendBytes (n - r.bytes) q else (n, r :: q)

/-- The link carries n bytes more: frames outside the stream first, then records (14 R467, R468). -/
def Pair.carry (p : Pair) (n : Nat) : Pair :=
  let (m, fs) := sendFrames (p.sent + n) p.ctlQ
  if fs.isEmpty then let (k, q) := sendBytes m p.sendQ; { p with ctlQ := [], sendQ := q, sent := k }
  else { p with ctlQ := fs, sent := m }

/-- An isolated primary that no longer receives its standby's TOKENs either is solo (14 R483). -/
def State.alone (s : State) : Bool := s.pair.role == 1 && s.pair.sync == 3 && s.pair.suspect && !s.tokensArrive

/-- What the pair link does in 40 ns: 250 bytes at 6.25 GB/s; while it synchronises, it promotes the mirrored regions' chunks, and then, on
the primary, copies words at 2 GB/s; an isolated primary whose standby is gone becomes solo (10 R356; 14 R467, R483, R484). -/
def State.pairTick (s : State) : State :=
  let s1 := if s.pair.link then s.setPair (s.pair.carry 250) else s
  if s1.alone then s1.loseSync 0
  else if s1.pair.sync != 1 then s1
  else
    match s1.regionsWait with
    | some a => { s1 with dram := s1.dram.promote a }
    | none =>
      if s1.pair.role = 1 && decide (s1.pair.used + 10 ≤ 512) then (List.range 5).foldl (fun s _ => s.copyStep) s1 else s1

/-- On a standby: the last COPY has been performed, or there is nothing to copy (14 R485). -/
def State.copiedHere (s : State) : Bool := s.pair.copied || s.lastCopy.isNone

/-- STANDBY_READY (14 R485): on the standby with SBREADY set and the last COPY performed, on the primary once every word is copied; the
mirrored regions are initialised by then (10 R356). -/
def execStandbyReady (s : State) : Out :=
  let r := s.pair
  if s.pairOn && r.sync == 1 && s.regionsWait.isNone && ((r.role == 2 && s.rb Key.pairCtl 60 && s.copiedHere) || (r.role == 1 && s.copyDone))
  then .next s.synced
  else .next s

/-- SEND_QUEUE_STALL (14 R488): the queue has been full for 10 µs. -/
def execSendQueueStall (s : State) : Out :=
  if s.pair.used + 2 ≤ 512 then .next s else .next (s.raise 366 1)

/-! ## Poison repair (14 R487) -/

/-- REPAIRQ: the word is read, and the answer with its data and tag goes to the pair link (14 R487). -/
def execRepairq (pa : Addr) (s : State) : Out :=
  let a := pa.toNat / 16 * 16
  if s.pairOn then dmaCmd (fun s =>
    match s.pairRx.dmaRead .pairLink a with
    | (some w, s1) => .next (s1.pairSend (.repaira a w))
    | (none, s1) => .next s1) s
  else .next s

/-- The end of a repair (14 R487, R488). -/
def State.repairEvent (s : State) (pa : Nat) (good : Bool) : State :=
  s.raise 365 (BitVec.ofNat 128 (pa / 16 * 16 + b2n good))

/-- REPAIRA (14 R487): the word is written unless the answer is POISON or the word has been written since. -/
def execRepaira (pa : Addr) (w : TWord) (s : State) : Out :=
  if !s.pairOn then .next s
  else
    let a := pa.toNat / 16 * 16
    let s1 := s.pairRx
    match s1.pair.repairs.find? (fun (e : Nat × Bool) => e.1 == a) with
    | none => .next (s1.count Key.pairLate 31 0 1)
    | some (_, written) =>
      let s2 := s1.setPair { s1.pair with repairs := s1.pair.repairs.filter (fun (e : Nat × Bool) => e.1 != a) }
      if w.tag != Tag.poison && !written then
        let s3 := s2.homeMerge a 0xFFFF#16 w.data w.tag
        .next ((s3.count Key.pairCnt 63 48 1).repairEvent a true)
      else .next ((s2.count Key.pairCnt 47 32 1).repairEvent a false)

/-- REPAIR_TIMEOUT (14 R487): a later answer is late. -/
def execRepairTimeout (pa : Addr) (s : State) : Out :=
  let a := pa.toNat / 16 * 16
  if s.pair.repairs.any (fun (e : Nat × Bool) => e.1 == a) then
    .next ((s.setPair { s.pair with repairs := s.pair.repairs.filter (fun (e : Nat × Bool) => e.1 != a) }).repairEvent a false)
  else .next s

/-! ## Registers (14 R472, R489) -/

/-- The mirrored regions keep their limits: DRAM, 1 GiB together (14 R472). -/
def State.mregOk (s : State) : Bool :=
  let rs := (List.range 8).filter (fun n => s.rb (Key.pairMreg n) 63)
  let size (n : Nat) : Nat := (s.rf (Key.pairMlim n) 47 16 - s.rf (Key.pairMreg n) 47 16) * 2 ^ 16
  decide ((rs.map size).sum ≤ 2 ^ 30) && rs.all (fun n => decide (size n = 0) || decide (s.rf (Key.pairMlim n) 47 16 * 2 ^ 16 ≤ s.dram.top))

/-- A write of a pair register whose effect is more than its table's. A PAIR_MREG or PAIR_MLIM write that breaks the limits of 14 R472 leaves
the whole register as it was, EN and BASE alike (DESIGN CHOICE, log 93). -/
def State.pairWrite (s : State) (k : Nat) (v : W64) : Option State :=
  if k = Key.pairCtl then some (s.writeReg k v).holdUpdate
  else if Key.pairMreg 0 ≤ k ∧ k < Key.pairMlim 8 then
    let s1 := s.writeReg k v
    some (if s.pair.sync = 1 || s.pair.sync = 2 || !s1.mregOk then s else s1)
  else none

/-- The records that the link has carried. -/
def Pair.records (r : Pair) : Nat := r.sendSeq + r.recvSeq

/-- A read of PAIR_MAXLAT starts a new row of records (14 R489). -/
def State.pairRead (s : State) (k : Nat) : State :=
  if k = Key.pairMaxlat then s.setPair { s.pair with latMark := s.pair.records } else s

/-- The live fields of a pair register; the longest time of the records since the last read is a free value, for the model gives the
link no times (14 R489, log 82). -/
def State.pairView (s : State) (k : Nat) : List (Nat × Nat × Nat) :=
  let r := s.pair
  if k = Key.pairStatus then
    [(63, 62, r.role), (61, 60, r.sync), (59, 59, b2n r.link), (58, 58, b2n r.suspect), (57, 57, b2n s.cio.pairHold),
     (56, 56, b2n r.peerInh), (49, 48, r.strap.toNat), (31, 0, r.epoch.toNat)]
  else if k = Key.pairPeer then [(63, 0, r.peer.toNat)]
  else if k = Key.pairMaxlat then [(31, 0, if r.records = r.latMark then 0 else (Config.pairLatency r.latMark r.records).toNat)]
  else if k = Key.pairSyncprog then [(31, 0, r.copyWords / 65536)]
  else []

end Sys2Proof.Machine
end

