-- ==== Sys2Proof/Machine/SysWords.lean ====
section
/-! DEFINITION. The system words (02 R63 to R77, R629; 06 R213, R229; 07 R235 to R242, R256; 08 R264 to R267, R292 to R296; 09 R329
to R332): who may reach each, what a read returns, and what a write does. -/

namespace Sys2Proof.Machine

/-! ## Which words there are and who may reach them (02 R65, R67) -/

/-- Minimum levels of a word, read and write (none: not in that direction), and whether it is a per-thread word. -/
structure WordInfo where
  rd : Option Nat
  wr : Option Nat
  thread : Bool
deriving DecidableEq, Repr

/-- The owner's level of the words that belong to the upper owner of a thread's world (07 R235, 08 R264). -/
def upperOwner (tsec : Bool) : Nat := if tsec then 3 else 2

/-- The defined system words (02 R67; 07 R235, R256; 08 R264, R292; 09 R329); none outside every defined range. -/
def wordInfo (n : Nat) (tsec : Bool) : Option WordInfo :=
  let u := upperOwner tsec
  if n = 0x000 ∨ n = 0x001 then some ⟨some 0, none, true⟩
  else if n = 0x002 ∨ n = 0x003 then some ⟨some 0, some 0, true⟩
  else if n = 0x004 then some ⟨some 1, some 3, true⟩
  else if 0x005 ≤ n ∧ n ≤ 0x009 then some ⟨some 1, some 1, true⟩
  else if n = 0x00A then some ⟨some 3, some 3, true⟩
  else if 0x010 ≤ n ∧ n ≤ 0x01F then some ⟨some 1, some 1, true⟩
  else if 0x020 ≤ n ∧ n ≤ 0x027 then some ⟨some 1, some 1, true⟩
  else if 0x028 ≤ n ∧ n ≤ 0x030 then some ⟨some u, some u, true⟩
  else if n = 0x040 then some ⟨some 1, some 1, true⟩
  else if n = 0x041 then some ⟨some u, some u, true⟩
  else if n = 0x042 then some ⟨some 2, some 2, true⟩
  else if n = 0x060 ∨ n = 0x062 then some ⟨some 1, some 1, true⟩
  else if n = 0x061 then some ⟨none, some 0, true⟩
  else if n = 0x063 then some ⟨some 1, none, true⟩
  else if n = 0x100 then some ⟨some 0, none, false⟩
  else if n = 0x101 then some ⟨some 1, some 2, false⟩
  else if n = 0x110 then some ⟨none, some 2, false⟩
  else if n = 0x111 then some ⟨some 1, some 2, false⟩
  else if n = 0x112 then some ⟨some 1, none, false⟩
  else if 0x140 ≤ n ∧ n ≤ 0x17F then some ⟨some 1, none, false⟩
  else if n = 0x180 ∨ n = 0x181 then some ⟨some 1, some 3, false⟩
  else if n = 0x182 then some ⟨some 1, none, false⟩
  else if n = 0x190 ∨ n = 0x191 ∨ n = 0x193 then some ⟨some 1, some 3, false⟩
  else if n = 0x192 then some ⟨some 1, some 2, false⟩
  else if n / 256 = 4 ∨ n / 256 = 8 ∨ n / 256 = 12 then some ⟨some 1, some 1, true⟩
  else none

/-- Words whose write to another thread requires it to be STOPPED: THCTL, THPC, the return stack and the Den window (02 R65). -/
def needsStopped (n : Nat) : Bool :=
  n == 2 || n == 5 || n == 7 || (0x10 ≤ n && n ≤ 0x1F) || n / 256 == 4 || n / 256 == 8 || n / 256 == 12

/-- Rules 1 to 5 of 02 R65 for a thread t at a level, number n and target tt (a global ID). -/
def sysAllowed (s : State) (t : Nat) (sec : Bool) (lvl : BitVec 2) (n tt : Nat) (write : Bool) : Bool :=
  match wordInfo n (s.thr tt).sec with
  | none => false
  | some w =>
    match (if write then w.wr else w.rd) with
    | none => false
    | some need =>
      lvlMeets sec lvl need &&
      (!w.thread || tt == t ||
        ((lvl == 3 || (lvl == 2 && !((s.thr tt).sec))) &&
         (!write || (let st := s.thState tt
                     st == 0 || (!(needsStopped n) && (st == 2 || st == 3)))))) &&
      !(write && n == 5 && tt == t)

/-! ## Reads -/

/-- The words of a trap bank (07 R235). -/
def TrapBank.word (b : TrapBank) (i : Nat) : W64 :=
  match i with
  | 0 => b.vec
  | 1 => b.pc
  | 2 => b.npc
  | 3 => b.stat
  | 4 => b.cause
  | 5 => b.addr
  | 6 => b.ipa
  | _ => b.tcw

/-- Slots that hold a LOAD result and are not LOST (08 R293). -/
def Core.lockCount (c : Core) : Nat := (c.locks.filter (fun e => e.2.v && !e.2.lost)).length

/-- A lock slot as its word reads (08 R296). -/
def LockSlot.word (l : LockSlot) : W64 :=
  BitVec.ofNat 64 (b2n l.v * 2 ^ 63 + b2n l.lost * 2 ^ 62 + l.size * 2 ^ 60 + l.thread * 2 ^ 56 + b2n l.upper * 2 ^ 55 + l.va.toNat)

/-- The value of system word n for target tt, as thread t reads it at PC pc (02 R65, R68 to R75; 06; 07; 08; 09). -/
def sysValue (s : State) (t : Nat) (pc : Addr) (n tt : Nat) : W64 :=
  let th := s.thr tt
  let c := s.core (t / 16)
  let k := s.cluster (t / 64)
  if n = 0x000 then BitVec.ofNat 64 tt
  else if n = 0x001 then
    BitVec.ofNat 64 (b2n th.sec * 2 ^ 12 + th.lvl.toNat * 2 ^ 8 + (if tt = t then 1 else s.thState tt))
  else if n = 0x002 then th.ctl.setWidth 64
  else if n = 0x003 then th.flags.setWidth 64
  else if n = 0x004 then BitVec.ofNat 64 (b2n th.sec)
  else if n = 0x005 then (if tt = t then pc.setWidth 64 else th.resumePc.setWidth 64)
  else if n = 0x006 then th.tcw
  else if n = 0x007 then BitVec.ofNat 64 (th.rsDepth.toNat * 16 + th.rsPtr.toNat)
  else if n = 0x008 then th.cbase
  else if n = 0x009 then th.lattol
  else if n = 0x00A then th.hwin
  else if 0x010 ≤ n ∧ n ≤ 0x01F then (tget 0 th.rs (n - 0x10)).setWidth 64
  else if 0x020 ≤ n ∧ n ≤ 0x027 then th.bankS.word (n - 0x20)
  else if 0x028 ≤ n ∧ n ≤ 0x02F then th.bankU.word (n - 0x28)
  else if n = 0x030 then th.troute
  else if n = 0x040 then th.xs1
  else if n = 0x041 then th.xs1h
  else if n = 0x042 then th.xs2
  else if n = 0x060 then th.wdctl
  else if n = 0x062 then BitVec.ofNat 64 (b2n th.wdExp)
  else if n = 0x063 then BitVec.ofNat 64 th.wdLate
  else if n = 0x100 then BitVec.ofNat 64 (t / 16 * 16)
  else if n = 0x101 then c.corectl
  else if n = 0x111 then c.tlblkaddr
  else if n = 0x112 then setBits c.tlblkstat 6 0 c.lockCount
  else if 0x140 ≤ n ∧ n ≤ 0x17F then (match tfind c.locks (n - 0x140) with | some l => l.word | none => 0)
  else if n = 0x180 then c.l1ctl
  else if n = 0x181 then c.l1dpart
  else if n = 0x182 then c.l1err
  else if n = 0x190 then k.l2ctl
  else if n = 0x191 then k.l2part
  else if n = 0x192 then k.l2lock
  else if n = 0x193 then k.l2lkstat
  else
    let w := th.denWord (n % 256)
    if n / 256 = 4 then w.data.setWidth 64
    else if n / 256 = 8 then (w.data >>> 64).setWidth 64
    else if n / 256 = 12 then w.tag.setWidth 64
    else 0

/-- What a read clears (access RC: 07 R256, 09 R331, R332), whichever half of the word a Compact SYSRD returns (log 71). -/
def State.sysClear (s : State) (t n tt : Nat) : State :=
  if n = 0x063 then s.modThr tt (fun th => { th with wdLate := 0 })
  else if n = 0x182 then s.modCore (t / 16) (fun c => { c with l1err := 0 })
  else if n = 0x193 then s.modCluster (t / 64) (fun k => { k with l2lkstat := setBits k.l2lkstat 31 16 0 })
  else s

/-! ## Writes -/

/-- The fields of a TCW word; a reserved OPC keeps the old one (06 R229). -/
def tcwFields (old v : W64) : W64 :=
  let o := bits v 57 48
  let opc := if o = 0 ∨ o = 0x148 ∨ o = 0x149 ∨ o = 0x14A then o else bits old 57 48
  BitVec.ofNat 64 (b2n (bit v 63) * 2 ^ 63 + opc * 2 ^ 48 + bits v 47 0)

/-- A write of a bank word (07 R238 to R242): with DS = 0 the pending instruction is 0 (log 77). -/
def TrapBank.put (b : TrapBank) (i : Nat) (v : W64) : TrapBank :=
  match i with
  | 0 => { b with vec := v &&& 0x0000FFFFFFFFFF01 }
  | 1 => { b with pc := v &&& 0x0000FFFFFFFFFFFF }
  | 2 => { b with npc := if v.msb then v &&& 0x8000FFFFFFFFFFFF else 0, slot := none }
  | 3 => { b with stat := v &&& 0x0000000300FF031F }
  | 4 => { b with cause := v &&& 0xFFFF03FF0003FFFF }
  | 5 => { b with addr := v &&& 0x0000FFFFFFFFFFFF }
  | 6 => { b with ipa := v &&& 0x0000FFFFFFFFFFFF }
  | _ => { b with tcw := tcwFields b.tcw v }

/-- The values that the next instruction still runs under, kept at an own write (02 R74, 08 R267). -/
def Thread.keepOld (th : Thread) (own : Bool) : Thread :=
  if own then { th with old := some { ctl := th.ctl, xs1 := th.xs1, xs1h := th.xs1h, xs2 := th.xs2 } } else th

/-- Writes to per-thread words that are fields alone (02 R75, R76, R169, R170, R629; 06 R229; 07 R235 to R242, R256; 08 R265,
R266). -/
def Thread.putWord (th : Thread) (own : Bool) (n : Nat) (v : W64) : Thread :=
  if n = 0x003 then { th with flags := v.setWidth 5 }
  else if n = 0x005 then { th with pc := v.setWidth 48 }
  else if n = 0x006 then { th with tcw := tcwFields th.tcw v }
  else if n = 0x007 then { th with rsPtr := v.setWidth 4, rsDepth := if bits v 8 4 ≤ 16 then BitVec.ofNat 5 (bits v 8 4) else th.rsDepth }
  else if n = 0x008 then { th with cbase := v &&& 0x0000FFFFFFFFC000 }
  else if n = 0x009 then { th with lattol := v &&& 0xFFFFFFFF }
  else if 0x010 ≤ n ∧ n ≤ 0x01F then { th with rs := tset 0 th.rs (n - 0x10) (v.setWidth 48) }
  else if 0x020 ≤ n ∧ n ≤ 0x027 then { th with bankS := th.bankS.put (n - 0x20) v }
  else if 0x028 ≤ n ∧ n ≤ 0x02F then { th with bankU := th.bankU.put (n - 0x28) v }
  else if n = 0x030 then { th with troute := v &&& 0xFF }
  else if n = 0x040 then { th.keepOld own with xs1 := v &&& 0xFFFFFFFFFFFFFF01 }
  else if n = 0x041 then { th.keepOld own with xs1h := v &&& 0xFFFFFFFFFFFFFF01 }
  else if n = 0x042 then
    if bit v 0 && bits v 63 48 == 0 then th else { th.keepOld own with xs2 := v &&& 0xFFFFFFFFFFFFFF01 }
  else if n = 0x060 then
    let p := bits v 31 0
    let period := if 1000 ≤ p ∧ p ≤ 1000000 then p else bits th.wdctl 31 0
    { th with wdctl := BitVec.ofNat 64 (bits v 63 60 * 2 ^ 60 + period), wdCount := if bit v 63 then 0 else th.wdCount,
              wdDone := th.wdDone && !(bit v 63) }
  else if n = 0x061 then { th with wdCount := 0, wdDone := false, wdLate := if th.wdExp then satAdd 0xFFFFFFFF th.wdLate 1 else th.wdLate }
  else if n = 0x062 then { th with wdExp := th.wdExp && !(bit v 0) }
  else th

/-- A write of THHWIN: LEN above 32 keeps LEN; a window beyond D255 keeps the word (02 R75, R76). -/
def hwinValue (old v : W64) : W64 :=
  let len := if bits v 13 8 ≤ 32 then bits v 13 8 else bits old 13 8
  if 256 < bits v 7 0 + bits v 13 8 then old else BitVec.ofNat 64 (len * 256 + bits v 7 0)

/-- The core tolerance in ns (17 R570). -/
def State.coreTol (s : State) (c : Nat) : Nat :=
  let base := s.rf (Key.pwrCtol (c / 4)) 31 0
  let capped := if bits (s.core c).corectl 31 16 = 0 then base else min base (s.rf Key.thmRtmin 31 0)
  ((List.range 16).map (16 * c + ·)).foldl (fun m t =>
    if (s.thr t).st == .stopped then m else min m (bits (s.thr t).lattol 31 0)) capped

/-- A core goes to the deepest state that its tolerance permits, when it is in a deeper one (02 R77, 17 R573). -/
def State.capPower (s : State) (c : Nat) : State :=
  let tol := s.coreTol c
  s.modCore c (fun x =>
    let p1 := if x.pwr == .c2 && decide (tol < 2000) then CorePwr.c1 else x.pwr
    { x with pwr := if p1 == .c1 && decide (tol < 50) then .c0 else p1 })

/-- Secure threads of a core (02 R40). -/
def State.secureCount (s : State) (c : Nat) : Nat := ((List.range 16).filter (fun i => (s.thr (16 * c + i)).sec)).length

/-- A THWORLD write that changes the world: Den, return stack, flags and TCW cleared, THCTL at its reset value; a level that the new
world does not have becomes user (02 R30, R41; log 41). -/
def Thread.changeWorld (th : Thread) (sec : Bool) : Thread :=
  { th with sec := sec, den := [], rs := [], rsPtr := 0, rsDepth := 0, flags := 0, tcw := 0, ctl := 0x06,
            lvl := if th.lvl = (if sec then 2 else 3) then 0 else th.lvl }

/-- THWORLD (02 R39 to R41, 15 R499); none for a system-access fault. -/
def State.writeThworld (s : State) (tt : Nat) (v : W64) : Option State :=
  let th := s.thr tt
  let sec := bit v 0
  if s.thState tt != 0 then none
  else if sec && !th.sec && decide (fuseLimit s.keyw.secthr 4 < s.secureCount (tt / 16) + 1) then none
  else
    let s1 := if sec == th.sec then s else s.setThr tt (th.changeWorld sec)
    some (s1.failWhere (fun r => r.svc == tt))

/-- THCTL (02 R71 to R74); none for a system-access fault. -/
def Thread.writeThctl (th : Thread) (own user : Bool) (v : W64) : Option Thread :=
  if own && user then some { th.keepOld true with ctl := setBits th.ctl 7 5 (bits v 7 5) }
  else if own && bit v 0 != bit th.ctl 0 then none
  else some { th.keepOld own with ctl := v.setWidth 8 }

/-- CORECTL: a hypervisor leaves the RTM bits of secure threads (06 R213, R214). -/
def State.writeCorectl (s : State) (c : Nat) (monitor : Bool) (v : W64) : State :=
  let secMask := (List.range 16).foldl (fun m i => if (s.thr (16 * c + i)).sec then m + 2 ^ i else m) 0
  let old := bits (s.core c).corectl 31 16
  let rtm := if monitor then bits v 31 16 else (bits v 31 16 &&& (0xFFFF - secMask)) ||| (old &&& secMask)
  s.modCore c (fun x => { x with corectl := BitVec.ofNat 64 (rtm * 2 ^ 16 + bits v 0 0) })

/-! ## TLB locking (08 R292 to R295) -/

/-- The walk of a LOAD, to its end; it waits for a line that its L2 does not hold yet (08 R274, R294). -/
def loadWalk (c : Nat) : Nat → Walk → State → Res WalkOut
  | 0, w, s => .ok (.more w) s
  | n + 1, w, s => if !(s.walkReady c w) then .wait s else (walkStep c w s).bind fun o s => match o with
    | .more w => loadWalk c n w s
    | .found e => .ok (.found e) s

/-- A LOAD's result in TLBLKSTAT (08 R293). -/
def State.loadResult (s : State) (c result code stage : Nat) : State :=
  s.modCore c (fun x => { x with tlblkstat := BitVec.ofNat 64 (stage * 2 ^ 24 + code * 2 ^ 16 + result * 2 ^ 8) })

/-- Permission of a LOAD's access (08 R277, R294): 0 read, 1 write, 2 execute. -/
def loadPerm (user : Bool) (acc : Nat) (e : TlbEntry) : Option Nat :=
  if acc = 2 then (if !(perm1Ok user e 2) then some 1 else if !(perm2Ok e 2) then some 2 else none)
  else (permCheck user (acc == 0) (acc == 1) 0 false 0 (some e)).map (·.stage)

/-- The entry of a LOAD becomes a locked entry of the L2 TLB (08 R294). -/
def Core.lockEntry (k : Core) (slot thread : Nat) (upper : Bool) (e : TlbEntry) : Core :=
  let rest := k.l2tlb.filter (fun f => !(f.same e) || f.lock.isSome)
  let full := decide (8 ≤ (rest.filter (fun f => f.set == e.set)).length)
  let rest := if full then dropLast (fun f => f.set == e.set && f.lock.isNone) rest else rest
  { k with l2tlb := { e with lock := some slot } :: rest,
           locks := tput k.locks slot { v := true, lost := false, size := e.size, thread := thread, upper := upper, va := alignTo e.va 14 } }

/-- LOAD by thread t (08 R294); of several failures a slot in use is reported first, then flat, the walk, the set (DESIGN CHOICE, log 92); where a table word cannot be read yet its walk waits, to the deadline of entry 2 (R274). -/
def State.tlblkLoad (s : State) (t c : Nat) (v : W64) : Res Unit :=
  let slot := bits v 7 2
  let th := s.thr (16 * c + bits v 11 8)
  let upper := bit v 12
  let acc := bits v 14 13
  let x := mkXCtx th.sec (if upper then (if th.sec then 3 else 2) else 0) th.xs1 th.xs1h th.xs2
  let va : Addr := BitVec.ofNat 48 (bits (s.core c).tlblkaddr 47 14 * 2 ^ 14)
  let w : Walk := { tid := 16 * c + bits v 11 8, fetch := acc == 2, opnd := 0, half := false, wr := acc == 1, va := va, x := x, lvl1 := 0,
                    tab1 := 0, pa1 := none, s2 := none, done1 := none, install := true }
  if (match tfind (s.core c).locks slot with | some l => l.v && !l.lost | none => false) then .ok () (s.loadResult c 3 0 0)
  else if !x.en1 && !x.en2 then .ok () (s.loadResult c 4 0 0)
  else if (s.thr t).late == some meshExn then .ok () (s.loadResult c 1 0x0D 0)
  else
    let r := (walkStart c w s).bind fun o s => match o with
      | .more w => loadWalk c 64 w s
      | .found e => .ok (.found e) s
    match r with
    | .wait s => .wait (s.stallOn t meshExn .load)
    | .trap e s => .ok () (s.loadResult c 1 e.code e.stage)
    | .ok (.more _) s => .wait s
    | .ok (.found e) s =>
      match loadPerm x.user acc e with
      | some stage => .ok () (s.loadResult c 1 0x07 stage)
      | none =>
        match (if acc = 1 then dirtyPage t (some e) s else (true, s)) with
        | (false, s) => .wait s
        | (true, s) =>
          let e := if acc = 1 then { e with df1 := true, df2 := true } else e
          if 2 ≤ ((s.core c).l2tlb.filter (fun f => f.set == e.set && f.lock.isSome)).length then .ok () (s.loadResult c 2 0 0)
          else .ok () ((s.modCore c (fun k => k.lockEntry slot (bits v 11 8) upper e)).loadResult c 0 0 0)

/-- UNLOCK of some slots: their entries become ordinary ones (08 R295). -/
def Core.unlockSlots (k : Core) (p : Nat → Bool) : Core :=
  { k with l2tlb := k.l2tlb.map (fun e => match e.lock with | some n => if p n then { e with lock := none } else e | none => e),
           locks := k.locks.map (fun l => if p l.1 then (l.1, { l.2 with v := false }) else l),
           tlblkstat := setBits k.tlblkstat 10 8 0 }

/-- A hypervisor may name neither a secure thread nor a slot filled for one (08 R292). -/
def State.tlblkDenied (s : State) (c : Nat) (monitor : Bool) (v : W64) : Bool :=
  let secSlot (l : Nat × LockSlot) : Bool := l.2.v && (s.thr (16 * c + l.2.thread)).sec
  !monitor &&
  (match bits v 1 0 with
   | 1 => (s.thr (16 * c + bits v 11 8)).sec || (s.core c).locks.any (fun l => l.1 == bits v 7 2 && secSlot l)
   | 2 => (s.core c).locks.any (fun l => l.1 == bits v 7 2 && secSlot l)
   | 3 => (s.core c).locks.any secSlot
   | _ => false)

/-- TLBLKCMD; a reserved ACC leaves a LOAD without a command (08 R293 to R295; 00 R5). -/
def State.writeTlblkcmd (s : State) (t c : Nat) (v : W64) : Res Unit :=
  match bits v 1 0 with
  | 1 => if bits v 14 13 = 3 then .ok () s else s.tlblkLoad t c v
  | 2 => .ok () (s.modCore c (fun k => k.unlockSlots (fun n => n == bits v 7 2)))
  | 3 => .ok () (s.modCore c (fun k => k.unlockSlots (fun _ => true)))
  | _ => .ok () s

/-! ## One write (02 R65 to R77) -/

/-- The Den windows: a half, or the tag under R60 (02 R68). -/
def denWindow (sec : Bool) (lvl : BitVec 2) (n : Nat) (v : W64) (w : TWord) : Except Nat TWord :=
  if n / 256 = 4 then .ok { w with data := setBits w.data 63 0 v.toNat }
  else if n / 256 = 8 then .ok { w with data := setBits w.data 127 64 v.toNat }
  else
    let tag : Tag := v.setWidth 4
    if tag.reserved then .error 0x01 else if tagDenied sec lvl tag then .error 0x02 else .ok { w with tag := tag }

/-- What a permitted SYSWR of v to word n of thread tt does; t issues it at its level. Faults are raised with the operand
numbers given. -/
def sysWrite (t : Nat) (sec : Bool) (lvl : BitVec 2) (n tt : Nat) (v : W64) (opSel opVal : Nat) (s : State) : Res Unit :=
  let own := tt == t
  let c := t / 16
  let k := t / 64
  let deny : Res Unit := .trap { code := 0x1A, step := 7, opnd := opSel } s
  if n = 0x002 then
    match (s.thr tt).writeThctl own (lvl == 0) v with
    | some th => .ok () (s.setThr tt th)
    | none => deny
  else if n = 0x004 then
    match s.writeThworld tt v with
    | some s => .ok () s
    | none => deny
  else if n = 0x00A then
    .ok () ((s.modThr tt (fun th => { th with hwin := hwinValue th.hwin v })).failWhere (fun r => r.svc == tt))
  else if n = 0x042 ∧ (s.thr tt).sec then deny
  else if n = 0x101 then .ok () (s.writeCorectl c (lvl == 3) v)
  else if n = 0x110 then (if s.tlblkDenied c (lvl == 3) v then deny else s.writeTlblkcmd t c v)
  else if n = 0x111 then .ok () (s.modCore c (fun x => { x with tlblkaddr := v &&& 0x0000FFFFFFFFC000 }))
  else if n = 0x180 then .ok () (s.writeL1ctl c v)
  else if n = 0x181 then
    if fuseLimit s.keyw.l1dsec 4 < popCount (BitVec.ofNat 8 (bits v 7 0)) then deny else .ok () (s.writeL1dpart c v)
  else if n = 0x190 then .ok () (s.writeL2ctl k v)
  else if n = 0x191 then
    if fuseLimit s.keyw.l2sec 8 < popCount (BitVec.ofNat 16 (bits v 15 0)) then deny else .ok () (s.writeL2part k v)
  else if n = 0x192 then .ok () (s.writeL2lock k (lvl == 3) v)
  else if n = 0x193 then .ok () (s.modCluster k (fun x => { x with l2lkstat := if bit v 0 then setBits x.l2lkstat 0 0 0 else x.l2lkstat }))
  else if 0x400 ≤ n then
    match denWindow sec lvl n v ((s.thr tt).denWord (n % 256)) with
    | .ok w => .ok () (s.modThr tt (fun th => th.setDen (n % 256) w))
    | .error e => .trap { code := e, step := 7, opnd := opVal } s
  else .ok () (s.modThr tt (fun th => th.putWord own n v))

end Sys2Proof.Machine
end

