-- ==== Sys2Proof/Machine/SystemGroup.lean ====
section
/-! DEFINITION. The system instructions (05 R157, R192 to R201; 07 R244 to R247): system words, TLB invalidation, starting and
stopping threads, calls, the return from a trap, and HREPLY. -/

namespace Sys2Proof.Machine

/-! ## SYSRD and SYSWR (02 R64, R65, R68; 05 R198, R201) -/

/-- The target thread and the number of a selector (05 R198). -/
def selNum (v : Nat) : Nat := v % 4096
def selThread (t v : Nat) : Nat := t / 16 * 16 + v / 4096 % 16

/-- The selector and half of a Compact SYSRD or SYSWR: the extension is required (05 R201). -/
def compactSysFields (c : CEnc) : Option Nat :=
  if !c.x || c.s != 0 || c.sg || c.sz != 0 || bits c.ext 31 17 != 0 then some 0 else none

/-- Rules 1 to 5 of 02 R65, on a selector value. -/
def sysCheck (x : Ctx) (v opnd : Nat) (write : Bool) (s : State) : Res Unit :=
  if v / 65536 = 0 && sysAllowed s x.t x.sec x.lvl (selNum v) (selThread x.t v) write then .ok () s
  else .trap { code := 0x1A, step := 7, opnd := opnd } s

/-- SYSRD (02 R64, R65, R68; 05 R198, R201). -/
def execSysrd (t : Nat) (i : Ins) (s : State) : Out :=
  bothModes t i { group := 0xA, forms := [(2, [.dst, .src])] } compactSysFields (fun _ _ => none)
    (fun i x s =>
      match i with
      | .full _ =>
        (resolve x 1 1 .dst s).bind fun d s => (resolve x 2 1 .src s).bind fun pl s =>
          (obtainDest x 1 d s).bind fun _ s => (takeSource x 2 accInt pl s).bind fun w s =>
            let v := bits w.data 63 0
            (sysCheck x v 2 false s).bind fun _ s =>
              let r := sysValue s x.t x.pc (selNum v) (selThread x.t v)
              (commit x (some d) [pl] { res := some (r.setWidth 128, 0xFFFF, Tag.int), fl := {} } s).bind fun b s =>
                .ok b (s.sysClear x.t (selNum v) (selThread x.t v))
      | .compact c =>
        let v := bits c.ext 15 0
        (sysCheck x v 2 false s).bind fun _ s =>
          let r := sysValue s x.t x.pc (selNum v) (selThread x.t v)
          .ok true ((s.compactWrite x.t c.d.toNat (if bit c.ext 16 then bits r 63 32 else bits r 31 0)).sysClear x.t (selNum v)
            (selThread x.t v))) s

/-- What a half-write leaves in the half it does not name: the word's value, nothing where a 1 would clear (05 R201). -/
def sysOther (s : State) (t : Nat) (pc : Addr) (n tt : Nat) : W64 :=
  if n = 0x062 ∨ n = 0x193 then 0 else sysValue s t pc n tt

/-- A SYSWR restricted to the words and values of p: another SYSWR is not the command (log 42). In the Compact form the selector is
operand 1, as in full mode, and D operand 2 (DESIGN CHOICE, log 36). -/
def syswrOf (p : Nat → W64 → Bool) (t : Nat) (i : Ins) (s : State) : Out :=
  bothModes t i { group := 0xA, forms := [(2, [.src, .src])] } compactSysFields (fun _ _ => none)
    (fun i x s =>
      match i with
      | .full _ =>
        (resolve x 1 1 .src s).bind fun p1 s => (resolve x 2 1 .src s).bind fun p2 s =>
          (takeSource x 1 accInt p1 s).bind fun w1 s => (takeSource x 2 accInt p2 s).bind fun w2 s =>
            let v := bits w1.data 63 0
            let val : W64 := w2.data.setWidth 64
            if !(p (selNum v) val) then .wait s
            else
              (sysCheck x v 1 true s).bind fun _ s =>
                (sysWrite x.t x.sec x.lvl (selNum v) (selThread x.t v) val 1 2 s).bind fun _ s =>
                  .ok true (s.takeWords x none [p1, p2])
      | .compact c =>
        let v := bits c.ext 15 0
        (compactDen x c.d.toNat 6 2 s).bind fun d s =>
          let old := sysOther s x.t x.pc (selNum v) (selThread x.t v)
          let val := if bit c.ext 16 then setBits old 63 32 d else setBits old 31 0 d
          if !(p (selNum v) val) then .wait s
          else
            (sysCheck x v 1 true s).bind fun _ s =>
              (sysWrite x.t x.sec x.lvl (selNum v) (selThread x.t v) val 1 2 s).bind fun _ s => .ok true s) s

/-- SYSWR of any word (02 R64, R65; 05 R198, R201). -/
def execSyswr (t : Nat) (i : Ins) (s : State) : Out := syswrOf (fun _ _ => true) t i s

/-- THWORLD_WRITE (02 R39 to R41). -/
def execThworldWrite (t : Nat) (i : Ins) (s : State) : Out := syswrOf (fun n _ => n == 0x004) t i s

/-- THCTL_WRITE (02 R71 to R74). -/
def execThctlWrite (t : Nat) (i : Ins) (s : State) : Out := syswrOf (fun n _ => n == 0x002) t i s

/-- THLATTOL_WRITE: the issuing core is awake, which every tolerance permits (02 R77). -/
def execThlattolWrite (t : Nat) (i : Ins) (s : State) : Out := syswrOf (fun n _ => n == 0x009) t i s

/-- CORECTL_WRITE (06 R213, R214). -/
def execCorectlWrite (t : Nat) (i : Ins) (s : State) : Out := syswrOf (fun n _ => n == 0x101) t i s

/-- WATCHDOG_KICK (07 R256, R257). -/
def execWatchdogKick (t : Nat) (i : Ins) (s : State) : Out := syswrOf (fun n _ => n == 0x061) t i s

/-- WDCTL_WRITE (07 R256, R257). -/
def execWdctlWrite (t : Nat) (i : Ins) (s : State) : Out := syswrOf (fun n _ => n == 0x060) t i s

/-- TLBLK_LOAD (08 R293, R294). -/
def execTlblkLoad (t : Nat) (i : Ins) (s : State) : Out := syswrOf (fun n v => n == 0x110 && bits v 1 0 == 1) t i s

/-- TLBLK_UNLOCK (08 R293, R295). -/
def execTlblkUnlock (t : Nat) (i : Ins) (s : State) : Out := syswrOf (fun n v => n == 0x110 && bits v 1 0 == 2) t i s

/-- TLBLK_UNLOCK_ALL (08 R293, R295). -/
def execTlblkUnlockAll (t : Nat) (i : Ins) (s : State) : Out := syswrOf (fun n v => n == 0x110 && bits v 1 0 == 3) t i s

/-- L2LOCK_WRITE (09 R320). -/
def execL2lockWrite (t : Nat) (i : Ins) (s : State) : Out := syswrOf (fun n _ => n == 0x192) t i s

/-! ## TLBI and SYNC.T (05 R194 to R197; 08 R289 to R291) -/

/-- The regimes of a TLBI: world and the two classes of level (05 R195, 08 R290). -/
def TlbiMsg.world (m : TlbiMsg) : Bool := if m.lvl = 3 then bit m.ctl 6 else m.sec
def TlbiMsg.regime (m : TlbiMsg) (sec upper : Bool) : Bool := sec == m.world && (decide (2 ≤ m.lvl.toNat) || !upper)

/-- The scope: a normal supervisor's 2 and 3 both are every stage-1 entry of its VMID (05 R195). -/
def TlbiMsg.scope (m : TlbiMsg) : Nat := if m.lvl = 1 && !m.sec && bits m.ctl 1 0 = 3 then 2 else bits m.ctl 1 0

/-- An entry that a TLBI removes (08 R290). -/
def TlbiMsg.matchTlb (m : TlbiMsg) (e : TlbEntry) : Bool :=
  let st := bits m.ctl 3 2
  let v := e.vmid == m.vmid
  let inPage := alignTo m.page (sizeBits e.size) == e.va
  m.regime e.sec e.upper &&
  ((st % 2 == 1 && !e.stage2Only &&
     (match m.scope with
      | 0 => v && inPage && (e.global || e.asid == m.asid)
      | 1 => v && e.asid == m.asid && !e.global
      | 2 => v
      | _ => true)) ||
   (decide (2 ≤ st) &&
     (match m.scope with
      | 0 => v && ((e.stage2Only && inPage) || (!e.stage2Only && e.has2))
      | 1 => false
      | 2 => v && (e.stage2Only || e.has2)
      | _ => e.stage2Only || e.has2)))

/-- A walk-cache entry that a TLBI with W removes (08 R290). -/
def TlbiMsg.matchWalk (m : TlbiMsg) (e : WalkEntry) : Bool :=
  let st := bits m.ctl 3 2
  let named := if e.stage2 then decide (2 ≤ st) else st % 2 == 1
  let v := e.vmid == m.vmid
  let inRange := alignTo m.page (if e.lvl = 0 then 44 else leafBits e.lvl) == e.va
  bit m.ctl 5 && m.regime e.sec e.upper && named &&
  (match m.scope with
   | 0 => v && inRange && (e.stage2 || e.asid == m.asid)
   | 1 => v && !e.stage2 && e.asid == m.asid
   | 2 => v
   | _ => true)

/-- A walk in progress that a TLBI meets (08 R291): one of its regime and, but for SCOPE 3, of its VMID. -/
def TlbiMsg.meets (m : TlbiMsg) (w : Walk) : Bool := m.regime w.x.sec w.x.upper && (m.scope == 3 || w.x.vmid == m.vmid)

/-- The invalidation on one core: entries go, locked ones are LOST, walks it meets install nothing (08 R290, R291, R295). -/
def Core.tlbi (k : Core) (m : TlbiMsg) : Core :=
  let gone := k.l2tlb.filter m.matchTlb
  { k with
    itlb := k.itlb.filter (fun e => !(m.matchTlb e)), dtlb := k.dtlb.filter (fun e => !(m.matchTlb e)),
    l2tlb := k.l2tlb.filter (fun e => !(m.matchTlb e)), wcache := k.wcache.filter (fun e => !(m.matchWalk e)),
    locks := k.locks.map (fun l => if gone.any (fun e => e.lock == some l.1) then (l.1, { l.2 with lost := true }) else l),
    walks := k.walks.map (fun w => if m.meets w then { w with install := false } else w) }

/-- Operand 1 and the control of a TLBI as a message (05 R194, R195). -/
def tlbiMsg (x : Ctx) (w : Data) (ctl : BitVec 16) : TlbiMsg :=
  { tid := x.t, sec := x.sec, lvl := x.lvl, vmid := if x.lvl = 1 && !x.sec then x.x.vmid else BitVec.ofNat 16 (bits w 111 96),
    asid := BitVec.ofNat 16 (bits w 79 64), page := BitVec.ofNat 48 (bits w 47 14 * 2 ^ 14), ctl := ctl, cores := [] }

/-- An access that used the entry awaits a TLBI's completion: one of its regime and, but for SCOPE 3, of its VMID (08 R291). -/
def TlbiMsg.used (m : TlbiMsg) (e : TlbEntry) : Bool := m.regime e.sec e.upper && (m.scope == 3 || e.vmid == m.vmid)

/-- A TLBI cannot complete on a core yet: a walk that it met goes on, or an access is not performed that used a removed entry: a result
kept for one access, a read that waits for its answer, a store that awaits its drain (05 R196; 08 R291). -/
def State.tlbiBusy (s : State) (m : TlbiMsg) (c : Nat) : Bool :=
  let k := s.core c
  k.walks.any m.meets ||
  k.sb.any (fun e => match e.tr with | some r => m.matchTlb r | none => false) ||
  (List.range 16).any (fun i =>
    let th := s.thr (16 * c + i)
    16 * c + i != m.tid &&
    (th.xlat.any m.used || th.codeXlat.any m.used || (match th.extReq.bind (·.tr) with | some r => m.matchTlb r | none => false)))

/-- The other cores that a global TLBI is carried to: those whose cluster is on, but a core in C2, which has nothing to remove and
completes at once (05 R196, R197; 08 R287). -/
def State.otherCores (s : State) (c : Nat) : List Nat :=
  (List.range 48).filter (fun i => i != c && s.clusterOn (i / 4) && (s.core i).pwr != .c2)

/-- TLBI (05 R157, R194 to R196). -/
def execTlbi (t : Nat) (e : Enc) (s : State) : Out :=
  let lv := (s.thr t).lvl
  let ctl (e : Enc) : BitVec 16 := e.x2.setWidth 16
  fullInstr t e
    { group := 0xA, forms := [(2, [.src, .src])], modes := fun k => if k = 2 then some [6] else none,
      illegal := fun e => if bits (ctl e) 15 7 != 0 || bits (ctl e) 3 2 == 0 || (bit (ctl e) 6 && lv != 3) then some 2 else none,
      denied := fun sec lvl _ e =>
        if !(lvlMeets sec lvl 1) then some 0 else if lvl = 1 && decide (2 ≤ bits (ctl e) 3 2) then some 2 else none }
    (fun x s =>
      (resolve x 1 1 .src s).bind fun pl s => (takeSource x 1 accInt pl s).bind fun w s =>
        (untilMesh x (.stores false) (s.drained x.t) s).bind fun _ s =>
          let m := tlbiMsg x w.data (ctl x.e)
          let s1 := s.modCore x.core (fun k => k.tlbi m)
          if s1.tlbiBusy m x.core then .wait s1
          else
            let s2 := if bit m.ctl 4 then { s1 with tlbi := s1.tlbi ++ [{ m with cores := s1.otherCores x.core }] } else s1
            .ok true (s2.takeWords x none [pl])) s

/-- The n-th message in flight with its cores changed; one that has no core left is gone. -/
def setMsgCores (f : TlbiMsg → List Nat) (n : Nat) (l : List TlbiMsg) : List TlbiMsg :=
  ((l.zipIdx).map (fun (p : TlbiMsg × Nat) => if p.2 = n then { p.1 with cores := f p.1 } else p.1)).filter
    (fun m => !m.cores.isEmpty)

/-- TLBI_REMOTE: message n reaches a core and completes there once no walk it met is under way; a fenced core performs it when it
returns to service (05 R196, R197; 08 R291). -/
def execTlbiRemote (core n : Nat) (s : State) : Out :=
  if 48 ≤ core then .fault .noSuchUnit
  else match s.tlbi[n]? with
    | none => .next s
    | some m =>
      if !(m.cores.contains core) || (s.core core).fenced then .next s
      else
        let s1 := s.modCore core (fun k => k.tlbi m)
        if s1.tlbiBusy m core then .next s1
        else .next { s1 with tlbi := setMsgCores (fun m => m.cores.filter (· != core)) n s1.tlbi }

/-- A core that returns to service performs every invalidation that reached it while it was fenced (05 R197). -/
def State.tlbiCatchUp (s : State) (c : Nat) : State :=
  let s1 := (s.tlbi.filter (fun m => m.cores.contains c)).foldl (fun s m => s.modCore c (fun k => k.tlbi m)) s
  { s1 with tlbi := (s1.tlbi.map (fun m => { m with cores := m.cores.filter (· != c) })).filter (fun m => !m.cores.isEmpty) }

/-- Every global TLBI of a thread has completed on every core that is in service (05 R197). -/
def State.tlbiDone (s : State) (t : Nat) : Bool :=
  s.tlbi.all (fun m => m.tid != t || m.cores.all (fun c => (s.core c).fenced || !(s.clusterOn (c / 4))))

/-- SYNC_T (05 R157, R197). -/
def execSyncT (t : Nat) (e : Enc) (s : State) : Out :=
  fullInstr t e { noOperands 0xA true with denied := fun sec lvl _ _ => if lvlMeets sec lvl 1 then none else some 0 }
    (fun x s => (untilMesh x .tlbi (s.tlbiDone x.t) s).bind fun _ s => .ok true s) s

/-! ## Starting and stopping threads (05 R199, R200) -/

/-- The selector rules of THSTART (05 R199, 02 R30). -/
def startAllowed (s : State) (t : Nat) (lvl : BitVec 2) (v : Nat) : Bool :=
  let tt := t / 16 * 16 + v % 16
  let l := v / 16 % 4
  let tsec := (s.thr tt).sec
  v / 64 == 0 && tt != t && !(tsec && l == 2) && !(!tsec && l == 3) && (lvl == 3 || (!tsec && decide (l ≤ 2)))

/-- A STOPPED thread is started (05 R199). -/
def State.startThread (s : State) (tt : Nat) (l : Nat) (a : Addr) : State :=
  s.modThr tt (fun th => { th with st := .active, lvl := BitVec.ofNat 2 l, pc := a })

/-- THSTART (05 R157, R199, R201); an odd start address is a fault of operand 2 (log 73). -/
def execThstart (t : Nat) (i : Ins) (s : State) : Out :=
  bothModes t i
    { group := 0xA, forms := [(2, [.src, .src])], denied := fun sec lvl _ _ => if lvlMeets sec lvl 2 then none else some 0 }
    (fun c => if c.x || c.sg || c.sz != 0 then some 0 else none) (fun sec lvl => if lvlMeets sec lvl 2 then none else some 0)
    (fun i x s =>
      (match i with
       | .full _ =>
         (resolve x 1 1 .src s).bind fun p1 s => (resolve x 2 1 .src s).bind fun p2 s =>
           (takeSource x 1 accInt p1 s).bind fun w1 s => (takeSource x 2 x.accCode p2 s).bind fun w2 s =>
             (targetValue 2 w2 s).bind fun a s => .ok (bits w1.data 63 0, a, [p1, p2]) s
       | .compact c =>
         (compactDen x c.d.toNat 6 1 s).bind fun v s => (compactDen x c.s.toNat 6 2 s).bind fun b s =>
           (compactMap x 2 false b s).bind fun a s => .ok (v, a, []) s : Res (Nat × Addr × List Place)).bind fun r s =>
        if r.2.1.toNat % 2 ≠ 0 then .trap { code := 0x03, step := 6, opnd := 2, addr := r.2.1 } s
        else if !(startAllowed s x.t x.lvl r.1) then .trap { code := 0x1A, step := 7, opnd := 1 } s
        else
          let tt := x.t / 16 * 16 + r.1 % 16
          let go := s.thState tt == 0
          let s1 := if go then s.startThread tt (r.1 / 16 % 4) r.2.1 else s
          .ok true ((s1.updFlags x.t { t := some go }).takeWords x none r.2.2)) s

/-- THSTOP (05 R157, R200, R201); bits 127:64 of the selector word are not looked at, here as in THSTART (DESIGN CHOICE, log 91). -/
def execThstop (t : Nat) (i : Ins) (s : State) : Out :=
  bothModes t i { group := 0xA, forms := [(1, [.src])], noSlot := true }
    (fun c => if c.s != 0 || c.x || c.sg || c.sz != 0 then some 0 else none) (fun _ _ => none)
    (fun i x s =>
      (match i with
       | .full _ =>
         (resolve x 1 1 .src s).bind fun p1 s => (takeSource x 1 accInt p1 s).bind fun w1 s => .ok (bits w1.data 63 0, [p1]) s
       | .compact c => (compactDen x c.d.toNat 6 1 s).bind fun v s => .ok (v, []) s : Res (Nat × List Place)).bind fun r s =>
        let tt := x.t / 16 * 16 + r.1 % 16
        let th := s.thr tt
        if r.1 / 16 != 0 || (tt != x.t && !(x.lvl == 3 || (x.lvl == 2 && !th.sec))) then
          .trap { code := 0x1A, step := 7, opnd := 1 } s
        else if tt = x.t then
          .ok true (((s.updFlags x.t { t := some true }).takeWords x none r.2).stopThread x.t)
        else if th.st == .active && (th.slot.isSome || th.mmioW.isSome) then .wait s
        else
          let s1 := if th.st == .stopped then s else s.stopThread tt
          .ok true ((s1.updFlags x.t { t := some (th.st != .stopped) }).takeWords x none r.2)) s

/-! ## Calls and returns (05 R158; 07 R244, R247) -/

/-- The call number of SVC and HVC. -/
def callNumber : Ins → Nat
  | .full e => bits e.x1 15 0
  | .compact c => bits c.ext 15 0

/-- SVC (05 R157, R158, R201; 07 R243, R244). -/
def execSvc (t : Nat) (i : Ins) (s : State) : Out :=
  bothModes t i { group := 0xA, forms := [(1, [.src])], noSlot := true, modes := fun _ => some [6] }
    (fun c => if c.d != 0 || c.s != 0 || !c.x || c.sg || c.sz != 0 || bits c.ext 31 16 != 0 then some 0 else none) (fun _ _ => none)
    (fun i _ s => .trap { code := 0x20, callno := callNumber i } s) s

/-- HVC: normal world, supervisor or above (05 R157, R158; 07 R236, R243). -/
def execHvc (t : Nat) (e : Enc) (s : State) : Out :=
  fullInstr t e
    { group := 0xA, forms := [(1, [.src])], noSlot := true, modes := fun _ => some [6],
      denied := fun sec lvl _ _ => if sec || !(lvlMeets sec lvl 1) then some 0 else none }
    (fun x s => .trap { code := 0x21, callno := callNumber (.full x.e) } s) s

/-- The refusal that a trap left pending for the level that is being returned to (06 R226): of its bank, with no entry into that bank
between that has not returned. -/
def pendingRefusal (th : Thread) (u : Bool) : Option MmioWait :=
  th.mmioOld.find? (fun w => w.bankU == u && w.depth == 0 && w.result == some false)

/-- The return through a bank (07 R247, 06 R226): state restored, TB cleared; a delay slot stands where DS is 1, and what its length
settles is settled when it issues (log 62). -/
def Thread.returnFrom (th : Thread) (u : Bool) : Thread :=
  let b := if u then th.bankU else th.bankS
  let b' := { b with stat := setBits b.stat 32 32 0 }
  { th.clear with
    flags := BitVec.ofNat 5 (bits b.stat 4 0), lvl := BitVec.ofNat 2 (bits b.stat 9 8), ctl := BitVec.ofNat 8 (bits b.stat 23 16),
    tcw := tcwFields th.tcw b.tcw, pc := b.pc.setWidth 48, old := none,
    slot := if bit b.npc 63 then
        some (match b.slot with
          | some sl => { next := if sl.next.isNone then none else some (b.npc.setWidth 48), annul := false, call := sl.call }
          | none => { next := some (b.npc.setWidth 48), annul := false, call := false })
      else none,
    bankS := if u then th.bankS else b', bankU := if u then b' else th.bankU,
    mmioW := th.mmioOld.find? (fun w => w.bankU == u && w.depth == 0 && w.result == none),
    mmioOld := (th.mmioOld.filter (fun w => w.bankU != u || w.depth != 0)).map
      (fun w => if w.bankU == u then { w with depth := w.depth - 1 } else w) }

/-- TRET (05 R157, R201; 07 R247; 06 R226, R231). -/
def execTret (t : Nat) (i : Ins) (s : State) : Out :=
  bothModes t i { noOperands 0xA true with denied := fun sec lvl _ _ => if lvlMeets sec lvl 1 then none else some 0 }
    compactNoFields (fun sec lvl => if lvlMeets sec lvl 1 then none else some 0)
    (fun _ x s =>
      let th := s.thr x.t
      let u := decide (2 ≤ th.lvl.toNat)
      let b := if u then th.bankU else th.bankS
      let l := bits b.stat 9 8
      if th.lvl.toNat < l ∨ (th.sec = true ∧ l = 2) ∨ (th.sec = false ∧ l = 3) then .trap { code := 0x02, step := 7 } s
      else
        let s1 := s.setThr x.t (th.returnFrom u)
        match pendingRefusal th u with
        | some w =>
          let a := s1.thr x.t
          .ok false (s1.trapEnter x.t (w.exn 0x0C) false a.pc (a.slot.bind (·.next)) a.pc)
        | none => .ok false s1) s

/-! ## HREPLY (05 R191 to R193; 15 R498) -/

/-- HREPLY (05 R157, R191 to R193; 09 R319; 15 R498, R499). -/
def execHreply (t : Nat) (e : Enc) (s : State) : Out :=
  fullInstr t e
    { group := 0xA, forms := [(2, [.src, .src])], noSlot := true,
      modes := fun k => if k = 1 then some [0] else if k = 2 then some [6] else none,
      illegal := fun e => if bits e.x2 15 6 != 0 || decide (32 < bits e.x2 5 0) || decide (256 < bits e.x1 7 0 + bits e.x2 5 0)
        then some 2 else none,
      denied := fun sec _ th _ => if !sec || bits th.hwin 13 8 == 0 then some 0 else none }
    (fun x s =>
      match tfind s.hingeOut x.t with
      | none => .ok true (s.updFlags x.t { t := some false })
      | some r =>
        let s1 := { s with hingeOut := tdel s.hingeOut x.t }
        if r.orphan then .ok true (s1.updFlags x.t { t := some false })
        else
          let ws := (List.range (bits x.e.x2 5 0)).map (fun j => (s.thr x.t).denWord (bits x.e.x1 7 0 + j))
          let s2 := (s1.updFlags x.t { t := some true }).hingeFlush r.caller x.t
          if s2.coreGone (r.caller / 16) then .ok true (s2.failReq r)
          else if (s2.core (r.caller / 16)).fenced then .ok true { s2 with hingeHeld := s2.hingeHeld ++ [{ req := r, ws := ws }] }
          else .ok true (s2.replyTo r ws)) s

end Sys2Proof.Machine
end

