-- ==== Sys2Proof/Machine/Secure.lean ====
section
/-! DEFINITION. Secure DRAM windows, the debug access port and the JTAG port (15 R491 to R493, R520 to R522). -/

namespace Sys2Proof.Machine

/-! ## Secure DRAM windows (15 R492, R493) -/

/-- An interval in its place by its start. -/
def insertSpan (x : Nat × Nat) : List (Nat × Nat) → List (Nat × Nat)
  | [] => [x]
  | y :: r => if x.1 ≤ y.1 then x :: y :: r else y :: insertSpan x r

/-- What intervals in the order of their starts cover from a point on, overlaps counted once. -/
def coverFrom : Nat → List (Nat × Nat) → Nat
  | _, [] => 0
  | p, x :: r => (max p x.2 - max p x.1) + coverFrom (max p x.2) r

def coverLen (l : List (Nat × Nat)) : Nat := coverFrom 0 (l.foldr insertSpan [])

/-- The enabled windows in units of 16 MiB. -/
def State.secWindows (s : State) : List (Nat × Nat) :=
  ((List.range 8).filter (fun n => s.rb (Key.l3Secwin n) 63)).filterMap (fun n =>
    let b := s.rf (Key.l3Secwin n) 47 24
    let l := s.rf (Key.l3Seclim n) 47 24
    if b < l then some (b, l) else none)

/-- A write of L3_SECWIN or L3_SECLIM by the monitor (15 R492, R493). -/
def State.secWindowWrite (s : State) (n : Nat) (lim : Bool) (v : W64) : State :=
  let s1 := s.writeReg (if lim then Key.l3Seclim n else Key.l3Secwin n) v
  let limit := s.keyw.secmem.getD 256 * 64
  if limit < coverLen s1.secWindows then s
  else if coverLen s.secWindows < coverLen (s.secWindows ++ s1.secWindows) then s1.setRf (Key.l3Secwin n) 62 62 1
  else s1

/-- SECURE_WINDOW_WRITE (15 R492, R493). -/
def execSecureWindowWrite (w : Writer) (n : Nat) (lim : Bool) (v : W64) (s : State) : Out :=
  if 8 ≤ n then .fault .noSuchUnit
  else if w.secure && w.lvl == 3 then .next (s.secWindowWrite n lim v) else .next s

/-- The copies of a line in the normal ways of one L2 and of the L3 go, a dirty one to memory first (15 R493). -/
def State.secEvictL2 (s : State) (k : Nat) : State :=
  let c := s.cluster k
  (c.l2.filter (fun (e : Nat × L2Line) => e.2.st != .held && !(slotSec c e.1) && s.inSecWindow (e.2.line * 64))).foldl (fun s e =>
    if e.2.st = .m then s.flushLine e.2.line else s.l2Drop k e.1 e.2) s

/-- SECURE_WINDOW_EVICT_DONE (15 R493): no normal way of an L1D, L2 or L3 and no L1I keeps a line of a secure window. -/
def execSecureWindowEvictDone (s : State) : Out :=
  if !(List.range 8).any (fun n => s.rb (Key.l3Secwin n) 62) then .next s
  else
    let s1 := (List.range 12).foldl (fun s k => s.secEvictL2 k) s
    let s2 := (s1.l3.filter (fun (e : Nat × L3Line) => !(bit (s1.reg (Key.l3Part (e.1 / 65536))) (e.1 % 16)) &&
      s1.inSecWindow (e.2.line * 64))).foldl (fun s e => s.l3Evict e.1) s1
    let s3 := (List.range 48).foldl (fun s c => s.modCore c (fun x =>
      { x with l1d := x.l1d.filter (fun (e : Nat × Nat) => bit x.l1dpart (e.1 % 8) || !(s.inSecWindow (e.2 * 64))),
               l1i := x.l1i.filter (fun (e : Nat × Nat) => !(s.inSecWindow (e.2 * 64))) })) s2
    .next ((List.range 8).foldl (fun s n => s.setRf (Key.l3Secwin n) 62 62 0) s3)

/-! ## The debug access port (15 R520, R521) -/

/-- The level whose rights the port uses: the monitor's, or the hypervisor's. -/
def debugLvl (sec : Bool) : BitVec 2 := if sec then 3 else 2

/-- Some other thread of the same core, in whose place the port names a thread. -/
def debugThread (t : Nat) : Nat := t / 16 * 16 + (t % 16 + 1) % 16

/-- The debug port reaches a thread of its world: debug is open, and the thread's cluster is powered (01 R22, 15 R521). -/
def State.debugReaches (s : State) (sec : Bool) (t : Nat) : Bool :=
  s.debugOpen sec && (s.thr t).sec == sec && s.clusterOn (t / 64)

/-- The debug port reaches a tagged address in its world (01 R22, 15 R521). -/
def State.debugMem (s : State) (sec : Bool) (a : Nat) : Bool :=
  s.debugOpen sec && !s.sett.c4 && (s.region a).tagged && s.reaches sec a

/-- DEBUG_PORT_ACCESS (15 R521): as THSTOP, THSTART, SYSRD and SYSWR act, and memory accesses of the world. A FENCED thread keeps its
state (02 R38); a core that sleeps wakes for a thread that becomes ACTIVE (R34), and for a tolerance that forbids its sleep (R77). -/
def execDebugPortAccess (a : DebugOp) (s : State) : Out :=
  match a with
  | .stop sec t =>
    if 768 ≤ t then .fault .noSuchUnit
    else
      let th := s.thr t
      if !(s.debugReaches sec t) || th.st == .stopped || (s.core (t / 16)).fenced then .next s
      else if th.st == .active && (th.slot.isSome || th.mmioW.isSome) then .next s
      else .next (s.stopThread t)
  | .start sec t lvl pc =>
    if 768 ≤ t then .fault .noSuchUnit
    else if !(s.debugReaches sec t) || s.thState t != 0 || bit pc 0 || (sec && lvl == 2) || (!sec && lvl == 3) then .next s
    else .next ((s.wakeCore (t / 16)).startThread t lvl.toNat pc)
  | .readSys sec t n =>
    if 768 ≤ t then .fault .noSuchUnit
    else if !(s.debugReaches sec t) || !(sysAllowed s (debugThread t) sec (debugLvl sec) n t false) then .next s
    else .next (s.sysClear (debugThread t) n t)
  | .writeSys sec t n v =>
    if 768 ≤ t then .fault .noSuchUnit
    else if !(s.debugReaches sec t) || !(sysAllowed s (debugThread t) sec (debugLvl sec) n t true) then .next s
    else match sysWrite (debugThread t) sec (debugLvl sec) n t v 1 2 s with
      | .ok _ s1 => .next (if n = 0x009 ∨ n = 0x101 then s1.capPower (t / 16) else s1)
      | .trap _ _ => .next s
      | .wait s1 => .next s1
  | .readMem sec pa =>
    let a := pa.toNat / 16 * 16
    if !(s.debugMem sec a) then .next s
    else if !(s.chunkReady a) then .next { s with dram := s.dram.promote a }
    else .next (s.dmaSnoop a)
  | .writeMem sec pa w =>
    let a := pa.toNat / 16 * 16
    if !(s.debugMem sec a) || s.standbyRefuses a then .next s
    else if !(s.chunkReady a) then .next { s with dram := s.dram.promote a }
    else .next (s.homeMerge a 0xFFFF#16 w.data w.tag)

/-! ## JTAG (15 R522) -/

def State.setIr (s : State) (ir : JtagIr) : State := { s with aon := { s.aon with ir := ir } }

/-- EXTEST, CLAMP and HIGHZ are accepted only when scan is allowed and RST_N is low (15 R522). -/
def State.scanIr (s : State) (ir : JtagIr) : State := s.setIr (if s.scanAllowed && s.aon.rstLow then ir else .bypass)

/-- The value that IDCODE shifts out (15 R522): stepping index, 0x8048, JEP106 identity, 1. -/
def State.idcode (s : State) : BitVec 32 :=
  let step := bits s.keyw.devid 15 12 * 2 + bits s.keyw.devid 11 8
  BitVec.ofNat 32 (step % 16 * 2 ^ 28 + 0x8048 * 2 ^ 12 + Config.jep106.toNat * 2 + 1)

/-- JTAG_BYPASS. -/
def execJtagBypass (s : State) : Out := .next (s.setIr .bypass)
/-- JTAG_IDCODE. -/
def execJtagIdcode (s : State) : Out := .next (s.setIr .idcode)
/-- JTAG_SAMPLE_PRELOAD. -/
def execJtagSamplePreload (s : State) : Out := .next (s.setIr .sample)
/-- JTAG_EXTEST. -/
def execJtagExtest (s : State) : Out := .next (s.scanIr .extest)
/-- JTAG_CLAMP. -/
def execJtagClamp (s : State) : Out := .next (s.scanIr .clamp)
/-- JTAG_HIGHZ. -/
def execJtagHighz (s : State) : Out := .next (s.scanIr .highz)

end Sys2Proof.Machine
end

