-- ==== Sys2Proof/Machine/Boot.lean ====
section
/-! DEFINITION. Supplies, device reset, the boot sequence, image load and check, recovery wait, start-up BIST, the self-test stamp,
and core release (16; 18 R600 to R603; 15 R513, R518, R519). -/

namespace Sys2Proof.Machine

/-! ## Device reset (16 R526 to R530) -/

def State.setAon (s : State) (a : AlwaysOn) : State := { s with aon := a }

def State.setBoot (s : State) (b : Boot) : State := { s with boot := b }

/-- The always-on millisecond count (17 R579). -/
def State.aonMs (s : State) : Nat := s.aon.ns / 1000000 % 2 ^ 32

/-- An entry of the event log; the oldest of 256 goes (17 R580). -/
def State.logEvent (s : State) (code arg : Nat) : State :=
  let e : LogEntry := { seq := s.aon.logSeq, code := code, ms := s.aonMs, arg := arg }
  let l := s.aon.log ++ [e]
  s.setAon { s.aon with log := l.drop (l.length - 256), logSeq := (s.aon.logSeq + 1) % 2 ^ 32 }

/-- Every block takes its reset values, but for what outlives device reset, the hold after SHUTDOWN among it (17 R565); a ball that is still
low asserts its inhibit again (11 R400). -/
def State.resetBlocks (s : State) : State :=
  { State.reset with
    pending := s.pending, fresh := s.fresh, keyw := s.keyw, aon := s.aon,
    boot := { shut := s.boot.shut },
    cio := { inhBdg := true, pinLow := s.cio.pinLow, fltLow := s.cio.fltLow, inhPin := s.cio.pinLow, utrip := s.cio.fltLow } }

/-- A KEY_UPDATE that programs, by the number of its row (15 R515). -/
def State.updateRuns (s : State) : Option Nat :=
  s.sett.mb.findSome? (fun (e : Nat × Mbx) => e.2.long.bind (fun l => if l.opc = 0x40 ∧ l.status = 0 then some l.arg else none))

/-- A KEY_UPDATE cut in its work leaves what it has programmed: nothing, a row in part, its row, or with it a commit entry in part, and it is
open which (15 R515). -/
def State.cutUpdate (s : State) : State :=
  match s.updateRuns with
  | none => s
  | some i =>
    let k := s.keyw
    let part (r : KeyRow) : KeyRow := { r with complete := false }
    let gen := match tfind k.rows i with | some r => r.gen | none => 0
    let k1 := match (Config.updateCut s.fresh).toNat with
      | 0 => { k with rows := tdel k.rows i }
      | 1 => { k with rows := k.rows.map (fun (e : Nat × KeyRow) => if e.1 = i then (e.1, part e.2) else e) }
      | 2 => k
      | _ => { k with commits := k.commits ++
                 [{ slotB := decide (8 ≤ i), row := i % 8, gen := gen, complete := false, killed := false }] }
    { s with keyw := k1, fresh := s.fresh + 1 }

/-- Device reset begins, or a further cause joins it: bit of SYS_RSTCAUSE (16 R527, R530). Every block stands at its reset value until
the exit, and nothing that a command does to one before then outlasts it. -/
def State.enterReset (s : State) (cause : BitVec 6) : State :=
  let s1 := { s.cutUpdate.resetBlocks with regs := [] }
  s1.setAon { s1.aon with inReset := true, held := s1.aon.held ||| cause }

/-- PWRGOOD_RISE (16 R525). -/
def execPwrgoodRise (s : State) : Out :=
  if s.aon.aon then .next (s.setAon { s.aon with pwrgood := true }) else .next s

/-- A command to a block that device reset holds does nothing (16 R527). -/
def outOfReset (s : State) (o : Out) : Out := if s.aon.inReset then .next s else o

/-- PWRGOOD_FALL (16 R527, R529; 17 R565): the reset-duration count is discarded, and the hold after SHUTDOWN ends. -/
def execPwrgoodFall (s : State) : Out :=
  let s1 := s.enterReset 1
  .next ((s1.setAon { s1.aon with pwrgood := false, rstNs := 0 }).setBoot {})

/-- RST_N_ASSERT (16 R528): ns is how long the low level lasts; the outcome from 100 ns to 1 us is open (log 34). -/
def execRstNAssert (ns : Nat) (s : State) : Out :=
  let low (s : State) : State :=
    let s1 := s.enterReset 2
    s1.setAon { s1.aon with rstLow := true, rstNs := if s.aon.rstLow then s.aon.rstNs else 0 }
  if ns < 100 then .next s
  else if 1000 ≤ ns then .next (low s)
  else
    let s1 := { s with fresh := s.fresh + 1 }
    .next (if Config.shortPulseResets s.fresh then low s1 else s1)

/-- The periods of the 32.768 kHz reference in ns of its time. -/
def refPeriods (ns : Nat) : Nat := ns * 32768 / 10 ^ 9

/-- RST_N_RELEASE (16 R529): the reset-duration counter has counted periods of the 32.768 kHz reference, whose last one before it began to
count had begun phase ns earlier. -/
def execRstNRelease (phase : Nat) (s : State) : Out :=
  if !s.aon.rstLow then .next s
  else
    let periods := refPeriods (s.aon.rstNs + phase % 30517)
    let s1 := s.setAon { s.aon with rstLow := false, rstNs := 0 }
    if !s.aon.pwrgood then .next s1
    else
      let ms := satAdd (2 ^ 32 - 1) (periods * 1000 / 32768) 0
      let s2 := s1.setAon { s1.aon with dur := BitVec.ofNat 32 ms }
      if 983040 < periods then .next ((s2.setAon { s2.aon with cause := s2.aon.cause ||| 32 }).logEvent 0x01 ms) else .next s2

/-- BROWN_OUT (16 R526). -/
def execBrownOut (s : State) : Out :=
  if s.aon.pwrgood then
    let s1 := s.enterReset 4
    .next (s1.setAon { s1.aon with brown := true, cause := s1.aon.cause ||| 4 })
  else .next s

/-- BROWN_OUT_END (16 R526). -/
def execBrownOutEnd (s : State) : Out := .next (s.setAon { s.aon with brown := false })

/-- VDD_AON_APPLY (16 R550, R527): the always-on domain starts with nothing retained; the other rails are down. -/
def execVddAonApply (s : State) : Out :=
  if s.aon.aon then .next s
  else
    let s1 := s.enterReset 1
    .next ((s1.setAon { s1.aon with aon := true, pwrgood := false, cause := 1 }).setBoot {})

/-- VDD_AON_LOSS (16 R527, R529, R530; 17 R580): the retained items are gone, the causes that held before and the reset-duration counter
among them, and the event log; the causes that still hold begin anew. -/
def execVddAonLoss (s : State) : Out :=
  let s1 := s.enterReset 1
  .next ((s1.setAon { aon := false, pwrgood := false, rstLow := s.aon.rstLow, inReset := true, held := if s.aon.rstLow then 3 else 1,
                      bootRcv := s.aon.bootRcv, mgmtSel := s.aon.mgmtSel, pairRole := s.aon.pairRole, flash := s.aon.flash,
                      ir := s.aon.ir, bands := s.aon.bands }).setBoot {})

/-- SETT_DEVICE_RESET_START (17 R565, R567): 2 us after the reply or the completion. -/
def execSettDeviceResetStart (s : State) : Out :=
  if s.boot.resetDue then
    let s1 := s.enterReset 8
    .next (s1.setAon { s1.aon with settHold := true })
  else .next s

def State.setPhase (s : State) (p : Nat) : State := s.setRf Key.sysBootstat 59 56 p

/-- Keyward as a reset finds it: an intention is carried out and bad rows are killed (15 R513, R519). -/
def State.senseKeyward (s : State) : State :=
  let (k, n) := s.keyw.finishIntent.killAtReset
  let s1 := { s with keyw := k, boot := { s.boot with lcEarly := k.lcStates.1, lcLate := k.lcStates.2 } }
  if n = 0 then s1 else s1.logEvent 0x05 n

/-- DEVICE_RESET_EXIT (16 R530, R531, R533, R538, R540; 15 R518): every cause has ended; the 10 us after a device-reset command end
here. Straps are sampled, the causes recorded, and boot starts. -/
def execDeviceResetExit (s : State) : Out :=
  let a := s.aon
  if !a.inReset || !a.aon || !a.pwrgood || a.rstLow || a.brown then .next s
  else
    let cause := a.cause ||| a.held
    let s1 := s.resetBlocks.setAon { a with inReset := false, settHold := false, held := 0, cause := cause,
                                            hist := (a.hist ++ [(a.dur, cause)]).drop (a.hist.length + 1 - 8), exitMs := s.aonMs }
    let s2 := { s1 with pair := { s1.pair with strap := a.pairRole }, boot := { s1.boot with mgmtSpi := a.mgmtSel } }
    let s3 := s2.senseKeyward
    .next (if s3.scrap then s3.setPhase 0xF else if a.bootRcv then s3.setPhase 0xB else s3)

/-! ## Images (16 R535 to R539) -/

/-- The base of the secure SRAM (01 R15). -/
def sramBase : Nat := 0x7F0000000000

/-- n bytes of memory. -/
def Memory.byteList (m : Memory) (a n : Nat) : List Byte := (List.range n).map (fun i => m.byte (a + i))

/-- A byte of the boot flash; an erased byte reads FFH (log 7). -/
def AlwaysOn.flashByte (a : AlwaysOn) (i : Nat) : Byte := tget 0xFF#8 a.flash i

/-- An image header as bytes: a little-endian field (16 R536). -/
def hdrField (h : List Byte) (off n : Nat) : Nat := leNat ((h.drop off).take n)

/-- LEN and TRLEN keep the image within its limits (16 R536). -/
def sizesOk (h : List Byte) : Bool :=
  let len := hdrField h 8 4
  let tr := hdrField h 0x10 4
  len % 16 == 0 && decide (16 ≤ len) && (tr == 2784 || tr == 7411) && decide (256 + len + tr ≤ 2 ^ 22)

/-- PQ of an image (16 R536). -/
def hdrPq (h : List Byte) : Bool := hdrField h 0x15 1 / 2 % 2 == 1

/-- Check 3 (16 R536, R538). -/
def fieldsOk (h : List Byte) : Bool :=
  sizesOk h && hdrField h 0x0C 4 % 2 == 0 && decide (hdrField h 0x0C 4 < hdrField h 8 4) &&
  hdrField h 0x10 4 == (if hdrPq h then 7411 else 2784) && decide (1 ≤ hdrField h 0x14 1) && decide (hdrField h 0x14 1 ≤ 64) &&
  decide (hdrField h 0x15 1 < 4) && hdrField h 0x16 2 == 0 && hdrField h 0x1C 228 == 0

/-- Words written from the base of the secure SRAM with tag BITS; every other word of it is data 0 with tag UNINIT (16 R535). -/
def Memory.loadImage (m : Memory) (ws : List Data) : Memory :=
  (List.range ws.length).foldl (fun m i => m.setWord (sramBase / 16 + i) { data := ws.getD i 0, tag := Tag.bits })
    (m.clearRange sramBase (sramBase + 2 ^ 23))

/-- IMAGE_LOAD_COMPLETE (16 R534, R535, R538): copy A or B of the boot flash; ok says whether every flash read completed. -/
def execImageLoadComplete (ok : Bool) (s : State) : Out :=
  if s.aon.inReset || s.phase = 0 || decide (4 < s.phase) then .next s
  else
    let off := s.boot.copy * 0x800000
    let byte (i : Nat) : Byte := s.aon.flashByte (off + i)
    let h := (List.range 256).map byte
    let go (s : State) (err : Nat) : State := (s.setBoot { s.boot with check := some s.boot.copy, loadErr := err }).setPhase 5
    if !ok then .next (go s 1)
    else if !(sizesOk h) then .next (go s 3)
    else
      let n := (256 + hdrField h 8 4 + hdrField h 0x10 4 + 15) / 16
      let ws := (List.range n).map (fun i => bytesWord ((List.range 16).map (fun j => byte (16 * i + j))))
      .next (go { s with mem := s.mem.loadImage ws } 0)

/-- The code of the image in the secure SRAM, 0 when it passes (16 R538, 15 R517, R519). -/
def State.imageCode (s : State) : Nat :=
  let b (off n : Nat) : List Byte := s.mem.byteList (sramBase + off) n
  let h := b 0 256
  let len := hdrField h 8 4
  let tr := 256 + len
  let bundle := b tr 2688
  let words := (256 + len + hdrField h 0x10 4 + 15) / 16
  let digest := sha384 (b 0 (256 + len) ++ bundle)
  if hdrField h 0 8 ≠ 0x4C5443485A580001 then 2
  else if !(fieldsOk h) then 3
  else if !s.imageEnforced then 0
  else if (List.range words).any (fun i => s.mem.tag (sramBase / 16 + i) == Tag.poison) then 8
  else if s.keyw.active.isNone || leNat (sha384 bundle) != s.keyw.hash.toNat then 4
  else if !(Config.ecdsaVerify (bundle.take 96) digest (b (tr + 2688) 96)) then 5
  else if s.keyw.pq && !(hdrPq h && Config.mldsaVerify (bundle.drop 96) digest (b (tr + 2784) 4627)) then 6
  else if hdrField h 0x18 4 < s.keyw.ctr 0 then 7
  else 0

/-! ## The self-test stamp (18 R600 to R603) -/

/-- The fields of a stamp before its MAC (18 R600). -/
def stampBody (ms index : Nat) (serial : W64) : List Byte :=
  let le (n v : Nat) : List Byte := (beBytes n v).reverse
  le 8 0x53544D505A580001 ++ le 4 Config.selfTestContent.toNat ++ le 4 ms ++ le 8 index ++ le 8 serial.toNat

/-- The MAC under the key that Sett derives from the HUK (18 R600, R601; log 31). -/
def Keyward.stampMac (k : Keyward) (body : List Byte) : Option (List Byte) :=
  k.huk.map (fun h => aesCmac (Config.stampKey h) body)

/-- A record has MAGIC, CONTENT and a good MAC (18 R602). -/
def Keyward.stampGood (k : Keyward) (r : List Byte) : Bool :=
  hdrField r 0 8 == 0x53544D505A580001 && hdrField r 8 4 == Config.selfTestContent.toNat &&
  (match k.stampMac (r.take 32) with | some m => decide (m = (r.drop 32).take 16) | none => false)

/-- Where the flash holds its stamp. -/
def stampOffset : Nat := 0xFFF000

def AlwaysOn.flashStamp (a : AlwaysOn) : List Byte := (List.range 64).map (fun i => a.flashByte (stampOffset + i))

/-- Which case makes a stamp valid, 0 none (18 R602, R603). -/
def State.stampCase (s : State) : Nat :=
  match s.aon.stamp with
  | some r => if s.lcBoth (fun n => n == 1 || n == 2 || n == 3) && s.keyw.stampGood r then 1 else 0
  | none =>
    let r := s.aon.flashStamp
    if s.lcBoth (fun n => n == 1 || n == 2) && s.keyw.stampGood r && hdrField r 0x18 8 == s.keyw.serial.toNat &&
        hdrField r 0x10 8 == s.keyw.ctr 15 && decide (s.keyw.ctrUsed 15 < 256) then 2 else 0

/-- A valid stamp is consumed (18 R603). -/
def State.consumeStamp (s : State) (c : Nat) : State :=
  let s1 := s.setAon { s.aon with stamp := none }
  if c = 2 then
    { (s1.setBoot { s1.boot with eraseDue := true }) with keyw := (s1.keyw.ctrStart 15).ctrEnd 15 (s1.keyw.ctr 15 + 1) }
  else s1

/-- The flash sector is erased after READY (18 R603); no row: an idle step does it. -/
def State.eraseStamp (s : State) : State :=
  if s.boot.eraseDue && s.dram.bootDone then
    let f := s.aon.flash.filter (fun (e : Nat × Byte) => decide (e.1 < stampOffset) || decide (stampOffset + 4096 ≤ e.1))
    (s.setAon { s.aon with flash := f }).setBoot { s.boot with eraseDue := false }
  else s

/-! ## Core release (16 R543 to R545) -/

/-- A cluster is powered up; one that was off has lost its Dens (02 R48, 16 R545). -/
def State.clusterUp (s : State) (k : Nat) : State :=
  let s1 := if (s.cluster k).off then (List.range 64).foldl (fun s i => s.modThr (64 * k + i) (fun th => { th with den := [] })) s else s
  s1.modCluster k (fun c => { c with up := true, off := false })

/-- A core is in service with thread 0 ACTIVE at monitor level in the secure world (02 R35, 16 R544, R545, 17 R571),
whatever other threads of the core are secure (log 72). -/
def State.startCore (s : State) (c pc : Nat) : State :=
  ((s.clusterUp (c / 4)).modCore c (fun x => { x with released := true, pwr := .c0 })).modThr (16 * c)
    (fun th => { th with st := .active, sec := true, lvl := 3, pc := BitVec.ofNat 48 pc })

/-- Step 6: Sett releases core 0.0 (16 R531, R544); the DRAM modules follow. -/
def State.releaseFirst (s : State) : State :=
  let h := s.mem.byteList sramBase 256
  let s1 := (s.startCore 0 (sramBase + 0x100 + hdrField h 0x0C 4)).setRf Key.coreRelease 0 0 1
  { s1 with dram := { s1.dram with bootsz := hdrField h 0x14 1, reserve := hdrField h 0x15 1 % 2 == 1 } }.setPhase 7

/-- What boot does on its own in its order, each step in an idle step's 40 ns (16 R531: each time there is the latest, log 100): steps 1
to 3, step 6 unless SHUTDOWN holds every core (17 R565), and step 7. -/
def State.bootTick (s : State) : State :=
  match s.phase with
  | 1 => s.setPhase 2
  | 2 => s.setPhase 3
  | 3 => s.setPhase 4
  | 6 => if s.boot.shut then s else s.releaseFirst
  | 7 => s.setPhase 8
  | _ => s

/-- An image has passed: the recovery wait ends, with the endpoint's link and PCIE_CTL at its reset values (16 R542); start-up BIST follows,
or with a valid stamp step 6 (16 R543, 18 R602). -/
def State.imagePassed (s : State) (copy : Nat) : State :=
  let s1 := s.setRf Key.sysBootstat 61 60 copy
  let s2 := if copy = 3 then { s1 with regs := tdel s1.regs Key.pcieCtl, boot := { s1.boot with rcvLink := false } } else s1
  match s2.stampCase with
  | 0 => s2.setPhase 0xC
  | c => ((s2.consumeStamp c).setBoot { (s2.consumeStamp c).boot with tested := true }).setPhase 6

/-- The result of a check of the recovery image reaches the command that waits for it (17 R569). -/
def State.imgCheckDone (s : State) (code : Nat) : State :=
  let m := tget {} s.sett.mb 8
  match m.long with
  | some l => if l.opc = 0x52 then
      { s with sett := { s.sett with mb := tset {} s.sett.mb 8 { m with long := some { l with result := code, ready := true } } } }
    else s
  | none => s

/-- IMAGE_CHECK_COMPLETE (16 R538, R539, R541). -/
def execImageCheckComplete (s : State) : Out :=
  match s.boot.check with
  | none => .next s
  | some n =>
    let code := if n ≠ 2 ∧ s.boot.loadErr ≠ 0 then s.boot.loadErr else s.imageCode
    let s1 := s.setBoot { s.boot with check := none }
    let s2 := if code = 0 then s1 else s1.logEvent 0x06 (n + 1 + code * 256)
    if n = 0 then
      .next (if code = 0 then s2.imagePassed 1
        else ((s2.setRf Key.sysBootstat 55 48 code).setBoot { s2.boot with copy := 1 }).setPhase 4)
    else if n = 1 then
      .next (if code = 0 then s2.imagePassed 2 else (s2.setRf Key.sysBootstat 47 40 code).setPhase 0xB)
    else
      let s3 := (s2.setRf Key.sysBootstat 39 32 code).imgCheckDone code
      .next (if code = 0 then s3.imagePassed 3 else s3)

/-- An entry of the log for a self-test; the kind of all but the Core Rotation Test is not given (log 56). -/
def State.logBist (s : State) (pass : Bool) : State :=
  { s with fresh := s.fresh + 1 }.logEvent 0x09 (bits (Config.freeValue s.fresh) 7 0 + b2n (!pass) * 256)

/-- STARTUP_BIST_COMPLETE (16 R543): step 6 follows. -/
def execStartupBistComplete (pass : Bool) (s : State) : Out :=
  if s.phase ≠ 0xC then .next s
  else
    let s1 := (s.setRf Key.sysBootstat 62 62 1).logBist pass
    if pass then .next ((s1.setBoot { s1.boot with tested := true }).setPhase 6)
    else .next ((s1.setRf Key.sysBootstat 55 48 9).setPhase 0xF)

/-- The configuration that all four channels have (10 R335): populated alike, of a density and a rate of 10 R334, and at most 64 GiB
each; none for a population that training rejects. -/
def alikeOf (p : DramPop) : Option DramCfg :=
  p.ch0.filter (fun c =>
    p.ch1 == some c && p.ch2 == some c && p.ch3 == some c &&
      decide (c.dens.toNat < 3) && decide (c.speed.toNat < 3) && decide (dramGib c ≤ 64))

/-- DRAM_TRAINING_COMPLETE (16 R548, 10 R335). -/
def execDramTrainingComplete (failed : BitVec 4) (pop : DramPop) (s : State) : Out :=
  if s.phase ≠ 7 ∧ s.phase ≠ 8 then .next s
  else
    let s1 := s.setRf Key.sysBootstat 3 0 failed.toNat
    let up (cfg : DramCfg) (r : Option Nat) : Out :=
      .next ({ s1 with dram := { s1.dram with up := true, cfg := cfg, retired := r } }.setPhase 9)
    match alikeOf pop with
    | some cfg =>
      if failed = 0 then up cfg none
      else
        match (List.range 4).find? (fun ch => failed.toNat == 2 ^ ch) with
        | some ch => if s.dram.reserve then up cfg (some ch) else .next (s1.setPhase 0xF)
        | none => .next (s1.setPhase 0xF)
    | none => .next (s1.setPhase 0xF)

/-- READY (16 R532). -/
def State.ready (s : State) : Bool := s.dram.bootDone

/-- A write of CORE_RELEASE (16 R545). -/
def State.coreReleaseWrite (s : State) (w : Writer) (v : W64) : State :=
  if !w.secure || !s.ready || s.boot.shut then s
  else
    let vec := s.rf Key.sysRelvec 47 0
    (List.range 48).foldl (fun s c =>
      if bit v c && !(s.rb Key.coreRelease c) then (s.startCore c vec).setRf Key.coreRelease c c 1 else s) s

/-- CORE_RELEASE (16 R545). -/
def execCoreRelease (w : Writer) (v : W64) (s : State) : Out := .next (s.coreReleaseWrite w v)

/-! ## Recovery wait (16 R540 to R542) -/

/-- RCV_CTL.GO (16 R541, R542). -/
def State.recoveryGo (s : State) : State :=
  if s.recoveryWait && s.boot.check.isNone then s.setBoot { s.boot with check := some 2 } else s

/-- RECOVERY_BAR_WRITE (16 R542): over the link of the endpoint. -/
def execRecoveryBarWrite (off : Nat) (d : Data) (mask : BitVec 16) (s : State) : Out :=
  if !(s.recoveryWait && s.boot.rcvLink) then .next s
  else if off < 0x400000 then
    let w := sramBase / 16 + off / 16
    .next { s with mem := s.mem.setWord w (mergeWord (s.mem.word w) mask d Tag.bits) }
  else if off / 16 = 0x40000 ∧ bit mask 0 ∧ bit d 0 then .next s.recoveryGo
  else .next s

/-- RECOVERY_CHECK (16 R541). -/
def execRecoveryCheck (s : State) : Out := .next s.recoveryGo

/-- RCV_STAT as the endpoint reads it (16 R542). -/
def State.rcvStat (s : State) : W64 :=
  BitVec.ofNat 64 (b2n (s.boot.check == some 2) * 2 ^ 63 + b2n s.recoveryWait * 2 ^ 62 + s.rf Key.sysBootstat 39 32)

/-- What the endpoint answers to a read of 8 bytes of BAR0 (16 R542): the image reads 0, and so does every bit that no register holds. -/
def State.rcvRead (s : State) (off : Nat) : W64 := if off = 0x400010 then s.rcvStat else 0

/-- The recovery endpoint as a host finds it (16 R542): device ID, class code and the bytes of BAR0; there is none outside the wait. The
vendor ID is Filnopor's, of which the spec gives no value (log 7). -/
def State.rcvEndpoint (s : State) : Option (Nat × Nat × Nat) :=
  if s.recoveryWait && s.boot.rcvLink then some (0x8048, 0xFF0000, 0x800000) else none

/-! ## Balls (16 R527, R532; 14 R478) -/

/-- The level of READY; none: high-impedance. -/
def State.readyBall (s : State) : Option Bool := if s.aon.inReset then none else some s.ready

/-- The level of PEER_INHIBIT_N; none: high-impedance. -/
def State.peerInhibitBall (s : State) : Option Bool := if s.aon.inReset || !s.pair.peerInh then none else some false

/-- Every SerDes transmitter is idle. -/
def State.serdesIdle (s : State) : Bool := s.aon.inReset

/-! ## The SYS_ page (16 R550, 01 R17) -/

/-- Writes of the SYS_ page that do more than their table says. -/
def State.bootWrite (s : State) (w : Writer) (k : Nat) (v : W64) : Option State :=
  if k = Key.coreRelease then some (s.coreReleaseWrite w v)
  else if k = Key.sysRelvec then some (if w.secure && !(bit v 0) then s.writeReg k v else s)
  else if k = Key.sysRstcause then some (s.setAon { s.aon with cause := s.aon.cause &&& ~~~ ((v.setWidth 6) &&& 0x2F) })
  else none

/-- The live fields of the SYS_ page. -/
def State.bootView (s : State) (k : Nat) : List (Nat × Nat × Nat) :=
  if k = Key.sysBootstat then (63, 63, b2n s.ready) :: (if s.ready && s.phase == 9 then [(59, 56, 0xA)] else [])
  else if k = Key.sysRstcause then [(5, 0, s.aon.cause.toNat)]
  else if k = Key.sysRstdur then [(31, 0, s.aon.dur.toNat)]
  else []

end Sys2Proof.Machine
end

