-- ==== Sys2Proof/Machine/Power.lean ====
section
/-! DEFINITION. Fencing a core and returning it to service, and the power states of cores, clusters and the package (02 R37, R38, R48,
R77; 08 R287; 09 R328; 17 R563, R570 to R574). -/

namespace Sys2Proof.Machine

/-! ## Fences (02 R37, 17 R563) -/

/-- Every TLB and walk-cache entry of a core is lost, and its lock slots read LOST (08 R287). -/
def Core.loseTlb (c : Core) : Core :=
  { c with itlb := [], dtlb := [], l2tlb := [], wcache := [], walks := [],
           locks := c.locks.map (fun (e : Nat × LockSlot) => (e.1, if e.2.v then { e.2 with lost := true } else e.2)) }

/-- The threads of a core. -/
def coreThreads (c : Nat) : List Nat := (List.range 16).map (fun i => 16 * c + i)

/-- A core can be fenced now: no thread stands between a control transfer and its delay slot, none waits for an MMIO or PCIe answer,
and the store buffer is empty (17 R563). -/
def State.fenceReady (s : State) (c : Nat) : Bool :=
  (s.core c).sb.isEmpty && (coreThreads c).all (fun t =>
    let th := s.thr t
    !(th.st == .active && (th.slot.isSome || th.extReq.isSome)) && th.mmioW.isNone)

/-- A core becomes FENCED: what its threads had in flight is abandoned, a block instruction with its TCW; its TLBs are lost (06 R225,
08 R287). -/
def State.fenceCore (s : State) (c : Nat) (f : Core → Core) : State :=
  let s1 := (coreThreads c).foldl (fun s t =>
    (s.dropInFlight t).modThr t (fun th => th.saveBlock.clear)) s
  (s1.modCore c (fun x => (f x).loseTlb)).logEvent 0x07 c

/-- A fence ends; a core that no other fence holds returns to service (02 R37, 05 R197, 15 R498). -/
def State.unfenceCore (s : State) (c : Nat) (f : Core → Core) : State :=
  let s1 := (s.modCore c f).logEvent 0x07 (c + 256)
  if (s1.core c).fenced then s1 else (s1.tlbiCatchUp c).releaseReplies c

/-- A core stays FENCED until device reset: requests whose service thread is on it fail, and so do those whose reply is held for a
caller on it (15 R498, R499). -/
def State.failCore (s : State) (c : Nat) : State :=
  let s1 := s.failWhere (fun r => r.svc / 16 == c)
  let mine := s1.hingeHeld.filter (fun h => h.req.caller / 16 == c)
  mine.foldl (fun s h => s.failReq h.req) { s1 with hingeHeld := s1.hingeHeld.filter (fun h => h.req.caller / 16 != c) }

/-! ## Core power states (17 R570) -/

/-- An idle core: no ACTIVE thread, as the power policy sees it through a fence (02 R38), nothing in flight, an empty store buffer, no
outstanding miss (17 R570). -/
def State.coreIdle (s : State) (c : Nat) : Bool :=
  let x := s.core c
  x.sb.isEmpty && x.mshr.isEmpty && x.walks.isEmpty &&
  (coreThreads c).all (fun t => (s.thr t).st != .active && (s.thr t).mmioW.isNone)

/-- C1_ENTRY (17 R570). -/
def execC1Entry (core : Nat) (s : State) : Out :=
  if 48 ≤ core then .fault .noSuchUnit
  else if s.coreIdle core && !(s.cluster (core / 4)).off && (s.core core).pwr == .c0 && decide (50 ≤ s.coreTol core) then
    .next (s.modCore core (fun x => { x with pwr := .c1 }))
  else .next s

/-- C2_ENTRY (17 R570; 08 R287; 09 R328): the L1s are invalidated and the TLBs lost, with which every TLBI under way is complete there. -/
def execC2Entry (core : Nat) (s : State) : Out :=
  if 48 ≤ core then .fault .noSuchUnit
  else if s.coreIdle core && !(s.cluster (core / 4)).off && (s.core core).pwr != .c2 && decide (2000 ≤ s.coreTol core) then
    .next ((s.modCore core (fun x => { x.loseTlb with pwr := .c2, l1d := [], l1i := [] })).tlbiCatchUp core)
  else .next s

/-! ## Cluster and package power states (17 R571 to R573) -/

/-- C3_ENTRY (17 R571; 01 R23; 09 R328): every thread is STOPPED, seen through a fence. -/
def execC3Entry (cluster : Nat) (s : State) : Out :=
  if 12 ≤ cluster then .fault .noSuchUnit
  else
    let cores := (List.range 4).map (fun i => 4 * cluster + i)
    if (s.cluster cluster).off || decide (s.rf (Key.pwrCtol cluster) 31 0 < 40000) ||
        !cores.all (fun c => (coreThreads c).all (fun t => (s.thr t).st == .stopped) && (s.core c).sb.isEmpty && s.bdg.test != some c) then
      .next s
    else
      let s1 := s.l2EvictWays cluster (fun _ => true)
      let s2 := s1.modClusterCores cluster (fun x => { x.loseTlb with pwr := .c0, l1d := [], l1i := [], mshr := [] })
      .next ((cores.foldl (fun s c => s.tlbiCatchUp c) s2).modCluster cluster (fun k =>
        { k with off := true, l2 := [], l2lock := setBits k.l2lock 31 16 0, l2lkstat := setBits k.l2lkstat 0 0 1 }))

/-- A cluster leaves C3; the island takes its cores first (17 R571, 18 R598). -/
def State.wakeCluster (s : State) (k : Nat) : State :=
  let cores := (List.range 4).map (fun i => 4 * k + i)
  let s1 := s.clusterUp k
  { s1 with bdg := { s1.bdg with woken := s1.bdg.woken ++ cores.filter (fun c => !(s1.bdg.woken.contains c)) } }

/-- PWR_CWAKE (17 R571): released cores start at PWR_WAKEVEC. -/
def State.cwakeWrite (s : State) (w : Writer) (v : W64) : State :=
  if !w.secure then s
  else
    let vec := s.rf Key.pwrWakevec 47 0
    (List.range 12).foldl (fun s k =>
      if bit v k && (s.cluster k).off then
        (List.range 4).foldl (fun s i => if (s.core (4 * k + i)).released then s.startCore (4 * k + i) vec else s) (s.wakeCluster k)
      else s) s

/-- CLUSTER_WAKE (17 R571). -/
def execClusterWake (w : Writer) (v : W64) (s : State) : Out := .next (s.cwakeWrite w v)

/-- The conditions of C4 beyond the clusters and the registers of PWR_ (17 R572). -/
def State.unitsQuiet (s : State) : Bool :=
  (List.range 16).all (fun u => !(s.guBusy u)) && (List.range 8).all (fun p => !(s.rb (Key.rlkCtl p) 63)) &&
  (List.range 6).all (fun p => !(s.rb (Key.tsnCtl p) 63)) && !(s.rb Key.pcieCtl 63) && !(s.rb Key.pairCtl 63) &&
  !(s.rb Key.hseCtl 63) && (List.range 8).all (fun q => (s.cryReady q).isNone)

/-- C4_ENTRY (17 R572; 09 R328; 10 R356): dirty L3 lines are written back before DRAM enters self-refresh. -/
def execC4Entry (s : State) : Out :=
  if s.sett.c4 || !((List.range 12).all (fun k => (s.cluster k).off)) || !(s.rb Key.pwrC4 63) ||
      decide (s.rf Key.pwrPkgtol 31 0 < 2000000) || !s.dram.complete || !s.unitsQuiet then .next s
  else
    let s1 := s.l3.foldl (fun s (e : Nat × L3Line) => s.l3Evict e.1) s
    .next { s1 with sett := { s1.sett with c4 := true }, dram := { s1.dram with selfRefresh := true } }

/-- PACKAGE_WAKE (17 R572; 09 R328): scratch units read data 0 with tag UNINIT, and core WCORE starts where it has been released (01
R9). -/
def execPackageWake (cause : WakeCause) (s : State) : Out :=
  let ok := match cause with
    | .wakePin => true
    | .timer => s.rf Key.pwrC4 31 0 != 0
    | .mailbox8 => (tget {} s.sett.mb 8).waiting
  if !s.sett.c4 || !ok then .next s
  else
    let s1 := { s with sett := { s.sett with c4 := false }, dram := { s.dram with selfRefresh := false } }
    let s2 := s1.clearUnits 0 s1.scrReady
    let c := s2.rf Key.pwrC4 37 32
    let s3 := if c < 48 then s2.wakeCluster (c / 4) else s2
    .next (if (s3.core c).released then s3.startCore c (s2.rf Key.pwrWakevec 47 0) else s3)

/-- A write of PWR_CTOL n or PWR_PKGTOL is answered once every core of its scope complies (17 R573, R574). -/
def State.tolWrite (s : State) (cluster : Option Nat) (v : W64) : State :=
  match cluster with
  | none => s.writeReg Key.pwrPkgtol v
  | some k => (List.range 4).foldl (fun s i => s.capPower (4 * k + i)) (s.writeReg (Key.pwrCtol k) v)

/-- TOLERANCE_WRITE (17 R573): PWR_PKGTOL lies in the secure half. -/
def execToleranceWrite (cluster : Option Nat) (w : Writer) (v : W64) (s : State) : Out :=
  match cluster with
  | none => if w.secure then .next (s.tolWrite none v) else .next s
  | some k => if 12 ≤ k then .fault .noSuchUnit else .next (s.tolWrite (some k) v)

/-! ## Clocks (17 R562, R576) -/

/-- The fused maximum in MHz (01 R20). -/
def State.fmax (s : State) : Nat := 400 + 200 * bits s.keyw.devid 19 16

/-- The thermal limit of a cluster. -/
def State.thermalLimit (s : State) (k : Nat) : Nat := tget s.fmax s.sett.limit k

/-- The effective clock (17 R562); a cluster that is off or not yet powered has none. -/
def State.effClock (s : State) (k : Nat) : Nat :=
  if (s.cluster k).off || !(s.cluster k).up then 0 else min (s.rf (Key.pwrCstat k) 47 32) (s.thermalLimit k)

/-- The voltage of a cluster in mV (17 R562): what trim gives for its effective clock, to which Sett raises it before a raise and lowers it
after a lower. -/
def State.clusterVolt (s : State) (k : Nat) : Nat :=
  if s.effClock k = 0 then 0 else Config.trimVolt s.keyw.trim (s.effClock k)

/-! ## The PWR_ page (17 R574) -/

def State.pwrWrite (s : State) (w : Writer) (k : Nat) (v : W64) : Option State :=
  if k = Key.pwrCwake then some (s.cwakeWrite w v)
  else if k = Key.pwrPkgtol then some (s.tolWrite none v)
  else if k = Key.pwrWakevec then some (if bit v 0 then s else s.writeReg k v)
  else (regIdx (Key.pwrCtol 0) 0x10 12 k).map (fun n => s.tolWrite (some n) v)

def State.pwrView (s : State) (k : Nat) : List (Nat × Nat × Nat) :=
  match regIdx (Key.pwrCstat 0) 0x10 12 k with
  | some n =>
    let st (i : Nat) : Nat := if (s.cluster n).off then 3 else match (s.core (4 * n + i)).pwr with | .c0 => 0 | .c1 => 1 | .c2 => 2
    [(63, 48, s.effClock n), (15, 0, st 0 + 16 * st 1 + 256 * st 2 + 4096 * st 3)]
  | none => []

end Sys2Proof.Machine
end

