-- ==== Sys2Proof/Machine/BadgerIsland.lean ====
section
/-! DEFINITION. The Badger island: supervision, the safe state, comparison channels, the Core Rotation Test, and way retirement
(18 R582 to R598, R607, R608, R610). -/

namespace Sys2Proof.Machine

def State.setBdg (s : State) (b : Badger) : State := { s with bdg := b }

/-! ## The safe state (18 R586 to R590) -/

/-- The safe state is in force. -/
def State.safe (s : State) : Bool := s.rb Key.bdgStat 63

/-- The initial safe state is in force. -/
def State.initSafe (s : State) : Bool := s.rb Key.bdgStat 62

/-- SAFE_STATE is asserted (16 R527, R533; 17 R565; 18 R586). -/
def State.safeBall (s : State) : Bool := s.aon.inReset || s.safe || s.boot.shut

/-- The island forces the safe state: every gate channel goes off, the ports stop, and the first cause is recorded (18 R586, R588,
R590). -/
def State.forceSafe (s : State) (cause detail : Nat) : State :=
  if s.safe && !s.initSafe then s
  else
    let s1 := (((s.setRf Key.bdgStat 63 63 1).setRf Key.bdgStat 62 62 0).setRf Key.bdgStat 55 48 cause).setRf Key.bdgStat 47 32 detail
    s1.assertBdg.pairSafe

/-- LOCKSTEP_MISMATCH (18 R582). -/
def execLockstepMismatch (s : State) : Out := outOfReset s (.next (s.forceSafe 0x01 0))

/-- CLOCK_MONITOR_FAIL (18 R583, R590). -/
def execClockMonitorFail (clock : Nat) (s : State) : Out :=
  if 16 ≤ clock then .fault .noSuchUnit else outOfReset s (.next (s.forceSafe 0x02 clock))

/-- SETT_HEARTBEAT (01 R25, 18 R588). -/
def execSettHeartbeat (s : State) : Out := outOfReset s (.next (s.setBdg { s.bdg with settAlive := true }))

/-- SETT_HEARTBEAT_TIMEOUT (07 R258 entry 10, 18 R583). -/
def execSettHeartbeatTimeout (s : State) : Out :=
  outOfReset s (.next (((s.setBdg { s.bdg with settAlive := false }).raise 410 0).forceSafe 0x03 0))

/-- A thread is held by a wait that an entry of the timeout hierarchy bounds (18 R584): for a mesh response or a page of untagged memory, for
an MMIO answer, in a fence, or for a line or a walk of its code. -/
def State.boundedWait (s : State) (t : Nat) : Bool :=
  let th := s.thr t
  let c := s.core (t / 16)
  th.stall.isSome || th.extReq.isSome || th.mmioW.isSome || c.walks.any (fun w => w.tid == t) || c.mshr.any (fun m => m.thr.contains t)

/-- A core may send its heartbeat: it has issued, or has no ACTIVE thread, or each that issued nothing is held by a bounded wait (18
R584). -/
def State.beats (s : State) (c : Nat) : Bool :=
  (coreThreads c).any (fun t => (s.thr t).issued) || (coreThreads c).all (fun t => (s.thr t).st != .active || s.boundedWait t)

/-- The island's deadline of a core runs: its cluster is powered, and it is neither in C2 or C3 nor FENCED nor lost (18 R584, R585). -/
def State.beatRuns (s : State) (c : Nat) : Bool :=
  s.clusterOn (c / 4) && (s.core c).pwr != .c2 && !(s.core c).fenced && !(s.bdg.lost.contains c)

/-- CORE_HEARTBEAT (01 R25, 18 R584): a core that may send it does, which restarts its deadline. -/
def execCoreHeartbeat (core : Nat) (s : State) : Out :=
  if 48 ≤ core then .fault .noSuchUnit
  else if !(s.beatRuns core && s.beats core) then .next s
  else
    let s1 := s.setBdg { s.bdg with beat := tput s.bdg.beat core s.aon.ns }
    .next ((coreThreads core).foldl (fun s t => s.modThr t (fun th => { th with issued := false })) s1)

/-- A deadline runs for the cores whose report says so; one that begins to run starts now (18 R584). -/
def State.beatTick (s : State) : State :=
  s.setBdg { s.bdg with beat := ((List.range 48).filter (fun c => s.beatRuns c)).map (fun c => (c, (tfind s.bdg.beat c).getD s.aon.ns)) }

/-- The core's bit in BDG_CORESAFE. -/
def State.coreSafe (s : State) (c : Nat) : Bool := s.rb Key.bdgCoresafe c

/-- The 2 ms of entry 9 have passed since the core's deadline was restarted (07 R258). -/
def State.beatDue (s : State) (c : Nat) : Bool :=
  match tfind s.bdg.beat c with
  | some t => decide (t + 2000000 ≤ s.aon.ns)
  | none => false

/-- CORE_HEARTBEAT_TIMEOUT (07 R258 entry 9; 18 R584, R585; 15 R499). -/
def execCoreHeartbeatTimeout (core : Nat) (s : State) : Out :=
  if 48 ≤ core then .fault .noSuchUnit
  else if !(s.beatRuns core && s.beatDue core) then .next s
  else
    let s1 := (s.setBdg { s.bdg with lost := core :: s.bdg.lost }).raise 409 0
    if s1.coreSafe core then .next (s1.forceSafe 0x04 core)
    else .next ((s1.fenceCore core (fun x => { x with lost := true })).failCore core)

/-- CACHE_ERROR_REPORT (09 R315, 18 R583): the report that a cache put on the supervision bus. -/
def execCacheErrorReport (stop : Nat) (s : State) : Out :=
  if s.bdg.cacheErr.contains stop then .next ((s.setBdg { s.bdg with cacheErr := s.bdg.cacheErr.erase stop }).forceSafe 0x06 stop) else .next s

/-- MEM_ERROR_REPORT (01 R25; 10 R360; 18 R583): of what a channel has put on the supervision bus the counts of corrections and marks and
n of the reports of an uncorrectable error arrive; these are counted in windows of 1 s (log 54). -/
def execMemErrorReport (channel n : Nat) (s : State) : Out :=
  if 4 ≤ channel then .fault .noSuchUnit
  else
    let r := tget {} s.dram.bus channel
    let got := min n r.uncorr
    let win := s.aon.ns / 10 ^ 9
    let c := (if win = s.bdg.memWin then s.bdg.memCount else 0) + got
    let s1 := { s.setBdg { s.bdg with memWin := win, memCount := c } with
      dram := { s.dram with bus := tset {} s.dram.bus channel { uncorr := r.uncorr - got } } }
    .next (if s.rf Key.bdgCfg 15 0 < c then s1.forceSafe 0x07 channel else s1)

/-- MEM_REPORT_MISSING (18 R583). -/
def execMemReportMissing (channel : Nat) (s : State) : Out :=
  if 4 ≤ channel then .fault .noSuchUnit
  else if s.dram.up && s.dram.retired != some channel then .next (s.forceSafe 0x08 channel) else .next s

/-- OVER_TEMPERATURE_REPORT (17 R577, 18 R583): the report that Sett sent. -/
def execOverTemperatureReport (sensor : Nat) (s : State) : Out :=
  if s.sett.report.contains sensor then
    .next ({ s with sett := { s.sett with report := s.sett.report.erase sensor } }.forceSafe 0x09 sensor)
  else .next s

/-- VOLTAGE_SAMPLE (18 R583, R609): what lies outside its window, rails by index and clusters from 0x100, in two samples. -/
def execVoltageSample (outside : List Nat) (s : State) : Out :=
  let both := outside.filter (fun x => s.bdg.volt.contains x)
  let s1 := s.setBdg { s.bdg with volt := outside }
  outOfReset s (match both with
    | [] => .next s1
    | x :: r => .next (s1.forceSafe 0x0A (r.foldl min x)))

/-- A write of BDG_RELEASE (18 R588). -/
def State.badgerRelease (s : State) (v : W64) : State :=
  if bits v 15 0 = 0x5AFE ∧ s.initSafe ∧ s.rf Key.bdgStat 55 48 = 0x0F ∧ s.bdg.selfTest ∧ s.bdg.settAlive ∧ s.boot.tested ∧ s.ready then
    let s1 := (s.setRf Key.bdgStat 63 63 0).setRf Key.bdgStat 62 62 0
    { s1 with cio := { s1.cio with inhBdg := false } }.releaseHolds
  else s

/-- BADGER_RELEASE (18 R588): only the monitor writes the secure half (R610). -/
def execBadgerRelease (w : Writer) (v : W64) (s : State) : Out :=
  if w.secure && w.lvl == 3 then .next (s.badgerRelease v) else .next s

/-! ## Comparison channels (18 R591 to R594) -/

/-- Some gate unit is RUN or ARMED. -/
def State.anyGate (s : State) : Bool := (List.range 16).any (fun u => s.guBusy u)

/-- A channel's open round is given up. -/
def State.closeRound (s : State) (n : Nat) : State := s.setBdg { s.bdg with rounds := tdel s.bdg.rounds n }

/-- A round of channel n fails (18 R592, R593): kind 1 mismatch, 2 missing, 3 sequence. -/
def State.chanFail (s : State) (n kind : Nat) : State :=
  let s1 := ((s.closeRound n).setRf (Key.bdgChstat n) 63 63 1).setRf (Key.bdgChstat n) 62 61 kind
  if s1.rb (Key.bdgChcfg n) 62 then s1.trip (BitVec.ofNat 16 (s1.rf (Key.bdgChcfg n) 47 32)) else s1.forceSafe 0x05 n

/-- A write to a port of a channel (18 R591, R592): none where it receives an error response. -/
def State.portWrite (s : State) (n : Nat) (portB : Bool) (tid : Nat) (v : W64) : Option State :=
  let r := tfind s.bdg.rounds n
  let tids := match r with
    | some r => (r.tidA, r.tidB)
    | none => (s.rf (Key.bdgChtid n) 25 16, s.rf (Key.bdgChtid n) 9 0)
  if !(s.rb (Key.bdgChcfg n) 63) || tid != (if portB then tids.2 else tids.1) then none
  else if s.rb (Key.bdgChstat n) 63 then some s
  else match r with
    | none => some (s.setBdg { s.bdg with rounds := tput s.bdg.rounds n { portB := portB, value := v, tidA := tids.1, tidB := tids.2 } })
    | some r =>
      some (if r.portB = portB then s.chanFail n 3
        else if r.value = v then (s.closeRound n).count (Key.bdgChstat n) 31 0 1
        else s.chanFail n 1)

/-- CHANNEL_PORT_WRITE (18 R591, R592). -/
def execChannelPortWrite (n : Nat) (portB : Bool) (tid : Nat) (v : W64) (s : State) : Out :=
  if 32 ≤ n then .fault .noSuchUnit else .next ((s.portWrite n portB tid v).getD s)

/-- CHANNEL_WINDOW_EXPIRY (18 R592). -/
def execChannelWindowExpiry (n : Nat) (s : State) : Out :=
  if 32 ≤ n then .fault .noSuchUnit
  else match tfind s.bdg.rounds n with
    | some _ => .next (s.chanFail n 2)
    | none => .next s

/-- CHANNEL_PERIOD_EXPIRY (18 R592): an enabled channel that has not failed. -/
def execChannelPeriodExpiry (n : Nat) (s : State) : Out :=
  if 32 ≤ n then .fault .noSuchUnit
  else if s.rb (Key.bdgChcfg n) 63 && !(s.rb (Key.bdgChstat n) 63) then .next (s.chanFail n 2) else .next s

/-- A write of 1 to CHSTAT.FAIL (18 R593). -/
def State.chanClear (s : State) (n : Nat) : State :=
  let units := s.rf (Key.bdgChcfg n) 47 32
  if (List.range 16).any (fun u => (units / 2 ^ u) % 2 == 1 && s.guBusy u) then s else s.setRf (Key.bdgChstat n) 63 63 0

/-- CHANNEL_FAIL_CLEAR (18 R593). -/
def execChannelFailClear (n : Nat) (s : State) : Out := if 32 ≤ n then .fault .noSuchUnit else .next (s.chanClear n)

/-- A configuration write was refused (18 R594, R608). -/
def State.cfgRefused (s : State) : State := s.setRf Key.bdgStat 0 0 1

/-- A pair of threads that BDG_CHTID accepts (18 R591). -/
def tidsOk (a b : Nat) : Bool := decide (a ≤ 767) && decide (b ≤ 767) && a / 16 != b / 16

/-- The value that a field of BDG_CHTID takes: a thread above 767 keeps the old one (00 R5, 18 R591). -/
def tidField (old v : Nat) : Nat := if 767 < v then old else v

/-- A write of BDG_CHTID n (18 R591, R594): a reserved field keeps its value, and two threads of one core change neither. -/
def State.chtidWrite (s : State) (n : Nat) (v : W64) : State :=
  let k := Key.bdgChtid n
  let a := tidField (s.rf k 25 16) (bits v 25 16)
  let b := tidField (s.rf k 9 0) (bits v 9 0)
  let one := (a != s.rf k 25 16) != (b != s.rf k 9 0)
  if s.anyGate && !(s.rb (Key.bdgChcfg n) 63 && one && a / 16 != b / 16) then s.cfgRefused
  else if tidsOk a b then s.writeReg k (setBits (setBits v 25 16 a) 9 0 b) else s

/-- BDG_CHTID_WRITE (18 R594): the monitor writes (R610). -/
def execBdgChtidWrite (w : Writer) (n : Nat) (v : W64) (s : State) : Out :=
  if 32 ≤ n then .fault .noSuchUnit
  else if w.secure && w.lvl == 3 then .next (s.chtidWrite n v) else .next s

/-- A write of BDG_CHCFG n (18 R592, R594): a change of EN ends an open round. -/
def State.chcfgWrite (s : State) (n : Nat) (v : W64) : State :=
  let k := Key.bdgChcfg n
  if s.anyGate && s.rb k 63 then s.cfgRefused
  else
    let s1 := s.writeReg k v
    if s1.rb k 63 == s.rb k 63 then s1 else s1.closeRound n

/-! ## The Core Rotation Test (18 R595 to R598) -/

/-- Software event EVT is raised (18 R595 to R598). -/
def State.raiseEvt (s : State) : State :=
  let e := s.rf Key.bdgCrtctl 9 0
  if e = 0 then s else s.raise e 0

/-- The core of the next slot: one of a woken cluster, then the next in order (18 R595, R598). -/
def Badger.nextCore (b : Badger) : Nat × Badger :=
  match b.woken with
  | c :: r => (c, { b with woken := r })
  | [] => (b.crtNext, { b with crtNext := (b.crtNext + 1) % 48 })

/-- CRT_SLOT_START (18 R595, R604): the slot's core is announced; the postponed cores are retried in this slot before it (log 101). -/
def execCrtSlotStart (s : State) : Out :=
  if !(s.rb Key.bdgCrtctl 63) || s.scrap || !s.bdg.slot.isEmpty || s.bdg.test.isSome then .next s
  else
    let (c, b) := s.bdg.nextCore
    .next ((({ s with bdg := { b with slot := b.postponed.erase c ++ [c], postponed := [] } }).setRf Key.bdgCrtstat 61 56 c).raiseEvt)

/-- The conditions under which a core is tested (18 R595). -/
def State.crtAllowed (s : State) (c : Nat) : Bool :=
  bits (s.core c).corectl 31 16 == 0 && !(s.cluster (c / 4)).off && !(s.bdg.lost.contains c) &&
  (List.range 32).all (fun n => !(s.rb (Key.bdgChcfg n) 63) ||
    (s.rf (Key.bdgChtid n) 25 16 / 16 != c && s.rf (Key.bdgChtid n) 9 0 / 16 != c))

/-- CRT_TEST_START (18 R595, R596, R604): a core that fails a condition is postponed; the fence waits as that of CORE_FENCE does. -/
def execCrtTestStart (s : State) : Out :=
  match s.bdg.slot with
  | [] => .next s
  | c :: r =>
    if s.scrap || s.bdg.test.isSome then .next s
    else if !(s.crtAllowed c) then .next (s.setBdg { s.bdg with slot := r, postponed := s.bdg.postponed ++ [c] })
    else if !(s.core c).fenced && !(s.fenceReady c) then .next s
    else .next ((s.setBdg { s.bdg with slot := r, test := some c }).fenceCore c (fun x => { x with fencedCrt := true, pwr := .c0 }))

/-- CRT_TEST_END (18 R596, R597; 08 R287; 15 R498, R499). -/
def execCrtTestEnd (pass : Bool) (s : State) : Out :=
  match s.bdg.test with
  | none => .next s
  | some c =>
    let s1 := s.setBdg { s.bdg with test := none }
    if pass then
      .next ((s1.setRf Key.bdgCrtstat c c 0).unfenceCore c (fun x => { x with fencedCrt := false, l1d := [], l1i := [] }))
    else
      let s2 := ((s1.modCore c (fun x => { x with fencedCrt := false, crtFailed := true })).setRf Key.bdgCrtfail c c 1).raiseEvt
      let s3 := (s2.logEvent 0x09 (1 + 256)).failCore c
      .next (if s3.coreSafe c then s3.forceSafe 0x0B c else s3)

/-- CRT_LAPSE (18 R598). -/
def execCrtLapse (core : Nat) (s : State) : Out :=
  if 48 ≤ core then .fault .noSuchUnit
  else if (s.cluster (core / 4)).off || !(s.cluster (core / 4)).up then .next s
  else
    let s1 := (s.setRf Key.bdgCrtstat core core 1).raiseEvt
    .next (if s1.rb Key.bdgCfg 63 then s1.forceSafe 0x0C core else s1)

/-! ## Way retirement (18 R607) -/

/-- A write of L3_WAYRET of a slice. -/
def State.wayRetire (s : State) (slice : Nat) (v : W64) : State :=
  let k := Key.l3Wayret slice
  let nw := s.reg k ||| (v &&& 0xFFFF)
  if 4 < popCount (BitVec.ofNat 16 (bits nw 15 0)) || (List.range 16).any (fun w => bit v w && s.scratchWay slice w) then s
  else if bits nw 15 0 = bits (s.reg k) 15 0 then s
  else (s.setReg k nw).setRf k 63 63 1

/-- WAY_RETIRE (18 R607): the secure half of the page. -/
def execWayRetire (w : Writer) (slice : Nat) (v : W64) (s : State) : Out :=
  if 12 ≤ slice then .fault .noSuchUnit
  else if w.secure then .next (s.wayRetire slice v) else .next s

/-- WAY_RETIRE_DONE (18 R607): dirty lines go to DRAM and the ways are empty. -/
def execWayRetireDone (slice : Nat) (s : State) : Out :=
  if 12 ≤ slice then .fault .noSuchUnit
  else if s.rb (Key.l3Wayret slice) 63 then
    .next ((s.l3EvictWays slice (fun w => s.retiredWay slice w)).setRf (Key.l3Wayret slice) 63 63 0)
  else .next s

/-! ## The BDG_ page (18 R608, R610) -/

/-- Writes of the BDG_ page other than to channel ports; only the monitor writes the secure half. -/
def State.bdgWrite (s : State) (w : Writer) (k : Nat) (v : W64) : Option State :=
  let monitor := w.secure && w.lvl == 3
  if k = Key.bdgCfg ∨ k = Key.bdgCoresafe ∨ k = Key.bdgCrtctl then
    some (if !monitor then s else if s.anyGate then s.cfgRefused else s.writeReg k v)
  else if k = Key.bdgRelease then some (if monitor then s.badgerRelease v else s)
  else match regIdx (Key.bdgChcfg 0) 0x20 32 k, regIdx (Key.bdgChtid 0) 0x20 32 k, regIdx (Key.bdgChstat 0) 0x10 32 k with
    | some n, _, _ => some (if monitor then s.chcfgWrite n v else s)
    | _, some n, _ => some (if monitor then s.chtidWrite n v else s)
    | _, _, some n => some (if bit v 63 then s.chanClear n else s)
    | _, _, _ => none

end Sys2Proof.Machine
end

