-- ==== Sys2Proof/Machine/SettCtl.lean ====
section
/-! DEFINITION. Sett: mailboxes, commands, thermal control and the event log (17 R551 to R569, R575 to R580; 15 R515 to R520; 18 R599 to
R605; 09 R327). -/

namespace Sys2Proof.Machine

/-! ## Mailboxes (17 R551 to R556) -/

def State.setSett (s : State) (x : Sett) : State := { s with sett := x }

def State.mbx (s : State) (m : Nat) : Mbx := tget {} s.sett.mb m

def State.setMbx (s : State) (m : Nat) (x : Mbx) : State := s.setSett { s.sett with mb := tset {} s.sett.mb m x }

/-- The base of a mailbox in the SETT_ page (17 R552); mailbox 8 has the register space of the management port, which lies in no
page: it is kept above the MMIO window's offsets (log 53). -/
def mbBase (m : Nat) : Nat := if m < 4 then 0x8000 + 0x1000 * m else if m < 8 then 0x1000 * (m - 4) else 0x10000000

def mbReq (m w : Nat) : Nat := mbBase m + 16 * w
def mbRsp (m w : Nat) : Nat := mbBase m + 0x200 + 16 * w
def mbCtl (m : Nat) : Nat := mbBase m + 0x400
def mbCmpl (m : Nat) : Nat := mbBase m + 0x410

/-- The mailbox's source, with bit 0 for a reply and bit 1 for a completion (17 R551); mailbox 8 has none: as an I3C target the port has
an in-band interrupt pending (17 R558). -/
def State.mbSignal (s : State) (m : Nat) (d : Data) : State :=
  if m < 8 then s.raise (376 + m) d else s.setSett { s.sett with ibi := !s.boot.mgmtSpi }

/-- DONE or CDONE of mailbox 8 is 1. -/
def State.mgmtDone (s : State) : Bool := s.rb (mbCtl 8) 2 || s.rb (mbCtl 8) 4

/-- The level of MGMT_IRQ_N (17 R558): low while the SPI port has a reply or a completion. -/
def State.mgmtIrqN (s : State) : Bool := !(s.boot.mgmtSpi && s.mgmtDone)

/-- The address at which the I3C port answers: its dynamic one once it has one, else the static one (17 R558). -/
def State.i3cAddress (s : State) : BitVec 7 := s.sett.i3cAddr.getD 0x5A

/-- A read through the management port (17 R552, R558): the registers of mailbox 8 at their offsets, 0 elsewhere. -/
def State.mgmtRead (s : State) (off : Nat) : W64 :=
  if off % 16 = 0 ∧ off < 0x420 then s.reg (mbBase 8 + off) else 0

/-- A write of GO (17 R553). -/
def State.mbSubmit (s : State) (m : Nat) : State :=
  if s.rb (mbCtl m) 1 || s.rb (mbCtl m) 2 then s
  else (s.setRf (mbCtl m) 1 1 1).setMbx m
    { (s.mbx m) with words := (List.range 32).map (fun w => s.reg (mbReq m w)), waiting := true, late := false }

/-- MAILBOX_SUBMIT (17 R553). -/
def execMailboxSubmit (m : Nat) (s : State) : Out :=
  if 9 ≤ m then .fault .noSuchUnit else if s.aon.inReset then .next s else .next (s.mbSubmit m)

/-- A write of a mailbox register: request words are ignored while BUSY is 1; SETT_MBCTL clears what it names and submits (17 R552,
R553), and with DONE and CDONE of mailbox 8 its in-band interrupt (log 53). -/
def State.mbWrite (s : State) (m off : Nat) (v : W64) : State :=
  if off < 0x200 ∧ off % 16 = 0 then (if s.rb (mbCtl m) 1 then s else s.setReg (mbBase m + off) v)
  else if off = 0x400 then
    let s1 := if bit v 0 then s.mbSubmit m else s
    let s2 := s1.setReg (mbCtl m) (s1.reg (mbCtl m) &&& ~~~ (v &&& 0x14))
    if m = 8 ∧ !s2.mgmtDone then s2.setSett { s2.sett with ibi := false } else s2
  else s

/-- The reply header (17 R559). -/
def replyHeader (w0 : W64) (status len : Nat) : W64 :=
  BitVec.ofNat 64 (bits w0 15 0 + len * 2 ^ 16 + bits w0 31 24 * 2 ^ 24 + status * 2 ^ 32)

/-- A reply is posted; one that comes after its deadline is discarded and counted (17 R553, R554, R559). -/
def State.mbReply (s : State) (m status : Nat) (payload : List W64) : State :=
  let x := s.mbx m
  let w0 := x.words.headD 0
  let s1 := s.setMbx m { x with waiting := false, late := false }
  if x.late then s1.count Key.settLate 31 0 1
  else
    let ws := if status = 0 then payload else []
    let s2 := (List.range ws.length).foldl (fun s i => s.setReg (mbRsp m (i + 1)) (ws.getD i 0)) s1
    let s3 := s2.setReg (mbRsp m 0) (replyHeader w0 status ws.length)
    ((s3.setRf (mbCtl m) 1 1 0).setRf (mbCtl m) 2 2 1).mbSignal m 1

/-- MAILBOX_TIMEOUT (17 R554, 07 R258). -/
def execMailboxTimeout (m : Nat) (s : State) : Out :=
  if 9 ≤ m then .fault .noSuchUnit
  else
    let x := s.mbx m
    if !x.waiting || x.late then .next s
    else
      let w0 := x.words.headD 0
      let s1 := (s.setMbx m { x with late := true }).setReg (mbRsp m 0) (replyHeader w0 0x0D 0)
      let s2 := ((s1.setRf (mbCtl m) 1 1 0).setRf (mbCtl m) 2 2 1).mbSignal m 1
      .next ((s2.raise 407 0).logEvent 0x08 (m + bits w0 15 0 * 2 ^ 16))

/-- The next request that Sett serves: secure mailboxes, then mailbox 8, then normal ones (17 R556). -/
def State.settPick (s : State) : Option Nat :=
  let has (m : Nat) : Bool := (s.mbx m).waiting
  match ((List.range 4).map (fun i => 4 + (s.sett.lastS + 1 + i) % 4)).find? has with
  | some m => some m
  | none => if has 8 then some 8 else ((List.range 4).map (fun i => (s.sett.lastN + 1 + i) % 4)).find? has

/-- A mailbox has been served. -/
def State.settServed (s : State) (m : Nat) : State :=
  s.setSett (if m < 4 then { s.sett with lastN := m } else if m < 8 then { s.sett with lastS := m } else s.sett)

/-- What a command comes to: the machine, the status and the payload; none: it still waits for what it commands. -/
abbrev SettAnswer := Option (State × Nat × List W64)

/-- A request refused with BADARG: a DEBUG_UNLOCK that its mailbox may send has used up the challenge (17 R568). -/
def State.badArg (s : State) (opc m : Nat) (may : Bool) : State :=
  (if opc = 0x44 && may then s.setBoot { s.boot with challenge := none } else s).mbReply m 3 []

/-- A request of opcode opc from mailbox m is served in its turn: header and length are checked (17 R559, R560), the mailbox must be one
that may use it, and f acts on the parameter words. -/
def settServe (opc m : Nat) (who len : Nat → Bool) (f : List W64 → State → SettAnswer) (s : State) : Out :=
  if 9 ≤ m then .fault .noSuchUnit
  else
    let x := s.mbx m
    let w0 := x.words.headD 0
    if s.aon.inReset || s.settPick != some m || bits w0 15 0 != opc then .next s
    else
      let s1 := s.settServed m
      if bits w0 23 21 ≠ 0 ∨ bits w0 63 32 ≠ 0 then .next (s1.badArg opc m (who m))
      else if !who m then .next (s1.mbReply m 2 [])
      else if !len (bits w0 20 16) then .next (s1.badArg opc m true)
      else match f (x.words.drop 1) s with
        | none => .next s
        | some (s2, status, payload) => .next ((s2.settServed m).mbReply m status payload)

/-- The opcodes of 17 R561. -/
def settOpcodes : List Nat :=
  [0x01, 0x02, 0x03, 0x10, 0x11, 0x20, 0x30, 0x31, 0x32, 0x40, 0x41, 0x42, 0x43, 0x44, 0x50, 0x51, 0x52]

/-- A request with an undefined opcode is answered in its turn (17 R560); it has no row, so an idle step answers it. -/
def State.settIdle (s : State) : State :=
  match s.settPick with
  | none => s
  | some m =>
    let w0 := (s.mbx m).words.headD 0
    if s.aon.inReset || settOpcodes.contains (bits w0 15 0) then s
    else (s.settServed m).mbReply m (if bits w0 23 21 ≠ 0 ∨ bits w0 63 32 ≠ 0 then 3 else 2) []

/-- Which mailboxes the table allows. -/
def mbN (m : Nat) : Bool := m < 4
def mbS (m : Nat) : Bool := decide (4 ≤ m) && decide (m < 8)
def mbE (m : Nat) : Bool := m == 8

/-- A long command starts: ACCEPTED and CBUSY, or BUSY while one runs (17 R555). -/
def State.startLong (s : State) (m : Nat) (l : LongCmd) : SettAnswer :=
  some ((s.setMbx m { (s.mbx m) with long := some l }).setRf (mbCtl m) 3 3 1, 1, [])

def State.longBusy (s : State) (m : Nat) : Bool := (s.mbx m).long.isSome

/-- TAG of the request of a mailbox. -/
def State.mbTag (s : State) (m : Nat) : Nat := bits ((s.mbx m).words.headD 0) 31 24

/-! ## Buffers and signatures (17 R557, R566, R567) -/

/-- n bytes of a buffer parameter, or the status that refuses it (17 R557). -/
def State.settBuf (s : State) (m : Nat) (buf : W64) (n : Nat) : Except Nat (List Byte) :=
  if m = 8 then
    let o := bits buf 12 0
    if !(bit buf 63) || decide (8192 < o + n) then .error 3
    else .ok ((List.range n).map (fun i => tget 0#8 s.sett.stage (o + i)))
  else if bit buf 63 then .error 3
  else
    let a := bits buf 47 0
    match s.worldSpan (mbS m) a n with
    | none => .error 0x0B
    | some ws =>
      if ws.any (fun w => w.tag == Tag.poison) then .error 0x0B
      else .ok (((ws.flatMap (fun w => wordBytes w.data)).drop (a % 16)).take n)

/-- The bytes of the authorisation (17 R566). -/
def State.authLen (s : State) : Nat := if s.keyw.pq then 96 + 4627 else 96

/-- The authorisation of a message by the active bundle verifies (15 R515, 17 R566, R567); ECDSA signs the message's SHA-384. -/
def State.authOk (s : State) (msg auth : List Byte) : Bool :=
  let b := Config.activeBundle s.keyw.hash
  s.keyw.active.isSome && Config.ecdsaVerify (b.take 96) (sha384 msg) (auth.take 96) &&
  (!s.keyw.pq || Config.mldsaVerify (b.drop 96) msg (auth.drop 96))

/-- No authorisation is needed (15 R515, 17 R567). -/
def State.noAuth (s : State) (blank : Bool) : Bool :=
  (blank && s.boot.lcLate == 0) || (s.boot.lcLate == 1 && s.keyw.active.isNone)

/-- The n bytes of a number, least significant first. -/
def leBytes (n v : Nat) : List Byte := (beBytes n v).reverse

/-- A Keyward command runs in the device (17 R556). -/
def State.keywardBusy (s : State) : Bool :=
  s.sett.mb.any (fun (e : Nat × Mbx) => match e.2.long with | some l => [0x40, 0x41, 0x42].contains l.opc | none => false)

/-! ## Commands that reply at once (17 R561 to R565, R568, R569) -/

/-- GET_INFO (17 R561). -/
def execGetInfo (m : Nat) (s : State) : Out :=
  settServe 0x01 m (fun _ => true) (· == 0) (fun _ s =>
    some (s, 0, [BitVec.ofNat 64 (Config.firmwareVersion.toNat + m * 2 ^ 32 + s.boot.lcLate * 2 ^ 40),
                 BitVec.ofNat 64 (0x0F1D8048 * 2 ^ 32 + s.keyw.devid.toNat % 2 ^ 24 / 256 * 256)])) s

/-- The values that a telemetry object records (17 R579): a cluster's temperature, voltage, REQ, EFF and residencies; a core's error totals;
the last 8 resets; and the ms in each temperature band. -/
def State.telemetryHeld (s : State) (obj idx : Nat) : List Nat :=
  if obj = 2 then
    [s.rf (Key.thmTemp idx) 15 0, s.clusterVolt idx, s.rf (Key.pwrCstat idx) 47 32, s.effClock idx, tget 0 s.sett.resid (2 * idx),
     tget 0 s.sett.resid (2 * idx + 1)]
  else if obj = 3 then let c := s.core idx; [c.ipars, c.dpars, c.tlbPars, c.denCorrs]
  else if obj = 4 then s.aon.hist.flatMap (fun e => [e.1.toNat, e.2.toNat])
  else if obj = 6 then s.aon.bands.flatMap (fun e => [e.1, e.2 / 3600000])
  else []

/-- The millisecond count of an object's sample (17 R579): of this ms or this second, of the last reset, or for an object that is fixed,
of a sample that the spec does not name, free. -/
def State.sampleMs (s : State) (obj : Nat) : Nat :=
  if obj = 0 ∨ obj = 5 then bits (Config.freeValue s.fresh) 31 0
  else if obj = 4 then s.aon.exitMs
  else if obj = 6 then s.aonMs / 1000 * 1000
  else s.aonMs

/-- TLM_READ (17 R579): up to 30 words from word OFS, after the millisecond count of the sample. -/
def execTlmRead (m : Nat) (s : State) : Out :=
  settServe 0x02 m (fun _ => true) (· == 1) (fun p s =>
    let w := p.headD 0
    let obj := bits w 15 0
    let idx := bits w 31 16
    let ofs := bits w 47 32
    if 6 < obj ∨ (obj = 5 ∧ bits s.keyw.devid 23 20 ≠ 2) then some (s, 0x0C, [])
    else if (obj = 2 ∧ 12 ≤ idx) ∨ (obj = 3 ∧ 48 ≤ idx) then some (s, 3, [])
    else
      let n := min 30 (Config.telemetryWords obj - ofs)
      some ({ s with fresh := s.fresh + 1 }, 0,
        BitVec.ofNat 64 (s.sampleMs obj) :: (List.range n).map (fun i =>
          Config.telemetry obj idx (ofs + i) (s.telemetryHeld obj idx) (if obj = 0 ∨ obj = 4 ∨ obj = 5 then 0 else s.fresh)))) s

/-- EVLOG_READ (17 R580): up to 15 entries from the first one held that is not below the number requested. -/
def execEvlogRead (m : Nat) (s : State) : Out :=
  settServe 0x03 m (fun _ => true) (· == 1) (fun p s =>
    let first := bits (p.headD 0) 31 0
    let es := (s.aon.log.filter (fun e => decide (first ≤ e.seq))).take 15
    some (s, 0, es.flatMap (fun e => [BitVec.ofNat 64 (e.seq + e.code * 2 ^ 32), BitVec.ofNat 64 (e.ms + e.arg * 2 ^ 32)]))) s

/-- CLK_SET (17 R562, 00 R2). -/
def execClkSet (m : Nat) (s : State) : Out :=
  settServe 0x10 m (fun m => mbN m || mbS m) (· == 1) (fun p s =>
    let w := p.headD 0
    let mhz := bits w 31 16
    if mhz % 25 ≠ 0 ∨ mhz < 400 then some (s, 3, [])
    else if s.fmax < mhz then some (s, 6, [])
    else some ((List.range 12).foldl (fun s k => if bit w k then s.setRf (Key.pwrCstat k) 47 32 mhz else s) s, 0, [])) s

/-- CORE_FENCE (17 R563). -/
def execCoreFence (m : Nat) (s : State) : Out :=
  settServe 0x11 m mbS (· == 1) (fun p s =>
    let w := p.headD 0
    let c := bits w 5 0
    if 48 ≤ c then some (s, 3, [])
    else if bits (s.core c).corectl 31 16 ≠ 0 then some (s, 7, [])
    else if s.bdg.test = some c then some (s, 5, [])
    else if bit w 8 then
      if (s.core c).fencedCmd then some (s.unfenceCore c (fun x => { x with fencedCmd := false }), 0, []) else some (s, 7, [])
    else if (s.core c).fencedCmd then some (s, 0, [])
    else if !(s.core c).fenced && !(s.fenceReady c) then none
    else some (s.fenceCore c (fun x => { x with fencedCmd := true }), 0, [])) s

/-- CACHE_REINIT (09 R327, 17 R564): KIND in bits 1:0 and INDEX, which the table places over it, in bits 15:8 (log 58). -/
def execCacheReinit (m : Nat) (s : State) : Out :=
  settServe 0x20 m mbS (· == 1) (fun p s =>
    let w := p.headD 0
    let i := bits w 15 8
    match bits w 1 0 with
    | 0 =>
      if 48 ≤ i then some (s, 3, [])
      else if !(bit (s.core i).l1ctl 1 && bit (s.core i).l1ctl 5) then some (s, 7, [])
      else some (s.modCore i (fun x => { x with l1i := [], l1ctl := setBits x.l1ctl 5 5 0 }), 0, [])
    | 1 =>
      if 48 ≤ i then some (s, 3, [])
      else if !(bit (s.core i).l1ctl 0 && bit (s.core i).l1ctl 4) then some (s, 7, [])
      else some (s.modCore i (fun x => { x with l1d := [], l1ctl := setBits x.l1ctl 4 4 0 }), 0, [])
    | 2 =>
      if 12 ≤ i then some (s, 3, [])
      else if !(bit (s.cluster i).l2ctl 0 && bit (s.cluster i).l2ctl 1) then some (s, 7, [])
      else
        let held := (s.cluster i).l2.map (fun e => e.2.line)
        let lines := (s.dir.filter (fun (e : Nat × DirEntry) => bit e.2.presence i || held.contains e.1)).map (·.1)
        let s1 := s.modCluster i (fun k => { k with l2 := [], l2lock := setBits k.l2lock 31 16 0, l2ctl := setBits k.l2ctl 1 1 0 })
        let s2 := s1.modClusterCores i (fun c => { c with l1d := [], l1i := [] })
        some (lines.foldl (fun s line => s.dirRemove line i) s2, 0, [])
    | _ =>
      if 12 ≤ i then some (s, 3, [])
      else if !(s.rb (Key.l3Ctl i) 0 && s.rb (Key.l3Ctl i) 1) then some (s, 7, [])
      else
        let s1 := { s with l3 := s.l3.filter (fun (e : Nat × L3Line) => e.1 / 65536 != i) }
        let s2 := ((List.range s.scrReady).filter (fun k => k % 12 == i)).foldl (fun s k => s.clearUnits k (k + 1)) s1
        some (s2.setRf (Key.l3Ctl i) 1 1 0, 0, [])) s

/-- DEVICE_RESET (17 R565). -/
def execDeviceReset (m : Nat) (s : State) : Out :=
  settServe 0x30 m (fun m => mbS m || mbE m) (· == 1) (fun p s =>
    if p.headD 0 = 0x5253 then some (s.setBoot { s.boot with resetDue := true }, 0, []) else some (s, 3, [])) s

/-- DEBUG_CHALLENGE (15 R520, 17 R568). -/
def execDebugChallenge (m : Nat) (s : State) : Out :=
  settServe 0x43 m (fun m => mbS m || mbE m) (· == 0) (fun _ s =>
    let c := (Config.random s.fresh).toNat
    let s1 := { s with fresh := s.fresh + 1 }
    some (s1.setBoot { s1.boot with challenge := some (leBytes 32 c, s.aon.ns) }, 0,
      (List.range 4).map (fun i => BitVec.ofNat 64 (c / 2 ^ (64 * i))))) s

/-- DEBUG_UNLOCK (15 R520, 17 R568): the signature is over the challenge, KEYW_SERIAL and the world mask (log 57). -/
def execDebugUnlock (m : Nat) (s : State) : Out :=
  settServe 0x44 m (fun m => mbS m || mbE m) (· == 2) (fun p s =>
    let mask := bits (p.headD 0) 1 0
    let s1 := s.setBoot { s.boot with challenge := none }
    match s.boot.challenge with
    | none => some (s1, 7, [])
    | some (c, t) =>
      if t + 60 * 10 ^ 9 < s.aon.ns ∨ (mask % 2 = 1 ∧ s.debugLevel false ≠ 1) ∨ (mask / 2 = 1 ∧ s.debugLevel true ≠ 1) then
        some (s1, 7, [])
      else match s.settBuf m (p.getD 1 0) 96 with
        | .error e => some (s1, e, [])
        | .ok sig =>
          let msg := c ++ leBytes 8 s.keyw.serial.toNat ++ [BitVec.ofNat 8 mask]
          if s.keyw.active.isSome && Config.ecdsaVerify ((Config.activeBundle s.keyw.hash).take 96) (sha384 msg) sig then
            some (s1.setBoot { s1.boot with unlocked := s1.boot.unlocked ||| BitVec.ofNat 2 mask }, 0, [])
          else some (s1, 8, [])) s

/-- STAGE_WRITE (17 R569). -/
def execStageWrite (m : Nat) (s : State) : Out :=
  settServe 0x50 m mbE (fun n => decide (1 ≤ n)) (fun p s =>
    let n := bits ((s.mbx m).words.headD 0) 20 16 - 1
    let off := (p.headD 0).toNat
    if off % 8 ≠ 0 ∨ 8192 < off + 8 * n then some (s, 3, [])
    else
      let bs := ((p.drop 1).take n).flatMap (fun w => leBytes 8 w.toNat)
      let st := (List.range bs.length).foldl (fun t i => tset 0#8 t (off + i) (bs.getD i 0)) s.sett.stage
      some (s.setSett { s.sett with stage := st }, 0, [])) s

/-- Pairs of 64-bit words, low half first. -/
def pairWords : List W64 → List Data
  | a :: b :: r => BitVec.ofNat 128 (a.toNat + b.toNat * 2 ^ 64) :: pairWords r
  | _ => []

/-- IMG_WRITE (17 R569). -/
def execImgWrite (m : Nat) (s : State) : Out :=
  settServe 0x51 m mbE (fun n => decide (3 ≤ n) && n % 2 == 1) (fun p s =>
    let n := bits ((s.mbx m).words.headD 0) 20 16 - 1
    let off := (p.headD 0).toNat
    if off % 16 ≠ 0 ∨ 2 ^ 22 ≤ off then some (s, 3, [])
    else if !s.recoveryWait then some (s, 7, [])
    else
      let ws := pairWords ((p.drop 1).take n)
      let mem := (List.range ws.length).foldl (fun m i => m.setWord ((sramBase + off) / 16 + i) { data := ws.getD i 0, tag := Tag.bits }) s.mem
      some ({ s with mem := mem }, 0, [])) s

/-! ## Long commands (17 R555, R561, R565 to R567, R569; 18 R605) -/

/-- SHUTDOWN (17 R565, 18 R599): pass is the outcome of the self-test. -/
def execShutdown (m : Nat) (pass : Bool) (s : State) : Out :=
  settServe 0x31 m (fun m => mbS m || mbE m) (· == 0) (fun _ s =>
    if s.longBusy m then some (s, 5, [])
    else if s.anyGate || (List.range 8).any (fun p => s.rb (Key.rlkCtl p) 63) then some (s, 7, [])
    else s.startLong m { opc := 0x31, tag := s.mbTag m, result := b2n (!pass) }) s

/-- An entry of a test program names a target (18 R605): its fields are in range. -/
def bistEntryOk (w : Data) : Bool :=
  let i := bits w 13 8
  (bits w 1 0 == 0 && decide (i < 48) || bits w 1 0 == 1 && decide (i < 12) || bits w 1 0 == 2 && decide (i < 4)) &&
  decide (bits w 19 16 ≤ 2) && decide (1 ≤ bits w 31 24)

/-- The target of an entry is out of service (18 R605). -/
def State.bistTargetOut (s : State) (w : Data) : Bool :=
  let i := bits w 13 8
  match bits w 1 0 with
  | 0 => (s.core i).fenced
  | 1 => s.rb (Key.l3Ctl i) 0
  | _ => s.dram.retired == some i

/-- BIST_RUN (17 R565, 18 R604, R605): failed lists the entries that fail. -/
def execBistRun (m : Nat) (failed : List Nat) (s : State) : Out :=
  settServe 0x32 m (fun m => mbS m || mbE m) (· == 1) (fun p s =>
    let buf := p.headD 0
    if s.longBusy m then some (s, 5, [])
    else if !s.bistProgrammable then some (s, 4, [])
    else match s.settBuf m buf 16 with
      | .error e => some (s, e, [])
      | .ok w0 =>
        let n := bits (bytesWord w0) 5 0
        if n = 0 then some (s, 3, [])
        else match s.settBuf m buf (16 * (n + 1)) with
          | .error e => some (s, e, [])
          | .ok bs =>
            let es := packBytes (bs.drop 16)
            if !es.all bistEntryOk then some (s, 3, [])
            else if !es.all s.bistTargetOut then some (s, 7, [])
            else
              let bad := (List.range n).filter (fun i => failed.contains i)
              s.startLong m { opc := 0x32, tag := s.mbTag m, result := bad.length + bad.headD 0xFFFF * 2 ^ 16 }) s

/-- KEY_UPDATE (15 R515, 17 R566): the authorisation is verified and the new row programmed; the commit entry follows at the end. -/
def execKeyUpdate (m : Nat) (s : State) : Out :=
  settServe 0x40 m (fun m => mbS m || mbE m) (· == 7) (fun p s =>
    if s.longBusy m || s.keywardBusy then some (s, 5, [])
    else
      let hash := (List.range 6).foldl (fun a i => a + (p.getD i 0).toNat * 2 ^ (64 * i)) 0
      let gen := (match s.keyw.active with | some c => c.gen.toNat | none => 0) + 1
      let slotB := match s.keyw.active with | some c => !c.slotB | none => false
      let row := s.keyw.rowsUsed slotB
      let l : LongCmd := { opc := 0x40, tag := s.mbTag m, arg := row + 8 * b2n slotB, result := gen }
      let go (s : State) : SettAnswer :=
        if 8 ≤ row ∨ 16 ≤ s.keyw.commits.length then s.startLong m { l with status := 9, result := 0 }
        else
          let r : KeyRow := { hash := BitVec.ofNat 384 hash, gen := BitVec.ofNat 16 gen, complete := true, killed := false }
          { s with keyw := { s.keyw with rows := tput s.keyw.rows (row + 8 * b2n slotB) r } }.startLong m l
      if s.noAuth false then go s
      else match s.settBuf m (p.getD 6 0) s.authLen with
        | .error e => some (s, e, [])
        | .ok auth =>
          if s.authOk (leBytes 48 hash ++ leBytes 2 gen) auth then go s else s.startLong m { l with status := 8, result := 0 }) s

/-- CTR_ADVANCE (15 R516, 17 R566): the next row of the counter is written; it is complete at the end. -/
def execCtrAdvance (m : Nat) (s : State) : Out :=
  settServe 0x41 m mbS (· == 2) (fun p s =>
    let c := bits (p.headD 0) 3 0
    let v := (p.getD 1 0).toNat
    if s.longBusy m || s.keywardBusy then some (s, 5, [])
    else if v ≤ s.keyw.ctr c then some (s, 3, [])
    else if 256 ≤ s.keyw.ctrUsed c then some (s, 9, [])
    else { s with keyw := s.keyw.ctrStart c }.startLong m
      { opc := 0x41, tag := s.mbTag m, arg := c + 16 * v, result := s.keyw.ctrUsed c + 1 }) s

/-- The states to which a state may advance (15 R517). -/
def lcTargets (n : Nat) : List Nat := if n = 0 then [1, 4] else if n = 1 then [2, 4] else if n = 2 then [3, 4] else if n = 3 then [4] else []

/-- LC_ADVANCE (15 R518, 17 R567): the intention record, and for PROVISION the HUK, come first; the fuses follow at the end. -/
def execLcAdvance (m : Nat) (s : State) : Out :=
  settServe 0x42 m (fun m => mbS m || mbE m) (· == 2) (fun p s =>
    let t := bits (p.headD 0) 2 0
    if s.longBusy m || s.keywardBusy then some (s, 5, [])
    else if !(lcTargets s.boot.lcLate).contains t then some (s, 3, [])
    else if t = 2 ∧ s.keyw.active.isNone then some (s, 7, [])
    else
      let l : LongCmd := { opc := 0x42, tag := s.mbTag m, arg := t }
      let go (s : State) : SettAnswer :=
        let huk := if t = 1 then some (leBytes 32 (Config.random s.fresh).toNat) else s.keyw.huk
        { s with fresh := s.fresh + 1, keyw := { s.keyw with intent := some t, huk := huk } }.startLong m l
      if s.noAuth true then go s
      else match s.settBuf m (p.getD 1 0) s.authLen with
        | .error e => some (s, e, [])
        | .ok auth =>
          if s.authOk (leBytes 8 s.keyw.serial.toNat ++ [BitVec.ofNat 8 t]) auth then go s else s.startLong m { l with status := 8 }) s

/-- IMG_CHECK (16 R541, 17 R569). -/
def execImgCheck (m : Nat) (s : State) : Out :=
  settServe 0x52 m mbE (· == 0) (fun _ s =>
    if !s.recoveryWait then some (s, 7, [])
    else if s.longBusy m || s.boot.check.isSome then some (s, 5, [])
    else (s.setBoot { s.boot with check := some 2 }).startLong m { opc := 0x52, tag := s.mbTag m, ready := false }) s

/-- SHUTDOWN's end (17 R565; 18 R600, R601): the stamp, and every core held. -/
def State.shutdownEnd (s : State) (pass : Bool) : State :=
  let s1 := s.logBist pass
  let body := stampBody s1.aonMs (s1.keyw.ctr 15) s1.keyw.serial
  let s2 := match s1.keyw.stampMac body with
    | some mac =>
      if pass && s1.boot.lcLate != 0 && s1.boot.lcLate != 4 then
        let r := body ++ mac ++ List.replicate 16 0
        let f := (List.range 64).foldl (fun t i => tset 0xFF#8 t (stampOffset + i) (r.getD i 0)) s1.aon.flash
        s1.setAon { s1.aon with stamp := some r, flash := f }
      else s1.setAon { s1.aon with stamp := none }
    | none => s1.setAon { s1.aon with stamp := none }
  let s3 := (List.range 48).foldl (fun s c => s.modCore c (fun x => { x with released := false })) s2
  s3.setBoot { s3.boot with shut := true }

/-- What the end of a long command's work does. -/
def State.longEnd (s : State) (l : LongCmd) : State :=
  if l.status ≠ 0 then s
  else if l.opc = 0x31 then s.shutdownEnd (l.result == 0)
  else if l.opc = 0x32 then s.logBist (l.result % 2 ^ 16 == 0)
  else if l.opc = 0x40 then
    let e : CommitEntry := { slotB := decide (8 ≤ l.arg), row := l.arg % 8, gen := BitVec.ofNat 16 l.result, complete := true, killed := false }
    { s with keyw := { s.keyw with commits := s.keyw.commits ++ [e] } }
  else if l.opc = 0x41 then { s with keyw := s.keyw.ctrEnd (l.arg % 16) (l.arg / 16) }
  else if l.opc = 0x42 then
    { s with keyw := { s.keyw with lcFuses := 4 * l.arg } }.setBoot { s.boot with resetDue := true }
  else s

/-- A programming command ends with FUSE where a fuse of its row did not take: the row stays as it is, to be killed at the next reset
(15 R513, 17 R559, R566; log 84). -/
def State.fuseResult (s : State) (l : LongCmd) : State × LongCmd :=
  if l.status = 0 ∧ (l.opc = 0x40 ∨ l.opc = 0x41) then
    ({ s with fresh := s.fresh + 1 }, if Config.fuseFails s.fresh then { l with status := 0x0A, result := 0 } else l)
  else (s, l)

/-- LONG_COMMAND_COMPLETE (17 R555). -/
def execLongCommandComplete (m : Nat) (s : State) : Out :=
  if 9 ≤ m then .fault .noSuchUnit
  else match (s.mbx m).long with
    | none => .next s
    | some l =>
      if !l.ready then .next s
      else
        let (s0, l) := s.fuseResult l
        let s1 := s0.longEnd l
        let s2 := s1.setMbx m { (s1.mbx m) with long := none }
        let v := l.tag + l.status * 2 ^ 8 + l.opc * 2 ^ 16 + l.result % 2 ^ 32 * 2 ^ 32
        .next ((((s2.setReg (mbCmpl m) (BitVec.ofNat 64 v)).setRf (mbCtl m) 3 3 0).setRf (mbCtl m) 4 4 1).mbSignal m 2)

/-! ## Thermal control (17 R575 to R578) -/

/-- A reading is recorded in THM_TEMP (17 R578). -/
def State.recordTemp (s : State) (n : Nat) (r : Int) : State :=
  let v := BitVec.ofInt 16 r
  let k := Key.thmTemp n
  let old := signed 16 (s.rf k 31 16)
  let mx := if s.sett.maxSeen.contains n && decide (r ≤ old) then s.rf k 31 16 else v.toNat
  let s1 := (s.setRf k 15 0 v.toNat).setRf k 31 16 mx
  s1.setSett { s1.sett with maxSeen := if s1.sett.maxSeen.contains n then s1.sett.maxSeen else n :: s1.sett.maxSeen }

/-- The limit of one cluster after a sample: lowered or raised by 100 MHz (17 R576). -/
def State.adjustLimit (s : State) (k : Nat) (lower raise : Bool) : State :=
  let l := s.thermalLimit k
  let l1 := if lower then max (l - 100) (min l (s.rf (Key.thmFloor k) 15 0)) else if raise then min (l + 100) s.fmax else l
  s.setSett { s.sett with limit := tset s.fmax s.sett.limit k l1 }

/-- The mask of clusters that are limited. -/
def State.throttled (s : State) : Nat :=
  (((List.range 12).filter (fun k => decide (s.thermalLimit k < s.fmax))).map (2 ^ ·)).sum

/-- The telemetry counts of a sample's ms (17 R579): each cluster's residency, and the 5 °C band of the hottest sensor, from −60 °C. -/
def State.sampleTimes (s : State) (readings : Nat → Int) : State :=
  let add (t : Tab Nat) (k : Nat) : Tab Nat := tset 0 t k (tget 0 t k + 1)
  let hot := (List.range 16).foldl (fun m n => max m (readings n)) (readings 0)
  let s1 := s.setAon { s.aon with bands := add s.aon.bands ((hot + 480) / 40).toNat }
  s1.setSett { s1.sett with resid := (List.range 12).foldl (fun t k => add t (2 * k + b2n (s.cluster k).off)) s1.sett.resid }

/-- THERMAL_SAMPLE (17 R575 to R577, R579): readings of the 16 sensors in units of 0.125 °C. A sensor that reads 130 °C or more in this
sample and in the last is logged and reported once until it reads less (log 58). -/
def execThermalSample (readings : List Int) (s : State) : Out := outOfReset s (
  let rd (n : Nat) : Int := readings.getD n 0
  let s1 := (List.range 16).foldl (fun s n => s.recordTemp n (rd n)) s
  let tlim : Int := 8 * (s.rf Key.thmTlim 7 0 : Int)
  let cl := List.range 12
  let hi := cl.foldl (fun m k => max m (rd k)) (rd 0)
  let lo := cl.foldl (fun m k => min m (rd k)) (rd 0)
  let spread := if s.sett.spread then decide (20 * 8 < hi - lo) else decide (25 * 8 < hi - lo)
  let near (k : Nat) : Bool := spread && decide (hi - 2 * 8 ≤ rd k)
  let meets (k : Nat) : Bool := decide (tlim ≤ rd k) || near k
  let rtm (k : Nat) : Bool := (List.range 4).any (fun i => bits (s.core (4 * k + i)).corectl 31 16 != 0)
  let lower (k : Nat) : Bool := meets k && (!rtm k || s.sett.deferred.contains k)
  let raise (k : Nat) : Bool := !meets k && (if s.sett.spreadSet.contains k then !spread else decide (rd k ≤ tlim - 5 * 8))
  let s2 := cl.foldl (fun s k => s.adjustLimit k (lower k) (raise k)) s1
  let set := if spread then cl.filter (fun k => near k || s.sett.spreadSet.contains k)
    else s.sett.spreadSet.filter (fun k => decide (s2.thermalLimit k < s2.fmax))
  let s3 := s2.setSett { s2.sett with deferred := cl.filter (fun k => meets k && rtm k), spread := spread, spreadSet := set }
  let old := s.rf Key.thmStat 11 0
  let now := s3.throttled
  let s4 := (s3.setRf Key.thmStat 11 0 now).setRf Key.thmStat 12 12 (b2n spread)
  let s5 := if now &&& (4095 - old) = 0 then s4 else s4.logEvent 0x02 (now &&& (4095 - old))
  let s6 := if old &&& (4095 - now) = 0 then s5 else s5.logEvent 0x03 (old &&& (4095 - now))
  let hot := (List.range 16).filter (fun n => decide (130 * 8 ≤ rd n))
  let new := hot.filter (fun n => s.sett.hot.contains n && !(s.sett.crit.contains n))
  let s7 := s6.setSett { s6.sett with
    hot := hot, crit := new ++ s.sett.crit.filter (fun n => hot.contains n), report := s6.sett.report ++ new }
  .next ((new.foldl (fun s n => (s.setRf Key.thmStat 13 13 1).logEvent 0x04 n) s7).sampleTimes rd))

/-! ## The SETT_ and THM_ pages (17 R552, R573, R578) -/

/-- The mailbox to whose register an offset of the SETT_ page belongs, with the offset in it. -/
def mbAt (k : Nat) : Option (Nat × Nat) :=
  if k < 0x4000 then some (4 + k / 0x1000, k % 0x1000)
  else if 0x8000 ≤ k ∧ k < 0xC000 then some ((k - 0x8000) / 0x1000, k % 0x1000)
  else none

def State.settWrite (s : State) (k : Nat) (v : W64) : Option State :=
  match mbAt k with
  | some (m, off) => some (s.mbWrite m off v)
  | none => if k = Key.thmRtmin then some ((List.range 48).foldl (fun s c => s.capPower c) (s.writeReg k v)) else
    (regIdx (Key.thmFloor 0) 0x10 12 k).map (fun n =>
      let f := bits v 15 0
      if f % 25 = 0 ∧ 400 ≤ f ∧ f ≤ s.fmax then s.writeReg (Key.thmFloor n) v else s)

/-- What a read of THM_TEMP that covers MAX leaves besides clearing it. -/
def State.settRead (s : State) (k : Nat) (mask : BitVec 16) : State :=
  match regIdx (Key.thmTemp 0) 0x10 16 k with
  | some n => if !(bit mask 2) then s else s.setSett { s.sett with maxSeen := s.sett.maxSeen.filter (fun x => x != n) }
  | none => s

end Sys2Proof.Machine
end

