-- ==== Sys2Proof/Machine/Mmio.lean ====
section
/-! DEFINITION. The MMIO window as software reaches it (01 R16 to R19, R630; 03 R111; 09 R302): which pages and halves are open to a
world, what a read returns and leaves, what a write does, the answers that threads wait for, and the drain of the store
buffer. -/

namespace Sys2Proof.Machine

/-! ## Pages (01 R16, R17, R19; 07 R250; 09 R333; 10 R362; 11 R364; 12 R437; 13 R446, R448, R454, R466; 14 R489; 15 R512, R523; 16
R550; 17 R552, R574, R578; 18 R610) -/

/-- The offset of an address of the window, which begins at 0xF00000000000 and is 256 MiB (01 R15). -/
def mmioOff (pa : Nat) : Nat := pa % 2 ^ 28

/-- A block lies behind the page (01 R19). -/
def pageExists (p : Nat) : Bool :=
  decide (p < 8) || (decide (0x10 ≤ p) && decide (p < 0x14)) || (decide (0x20 ≤ p) && decide (p < 0x2C)) ||
  (decide (0x30 ≤ p) && decide (p < 0x37)) || (decide (0x40 ≤ p) && decide (p < 0x49)) ||
  (decide (0x50 ≤ p) && decide (p < 0x57)) || (decide (0x60 ≤ p) && decide (p < 0x63))

/-- The whole page is normal; every other page but EVR_ is split at offset 0x8000. -/
def pageNormal (p : Nat) : Bool :=
  p == 3 || p == 7 || (decide (0x30 ≤ p) && decide (p < 0x36)) || (decide (0x40 ≤ p) && decide (p < 0x49)) ||
  (decide (0x50 ≤ p) && decide (p < 0x56)) || p == 0x60

/-- The binding of a source is secure (07 R250). -/
def State.bindSecure (s : State) (n : Nat) : Bool := s.rb (Key.evrSecmap (n / 64)) (n % 64)

/-- The EVR_ page, register by register; an offset that no chapter names is open to no one (07 R250, 15 R495). Every secure thread may
read the map and the service table (log 78). -/
def State.evrOpen (s : State) (o : Nat) (sec : Bool) : Bool :=
  if 0x1000 ≤ o ∧ o < 0x5000 then sec || !(s.bindSecure ((o - 0x1000) / 16))
  else if (0x100 ≤ o ∧ o < 0x200) ∨ (0x6000 ≤ o ∧ o < 0x7000) then sec
  else o == 0x200 || o == 0x210 || o == 0x220

/-- An access of a world to an offset of the window gets past the page, with the mesh powered (01 R16, R17, R22). -/
def State.pageOpen (s : State) (k : Nat) (sec : Bool) : Bool :=
  let p := k / 0x10000
  let o := k % 0x10000
  if s.sett.c4 then false
  else if p = 6 then s.evrOpen o sec
  else pageExists p && (sec || pageNormal p || decide (0x8000 ≤ o))

/-! ## Writes with an effect of their own in the EVR_ and L3_ pages -/

/-- EVR_SWSET (07 R255); none for the refusal of a normal-world write. -/
def State.swset (s : State) (sec : Bool) (v : W64) : Option State :=
  let n := bits v 9 0
  if n < 512 then some s
  else if !sec && s.bindSecure n then none
  else some (s.raise n 0)

/-- Writes of the EVR_ page: the service table and the map of secure bindings take the monitor's alone (07 R255; 15 R495, R499). -/
def State.evrWrite (s : State) (w : Writer) (k : Nat) (v : W64) : Option State :=
  let o := k % 0x10000
  let monitor := w.secure && w.lvl == 3
  if o = 0x200 then s.swset w.secure v
  else if 0x100 ≤ o ∧ o < 0x200 then some (if monitor then s.writeReg k v else s)
  else if 0x6000 ≤ o ∧ o < 0x7000 then
    if !monitor then some s
    else
      let n := (o - 0x6000) / 16
      let s1 := s.writeReg k v
      some (if bit v 63 && bits v 9 0 == s.rf k 9 0 then s1 else s1.failWhere (fun r => r.s == n))
  else some (s.writeReg k v)

/-- L3_CTL of a slice: DIS and STALE, and the clean-line policy (09 R326, R327, R333). -/
def State.l3CtlWrite (s : State) (slice : Nat) (v : W64) : State :=
  let k := Key.l3Ctl slice
  let old := s.reg k
  let pol := if bits v 5 4 = 3 then bits old 5 4 else bits v 5 4
  s.setReg k (setBits (disWrite old 0 1 (bit v 0)) 5 4 pol)

/-- L3_PART of a slice: the lines of every way that moves are evicted (09 R318); more ways than the fuses allow are a reserved
encoding. -/
def State.l3PartWrite (s : State) (slice : Nat) (v : W64) : State :=
  let k := Key.l3Part slice
  let nw : W64 := v &&& 0xFFFF
  let old := s.reg k
  if fuseLimit s.keyw.l3sec 8 < popCount (BitVec.ofNat 16 (bits v 15 0)) then s
  else (s.l3EvictWays slice (fun w => bit (old ^^^ nw) w)).setReg k nw

/-- L3_SCRCFG (09 R325, 18 R607): ignored while BUSY; a reserved UNITS or SECUNITS keeps its old value (00 R5, log 68); a change of
UNITS sets BUSY, and released units are lost at once. -/
def State.scrWrite (s : State) (v : W64) : State :=
  let k := Key.l3Scrcfg
  let old := s.rf k 7 0
  let u := if 128 < bits v 7 0 then old else bits v 7 0
  let sec := if u < bits v 15 8 then s.rf k 15 8 else bits v 15 8
  if s.rb k 63 || (List.range u).any (fun i => decide (old ≤ i) && s.retiredWay (i % 12) (15 - i / 12)) then s
  else
    let s1 := s.setReg k (BitVec.ofNat 64 (b2n (u != old) * 2 ^ 63 + sec * 256 + u))
    if u < old then { (s1.clearUnits u old) with scrReady := min s1.scrReady u } else s1

/-- SCRATCH_CONVERSION_DONE (09 R325): newly converted ways are emptied, and their units are data 0 with tag UNINIT. -/
def State.scrDone (s : State) : State :=
  let k := Key.l3Scrcfg
  if s.rb k 63 then
    let u := s.rf k 7 0
    let s1 := (s.emptyScratchWays.clearUnits s.scrReady u).setRf k 63 63 0
    { s1 with scrReady := u }
  else s

/-- Writes of the L3_ pages (09 R333; 15 R492; 18 R607): the windows and L3_SCRCFG lie in the page of slice 0 alone. -/
def State.l3Write (s : State) (w : Writer) (k : Nat) (v : W64) : Option State :=
  let slice := k / 0x10000 - 0x20
  let o := k % 0x10000
  if o = 0 then some (s.l3CtlWrite slice v)
  else if o = 0x10 then some (s.l3PartWrite slice v)
  else if o = 0x30 then some (s.wayRetire slice v)
  else if k = Key.l3Scrcfg then some (s.scrWrite v)
  else match regIdx (Key.l3Secwin 0) 0x10 8 k, regIdx (Key.l3Seclim 0) 0x10 8 k with
    | some n, _ => some (if w.secure && w.lvl == 3 then s.secWindowWrite n false v else s)
    | _, some n => some (if w.secure && w.lvl == 3 then s.secWindowWrite n true v else s)
    | _, _ => none

/-! ## Writes (00 R4, R5; 01 R16 to R18) -/

/-- The fields of a register that a write replaces. -/
def RegD.rwMask (d : RegD) : W64 := d.fields.foldl (fun m f => if f.acc = .rw then m ||| f.mask else m) 0

/-- The bits of a register that a byte mask covers. -/
def byteBits (mask : BitVec 16) : W64 :=
  (List.range 8).foldl (fun m i => if bit mask i then m ||| (0xFF#64 <<< (8 * i)) else m) 0

/-- What a write of some bytes writes to the whole register: fields that it does not cover keep their value, and nothing is set,
cleared or started by bits that it does not cover (01 R18; log 59). -/
def State.partWrite (s : State) (k : Nat) (v : W64) (mask : BitVec 16) : W64 :=
  let m := byteBits mask
  let keep : W64 := match regAt k with | some d => s.reg k &&& d.rwMask | none => 0
  (v &&& m) ||| (keep &&& ~~~ m)

/-- The comparison ports (18 R591). -/
def chanPort (k : Nat) : Option (Nat × Bool) :=
  match regIdx (Key.bdgCha 0) 0x20 32 k, regIdx (Key.bdgChb 0) 0x20 32 k with
  | some n, _ => some (n, false)
  | _, some n => some (n, true)
  | _, _ => none

/-- A write of a register by its offset: the effect that its chapter gives it, else what its table says; an offset that no table
names ignores writes. -/
def State.blockWrite (s : State) (w : Writer) (k : Nat) (v : W64) : State :=
  let p := k / 0x10000
  let own : Option State :=
    if p = 0 ∨ p = 2 then s.settWrite k v
    else if p = 1 then s.pwrWrite w k v
    else if p = 4 then s.bdgWrite w k v
    else if p = 5 then s.cryRegWrite w k v
    else if p = 7 then s.bootWrite w k v
    else if 0x10 ≤ p ∧ p < 0x14 then s.memWrite k v
    else if 0x20 ≤ p ∧ p < 0x2C then s.l3Write w k v
    else if 0x30 ≤ p ∧ p < 0x37 then s.cioWrite k v
    else if 0x40 ≤ p ∧ p < 0x49 then s.rlkWrite k v
    else if 0x50 ≤ p ∧ p < 0x57 then s.tsnWrite k v
    else if p = 0x61 then s.hseWrite k v
    else if p = 0x62 then s.pairWrite k v
    else none
  own.getD (s.writeReg k v)

/-- A write that reaches the window: none for an error response (01 R16 to R18; 07 R250; 11 R394; 18 R591). mask names the bytes
written of the 16 at offset k. -/
def State.mmioWrite (s : State) (w : Writer) (k : Nat) (d : Data) (mask : BitVec 16) : Option State :=
  let v := s.partWrite k (d.setWidth 64) mask
  if k % 16 ≠ 0 || !(s.pageOpen k w.secure) then none
  else match regIdx (Key.guPat 0) 0x100 16 k, chanPort k with
    | some u, _ => if mask = 0xFFFF then s.patternStore u s.cio.now d else none
    | _, some c => s.portWrite c.1 c.2 w.tid v
    | _, _ => if k / 0x10000 = 6 then s.evrWrite w k v else some (s.blockWrite w k v)

/-- REGISTER_WRITE (00 R4 to R7): writer 1024 is the management port, whose offsets are those of mailbox 8 (17 R552, log 53); writer 1025
its I3C controller, which assigns the dynamic address v by ENTDAA or SETDASA (17 R558). -/
def execRegisterWrite (w : Writer) (pa : Addr) (v : W64) (s : State) : Out :=
  let a := pa.toNat
  if s.aon.inReset then .next s
  else if w.tid = 1024 then .next (s.mbWrite 8 a v)
  else if w.tid = 1025 then .next (if s.boot.mgmtSpi then s else s.setSett { s.sett with i3cAddr := some (v.setWidth 7) })
  else if s.region a = .mmio then regCmd (fun s => .next ((s.mmioWrite w (mmioOff a) (v.setWidth 128) 0x00FF).getD s)) s
  else .next s

/-- SOFTWARE_EVENT (07 R255). -/
def execSoftwareEvent (w : Writer) (v : W64) (s : State) : Out := .next ((s.swset w.secure v).getD s)

/-- SCRATCH_CONFIG (09 R325): the secure half of the page of slice 0. -/
def execScratchConfig (w : Writer) (v : W64) (s : State) : Out := .next (if w.secure then s.scrWrite v else s)

/-- SCRATCH_CONVERSION_DONE (09 R325). -/
def execScratchConversionDone (s : State) : Out := .next s.scrDone

/-- PARTITION_WRITE (09 R318): L1DPART or L2PART by SYSWR, L3_PART of a slice by a secure write. -/
def execPartitionWrite (c : RegCmd) (s : State) : Out :=
  match c with
  | .sys t i => syswrOf (fun n _ => n == 0x181 || n == 0x191) t i s
  | .mmio w inst v =>
    if 12 ≤ inst then .fault .noSuchUnit else .next (if w.secure then s.l3PartWrite inst v else s)

/-- CACHE_DISABLE (09 R326, R327): L1CTL or L2CTL by SYSWR, L3_CTL of a slice by a secure write. -/
def execCacheDisable (c : RegCmd) (s : State) : Out :=
  match c with
  | .sys t i => syswrOf (fun n _ => n == 0x180 || n == 0x190) t i s
  | .mmio w inst v =>
    if 12 ≤ inst then .fault .noSuchUnit else .next (if w.secure then s.l3CtlWrite inst v else s)

/-! ## Reads (00 R4; 01 R16 to R18, R630) -/

/-- Fields laid over a value. -/
def overlay (v : W64) (l : List (Nat × Nat × Nat)) : W64 :=
  l.foldl (fun (v : W64) (e : Nat × Nat × Nat) => setBits v e.1 e.2.1 e.2.2) v

/-- The fields that the units show live. -/
def State.liveView (s : State) (k : Nat) : List (Nat × Nat × Nat) :=
  let p := k / 0x10000
  if p = 1 then s.pwrView k
  else if p = 3 then s.keywView k
  else if p = 5 then s.cryView k
  else if p = 7 then s.bootView k ++ s.keywView k
  else if 0x10 ≤ p ∧ p < 0x14 then s.memView k
  else if 0x30 ≤ p ∧ p < 0x37 then s.cioView k
  else if 0x40 ≤ p ∧ p < 0x49 then s.rlkView k
  else if 0x50 ≤ p ∧ p < 0x57 then s.tsnView k
  else if p = 0x61 then s.hseView k
  else if p = 0x62 then s.pairView k
  else []

/-- The value that a read of a register returns: 0 where no table names one. -/
def State.mmioValue (s : State) (k : Nat) : W64 :=
  overlay (match regAt k with | some d => s.reg k &&& d.readMask | none => 0) (s.liveView k)

/-- What a read of some bytes leaves: fields of access RC that it covers are cleared (00 R4); NOW latches its fraction (11 R369);
EVR_HALTLOG, PAIR_MAXLAT and THM_TEMP note that they were read (07 R255, 14 R489, 17 R578). -/
def State.mmioAfter (s : State) (k : Nat) (mask : BitVec 16) : State :=
  let s1 := match regAt k with
    | some d => if d.clearMask = 0 then s else s.setReg k (s.reg k &&& ~~~ (d.clearMask &&& byteBits mask))
    | none => s
  let s2 := if k = Key.cioTbNow then s1.tbLatch else s1
  let s3 := if k = Key.evrHaltlog then { s2 with haltUnread := false } else s2
  (s3.pairRead k).settRead k mask

/-- A read that reaches the window: none for an error response; the pattern windows are not read (11 R394). -/
def State.mmioRead (s : State) (sec : Bool) (k : Nat) (mask : BitVec 16) : Option (W64 × State) :=
  if k % 16 ≠ 0 || !(s.pageOpen k sec) || (regIdx (Key.guPat 0) 0x100 16 k).isSome then none
  else some (s.mmioValue k, s.mmioAfter k mask)

/-- The bytes of a register that a read of a part covers (01 R18). -/
def partMask (part : Nat) : BitVec 16 := if part = 1 then 0x000F else if part = 2 then 0x00F0 else 0x00FF

/-- The read of an MMIO page that a thread waits for. -/
def State.mmioWaits (s : State) (t : Nat) : Option ExtReq :=
  match (s.thr t).extReq with
  | some r => if s.region r.pa.toNat = .mmio then some r else none
  | none => none

/-- MMIO_READ_ANSWER (01 R16 to R18, R630): the register with tag INT, or an error response. -/
def execMmioReadAnswer (t : Nat) (s : State) : Out :=
  if 768 ≤ t then .fault .noSuchUnit
  else match s.mmioWaits t with
    | none => .next s
    | some r =>
      match s.mmioRead r.sec (mmioOff (r.pa.toNat / 16 * 16)) (partMask r.part) with
      | none => .next (s.extAnswer t r none)
      | some a => .next (a.2.extAnswer t r (some { data := a.1.setWidth 128, tag := Tag.int }))

/-! ## The drain of the store buffer (09 R300, R302, R312) -/

/-- What the page made of the oldest write of a thread that was not yet sent. -/
def Thread.mmioSent (th : Thread) (ok : Bool) : Thread :=
  match (th.mmioOld.reverse.find? (fun w => w.result == none)) with
  | some w =>
    let old := th.mmioOld.reverse.erase w
    let i := th.mmioOld.reverse.idxOf w
    { th with mmioOld := (old.take i ++ [{ w with result := some ok }] ++ old.drop i).reverse }
  | none => { th with mmioW := th.mmioW.map (fun w => { w with result := some ok }) }

/-- A write to an MMIO page is sent: what it does, and the answer that it will get (09 R302; 03 R111; 01 R18). -/
def State.mmioSend (s : State) (e : SbEntry) : State :=
  let w : Writer := { secure := e.sec, lvl := e.lvl, tid := e.tid }
  match (if e.legal then s.mmioWrite w (mmioOff e.pa.toNat) e.data e.mask else none) with
  | some s1 => s1.modThr e.tid (fun th => th.mmioSent true)
  | none => s.modThr e.tid (fun th => th.mmioSent false)

/-- The address of an entry no longer takes the store: it changes nothing (01 R16, 09 R325, 14 R475). -/
def State.drainRefused (s : State) (e : SbEntry) : Bool :=
  let a := e.pa.toNat
  !((s.region a).tagged && s.reaches e.sec a) || s.standbyRefuses a

/-- STORE_BUFFER_DRAIN (09 R300 to R302, R305; 10 R353; 13 R451; 14 R473, R474): the oldest entry of a core's store buffer; a write that
makes a unit read or write memory waits as that access does. -/
def execStoreBufferDrain (core : Nat) (s : State) : Out :=
  if 48 ≤ core then .fault .noSuchUnit
  else match (s.core core).sb with
    | [] => .next s
    | e :: r =>
      let s1 := s.modCore core (fun c => { c with sb := r })
      match e.kind with
      | .mmio => regCmd (fun _ => .next (s1.mmioSend e)) s
      | .pcie => .next (s1.pcieSend e.tid e.pa)
      | .mem =>
        if s.drainRefused e then .next s1
        else if !(s.drainReady core e && s.mirrorRoom e.pa.toNat) then .next s
        else .next (s1.storeVisible (core / 4) e.pa.toNat e.mask e.data e.tag)

/-- MMIO_WRITE_ANSWER (03 R111, 06 R226): the thread is released, or takes an error-response fault for the operand; the answer to the
write of a displaced thread frees that write's record, a refusal waits for the trap return. -/
def execMmioWriteAnswer (t : Nat) (s : State) : Out :=
  if 768 ≤ t then .fault .noSuchUnit
  else
    let th := s.thr t
    match th.mmioW with
    | some w =>
      match w.result with
      | none => .next s
      | some true => .next (s.setThr t { th with mmioW := none })
      | some false => .next (s.refuseWrite t w 0x0C)
    | none => .next (s.setThr t { th with mmioOld := th.mmioOld.filter (fun w => w.result != some true) })

end Sys2Proof.Machine
end

