-- ==== Sys2Proof/Machine/CacheRows.lean ====
section
/-! DEFINITION. The commands of the caches and the coherence protocol (09 R300 to R309, R316 to R323): fills, requests at the home slice,
snoops, and evictions. -/

namespace Sys2Proof.Machine

/-- A copy in a way of the other world is evicted before the line is filled (09 R317). -/
def State.evictOther (s : State) (k line : Nat) (sec : Bool) : State :=
  match (s.cluster k).l2Find line with
  | some (slot, _) => if slotSec (s.cluster k) slot == sec then s else s.l2Evict k slot none
  | none => s

/-- LINE_FILL (09 R303, R305, R316, R319): a line that a miss register tracks; it is in the L2, or goes past it. -/
def execLineFill (core : Nat) (icache : Bool) (line way : Nat) (s : State) : Out :=
  if 48 ≤ core then .fault .noSuchUnit
  else match (s.core core).mshr.find? (fun m => m.icache == icache && m.line == line) with
    | none => .next s
    | some m =>
      if (s.l2Has (core / 4) line m.sec).isNone && (s.l2Takes core line m.sec || s.l2Queued (core / 4) line) then .next s
      else .next (s.lineFill core m way)

/-- HOME_SLICE_REQUEST (09 R303, R306, R307, R309, R316, R317, R321, R323; 10 R353): an L2 miss, or the upgrade of a line in S. -/
def execHomeSliceRequest (cluster line : Nat) (own : Bool) (way core : Nat) (secure : Bool) (s : State) : Out :=
  let pa := line * 64
  if 12 ≤ cluster ∨ 4 ≤ core ∨ 16 ≤ way then .fault .noSuchUnit
  else if !(s.cluster cluster).l2On || s.l2Queued cluster line || !((s.region pa).tagged && s.reaches secure pa) then .next s
  else if !(s.chunkReady pa) then .next { s with dram := s.dram.promote pa }
  else match s.l2Has cluster line secure with
    | some l => if own && l.st = .s then .next (s.homeRequest cluster line own way secure) else .next s
    | none =>
      let s1 := s.evictOther cluster line secure
      if (s1.cluster cluster).wayOk line way core secure then .next ((s1.homeRequest cluster line own way secure).l2Admit cluster)
      else .next s1

/-- SNOOP (09 R306, R307): a read leaves the line in S; an ownership request takes it, and a dirty line goes to the home slice, from
which the requester has it. -/
def execSnoop (cluster line : Nat) (own : Bool) (s : State) : Out :=
  if 12 ≤ cluster then .fault .noSuchUnit
  else match (s.cluster cluster).l2Find line with
    | none => .next s
    | some (slot, l) =>
      if own then
        let s1 := if l.st = .m then s.l3Accept line l.ws true (slotSec (s.cluster cluster) slot) none else s
        .next (s1.snoopOwn cluster line)
      else .next (s.snoopRead cluster line)

/-- EVICTION_OFFER (09 R306, R308, R321): an ordinary line of an L2; l3way is the way of the slice that takes it. -/
def execEvictionOffer (cluster set way l3way : Nat) (s : State) : Out :=
  if 12 ≤ cluster ∨ 2048 ≤ set ∨ 16 ≤ way ∨ 16 ≤ l3way then .fault .noSuchUnit
  else if !(s.cluster cluster).l2On then .next s
  else match tfind (s.cluster cluster).l2 (set * 16 + way) with
    | none => .next s
    | some l =>
      if l.st = .held || l.pin || bit (s.cluster cluster).l2lock (16 + way) then .next s
      else .next (s.l2Evict cluster (set * 16 + way) (some l3way))

end Sys2Proof.Machine
end

