-- ==== Sys2Proof/Machine/Events.lean ====
section
/-! DEFINITION. What reaches threads from outside their instructions (05, 06, 07): deliveries of the Event Router, displacing interrupts,
watchdogs, deadlines of mesh requests and responses after them, answers of table walks, and instructions that cannot be fetched or
decoded. -/

namespace Sys2Proof.Machine

/-! ## The Event Router (07 R249 to R254) -/

/-- What becomes of an event when it is delivered: dropped and counted, held, or delivered to a thread (07 R253). -/
inductive Fate where
  | drop
  | hold
  | to (t : Nat)
deriving DecidableEq, Repr

/-- The binding under which an event is delivered: the one that it reached the router with (07 R251). -/
def State.heldBind (s : State) (src : Nat) : W64 := tget (s.reg (Key.evrBind src)) s.evBind src

/-- The world of the thread matches the binding's, and its cluster is powered (07 R250, R253). -/
def State.takesEvent (s : State) (sec : Bool) (t : Nat) : Bool :=
  decide (t ≤ 767) && (s.thr t).sec == sec && s.clusterOn (t / 64)

/-- The fate of an event by its binding, before the state of its thread counts (07 R250, R253). -/
def State.fate (s : State) (src : Nat) : Fate :=
  let b := s.heldBind src
  let sec := s.bindSecure src
  let t := bits b 9 0
  let alt := bits b 57 48
  if !(s.takesEvent sec t) then .drop
  else if !(s.core (t / 16)).fenced then .to t
  else match bits b 41 40 with
    | 0 => .hold
    | 1 => if !(s.takesEvent sec alt) then .drop else if (s.core (alt / 16)).fenced then .hold else .to alt
    | _ => .drop

/-- The bank that a binding's interrupt takes (07 R236), and whether that bank is busy. -/
def Thread.bankBusy (th : Thread) (named : Bool) : Bool :=
  if chooseU th { code := 0x30 } named then bit th.bankU.stat 32 else bit th.bankS.stat 32

/-- The watchdog of a thread counts now (07 R257). -/
def State.wdCounts (s : State) (t : Nat) : Bool :=
  let th := s.thr t
  bit th.wdctl 63 && th.st != .stopped && !(s.core (t / 16)).fenced

/-- The watchdog of a thread has reached its PERIOD and has not expired (07 R257). -/
def State.wdDue (s : State) (t : Nat) : Bool :=
  let th := s.thr t
  s.wdCounts t && !th.wdDone && decide (bits th.wdctl 31 0 ≤ th.wdCount)

/-- An expiry of the watchdog traps the thread (07 R257 actions 0 and 1). -/
def Thread.wdTraps (th : Thread) : Bool := decide (bits th.wdctl 62 61 ≤ 1)

/-- A displacing interrupt for thread t: dropped for a STOPPED one, held for a SUSPENDED one, while its bank is busy (07 R253), until the
first handler instruction of another entry has issued, and behind a watchdog expiry of the thread (R254). -/
def State.fateDisplace (s : State) (src : Nat) : Fate :=
  match s.fate src with
  | .to t =>
    let th := s.thr t
    match th.st with
    | .stopped => .drop
    | .suspended => .hold
    | _ => if th.bankBusy (bit (s.heldBind src) 39) || th.entered || (s.wdDue t && th.wdTraps) then .hold else .to t
  | f => f

/-- The fate of an event in its mode: 1 wake, 2 Den, 3 displace. -/
def State.fateIn (s : State) (mode src : Nat) : Fate := if mode = 3 then s.fateDisplace src else s.fate src

/-- The mode of a held event's binding (07 R249). -/
def State.heldMode (s : State) (src : Nat) : Nat := bits (s.heldBind src) 35 32

/-- The event is for threads of a core, or for no thread that exists, and can be dealt with now. -/
def State.dueOn (s : State) (core src : Nat) : Bool :=
  match s.fateIn (s.heldMode src) src with
  | .to t => t / 16 == core
  | .drop => let t := bits (s.heldBind src) 9 0; t / 16 == core || decide (767 < t)
  | .hold => false

/-- The order of 07 R252: secure bindings first, then higher PRIO, then the lower source. -/
def State.rank (s : State) (src : Nat) : Nat :=
  b2n (!(s.bindSecure src)) * 2 ^ 16 + (7 - bits (s.heldBind src) 44 42) * 2 ^ 12 + src

/-- The least of a list of sources by rank. -/
def State.firstSource (s : State) : List Nat → Option Nat
  | [] => none
  | a :: r => some (r.foldl (fun b c => if s.rank c < s.rank b then c else b) a)

/-- The event that a core receives next: deliveries in wake and in Den mode stand in one order, displacing interrupts in another (07
R252). -/
def State.nextEvent (s : State) (displace : Bool) (core : Nat) : Option (Nat × Data) :=
  match s.firstSource ((s.evPend.map (·.1)).filter (fun src => (s.heldMode src == 3) == displace && s.dueOn core src)) with
  | some src => (tfind s.evPend src).map (fun d => (src, d))
  | none => none

/-- An event is no longer held. -/
def State.takeEvent (s : State) (src : Nat) : State := { s with evPend := tdel s.evPend src, evBind := tdel s.evBind src }

/-- The source counts an overrun (02 R47; 11 R390; 12 R427). -/
def State.countOverrun (s : State) (src : Nat) : State :=
  match ovrOf src with
  | some r => s.count r.1 r.2.1 r.2.2 1
  | none => if 192 ≤ src ∧ src < 200 then s.count (Key.rlkSrstat (src - 192)) 15 0 1 else s

/-- An event in Den mode (02 R47, 07 R253). -/
def State.deliverDen (s : State) (bind : W64) (src t : Nat) (d : Data) : State :=
  let n := bits bind 23 16
  let s1 := s.wakeCore (t / 16)
  let s2 := if ((s1.thr t).denWord n).tag = Tag.full then s1.countOverrun src else s1
  s2.modThr t (fun th => th.deliver n (fullWord d))

/-- An event in wake mode (05 R176, 07 R253). -/
def State.deliverWake (s : State) (t : Nat) : State := (s.wakeCore (t / 16)).modThr t (fun th => th.wakeUp)

/-- The pending next instruction of a thread whose instruction has not issued (05 R163): its slot's record, else the instruction after
the slot, by the length that the code gives; where no code can be read here, a free value. -/
def State.pendingNext (s : State) (t : Nat) : Option Addr × State :=
  let th := s.thr t
  match th.slot with
  | none => (none, s)
  | some sl =>
    match sl.next with
    | some a => (some a, s)
    | none =>
      match s.peekLen (fetchCtx s t) th.pc with
      | some n => (some (th.pc + BitVec.ofNat 48 n), s)
      | none => (some ((Config.freeValue s.fresh).setWidth 48), { s with fresh := s.fresh + 1 })

/-- A thread is displaced: its instruction in flight is abandoned, a block instruction's progress is in the TCW, and the handler is
entered (06 R223 to R226, R230; 07 R243). -/
def State.displaceThread (s : State) (t : Nat) (x : Exn) (named : Bool) : State :=
  let p := s.pendingNext t
  let s1 := (p.2.wakeCore (t / 16)).modThr t (fun th => th.saveBlock)
  let pc := (s1.thr t).resumePc
  s1.trapEnter t x named pc p.1 pc

/-- The next event of a core, where it is in this mode: delivered under its binding, or dropped and counted. -/
def routeOne (mode core : Nat) (s : State) (act : W64 → Nat → Nat → Data → State → State) : Out :=
  if 48 ≤ core then .fault .noSuchUnit
  else match s.nextEvent (mode == 3) core with
    | none => .next s
    | some (src, d) =>
      if s.heldMode src ≠ mode then .next s
      else
        let s1 := s.takeEvent src
        match s.fateIn mode src with
        | .to t => .next (act (s.heldBind src) src t d s1)
        | _ => .next (s1.count Key.evrDrop 31 0 1)

/-- DEN_DELIVERY (02 R47; 05 R175; 06 R222; 07 R250 to R253). -/
def execDenDelivery (core : Nat) (s : State) : Out := routeOne 2 core s (fun b src t d s => s.deliverDen b src t d)

/-- WAKE_DELIVERY (05 R176; 06 R222; 07 R250 to R253). -/
def execWakeDelivery (core : Nat) (s : State) : Out := routeOne 1 core s (fun _ _ t _ s => s.deliverWake t)

/-- DISPLACING_INTERRUPT (05 R178; 06 R222 to R226; 07 R236, R243, R245, R250 to R253). -/
def execDisplacingInterrupt (core : Nat) (s : State) : Out :=
  routeOne 3 core s (fun b src t _ s => s.displaceThread t { code := 0x30, src := src } (bit b 39))

/-! ## Thread watchdogs (07 R256, R257, R631) -/

/-- Watchdog actions 0 and 1 trap the thread; a SUSPENDED thread's request is orphaned and its flags carry V (07 R631). -/
def State.wdTrap (s : State) (t : Nat) (u : Bool) : State :=
  let th := s.thr t
  if th.st = .suspended then
    let s1 := (s.orphan t).modThr t (fun th => { th with flags := setBits th.flags 1 1 1, st := .active })
    s1.displaceThread t { code := 0x31 } u
  else s.displaceThread t { code := 0x31 } u

/-- WATCHDOG_EXPIRY (07 R243, R245, R246, R254, R257, R258 entry 8, R631): at the first step with the count at or above PERIOD; one that
traps waits for the first handler instruction of another entry, one with ACT 2 or 3 acts at once (log 88). -/
def execWatchdogExpiry (t : Nat) (s : State) : Out :=
  if 768 ≤ t then .fault .noSuchUnit
  else
    let th := s.thr t
    if !(s.wdDue t) || (th.entered && th.wdTraps) then .next s
    else
      let s1 := (s.modThr t (fun th => { th with wdExp := true, wdDone := true })).raise 408 0
      match bits th.wdctl 62 61 with
      | 0 => .next (s1.wdTrap t false)
      | 1 => .next (s1.wdTrap t true)
      | 2 => .next s1
      | _ => .next (s1.stopThread t)

/-- One 40 ns step of the reference for every watchdog that counts (07 R257). -/
def State.wdTick (s : State) : State :=
  (s.threads.map (·.1)).foldl (fun s t =>
    if s.wdCounts t then s.modThr t (fun th => { th with wdCount := th.wdCount + 40 }) else s) s

/-! ## Deadlines of mesh requests (07 R258, R259; 01 R16; 05 R197; 08 R274; 10 R354) -/

/-- The instruction that a thread waits in ends with a timeout fault when it goes on (07 R258 entries 2 and 6). -/
def State.setLate (s : State) (t : Nat) (e : Exn) : State :=
  s.modThr t (fun th => { th with late := some e, extReq := none, stall := none })

/-- What an instruction waits for has come (07 R258). -/
def State.stallOver (s : State) (t : Nat) : StallOn → Bool
  | .chunk a => s.chunkReady a.toNat
  | .fill line sec => s.l1Ready t false line sec
  | .stores mem => s.storesDone t mem
  | .tlbi => s.tlbiDone t
  | .load => false

/-- The wait of a thread that entry 2 or 6 bounds passes its deadline, unless what it waits for has come (05 R197). -/
def State.threadLate (s : State) (t : Nat) : State :=
  let th := s.thr t
  match th.mmioW with
  | some w =>
    match w.result with
    | some _ => (s.raise 402 0).refuseWrite t w 0x0D
    | none => s
  | none =>
    match th.extReq with
    | some r => (s.setLate t r.tmo).raise (if s.region r.pa.toNat = .pcie then 406 else 402) 0
    | none =>
      match th.stall with
      | some (e, on) => if s.stallOver t on then s else (s.setLate t e).raise 402 0
      | none => s

/-- A walk is no longer in progress. -/
def State.dropWalk (s : State) (core : Nat) (n : Nat) : State :=
  s.modCore core (fun c => { c with walks := c.walks.eraseIdx n })

/-- A walk has ended with a fault, which its thread takes when its instruction goes on (08 R281). -/
def State.walkFault (s : State) (core n : Nat) (w : Walk) (e : Exn) : State :=
  let s1 := s.dropWalk core n
  if w.fetch then s1.codeBad w.tid (alignTo w.va 6) false e else s1.modThr w.tid (fun th => { th with late := some e })

/-- An engine's access has passed its deadline: the engine finds it so when it makes the access (07 R258, log 61). -/
def State.markLate (s : State) (agent : DmaAgent) (pa : Nat) : State :=
  { s with dmaLate := (agent, pa / 16) :: s.dmaLate.erase (agent, pa / 16) }

/-- MESH_DEADLINE_EXPIRY (07 R258 entries 2 and 6): a core takes a timeout fault; a DMA engine logs the address and stops its descriptor: the
crypto engine's job in progress at once, with a STATUS that 15 R503 does not give, a free value; another's when it makes that access
(log 61). -/
def execMeshDeadlineExpiry (r : Requester) (s : State) : Out :=
  match r with
  | .thread t => if 768 ≤ t then .fault .noSuchUnit else .next (s.threadLate t)
  | .walk core n =>
    if 48 ≤ core then .fault .noSuchUnit
    else match (s.core core).walks[n]? with
      | none => .next s
      | some w => .next ((s.walkFault core n w (w.exn 0x0D 0 w.wr 0)).raise 402 0)
  | .dma agent pa =>
    if !agent.unitOk then .fault .noSuchUnit
    else
      let s1 := s.raise (if s.region pa.toNat = .pcie then 406 else 402) 0
      match agent with
      | .crypto q =>
        match (s1.cryQ q).job with
        | some j => .next (({ s1.dmaLog agent pa.toNat with fresh := s1.fresh + 1 }).cryEnd q j (bits (Config.freeValue s1.fresh) 7 0) j.done)
        | none => .next (s1.markLate agent pa.toNat)
      | _ => .next (s1.markLate agent pa.toNat)

/-- The LATE register of a mesh requester: the slice's of a core's stop, or a DMA block's own: Historian Engine, pair link, crypto engine,
PCIe, then the Rinolink ports (07 R258 entries 2 and 6, log 61). -/
def meshLate (inst : Nat) : Nat :=
  match inst with
  | 12 => Key.hseLate
  | 13 => Key.pairLate
  | 14 => Key.cryLate
  | 15 => Key.pcieLate
  | n => if n < 12 then Key.l3Late n else Key.rlkLate (n - 16)

/-- LATE_RESPONSE (07 R259, R260): counted in the LATE counter of its entry, in the unit of that number, and otherwise discarded. -/
def execLateResponse (entry inst : Nat) (s : State) : Out :=
  let one (n key : Nat) : Out := if n ≤ inst then .fault .noSuchUnit else .next (s.count key 31 0 1)
  match entry with
  | 1 => one 4 (Key.memLate inst)
  | 2 => one 24 (meshLate inst)
  | 3 => one 8 (Key.rlkLate inst)
  | 4 => one 1 Key.cryLate
  | 5 => one 1 Key.pcieLate
  | 6 => one 24 (meshLate inst)
  | 7 => one 1 Key.settLate
  | 8 => if 768 ≤ inst then .fault .noSuchUnit
         else .next (s.modThr inst (fun th => { th with wdLate := satAdd 0xFFFFFFFF th.wdLate 1 }))
  | 9 => one 48 (Key.bdgHblate inst)
  | 10 => one 1 Key.bdgSlate
  | _ => .fault .noSuchUnit

/-! ## Walks (08 R276 to R281, R291) -/

/-- WALK_READ_RESPONSE (08 R271 to R281, R291): one table word, whose line the cluster's L2 keeps (R274). -/
def execWalkReadResponse (core n : Nat) (s : State) : Out :=
  if 48 ≤ core then .fault .noSuchUnit
  else match (s.core core).walks[n]? with
    | none => .next s
    | some w =>
      if !(s.walkReady core w) then .next s
      else match walkStep core w s with
      | .wait s1 => .next s1
      | .trap e s1 => .next (s1.walkFault core n w e)
      | .ok (.more w1) s1 => .next (s1.modCore core (fun c => { c with walks := c.walks.set n w1 }))
      | .ok (.found e) s1 =>
        let s2 := (s1.dropWalk core n).modCore core (fun c => c.fillTlb w e)
        .next (if w.install then s2 else s2.modThr w.tid (fun th =>
          if w.fetch then { th with codeXlat := some e } else { th with xlat := e :: th.xlat }))

/-! ## Instructions that cannot be fetched or decoded (03 R84, R88, R107) -/

/-- A free address for the end of an instruction whose head word cannot be read here (log 62). -/
def State.freeLen (s : State) (t : Nat) : Nat × State :=
  (((Config.freeValue s.fresh).setWidth 48 - (s.thr t).pc).toNat, { s with fresh := s.fresh + 1 })

/-- UNDEFINED_OPCODE (03 R84, R88, R107 steps 1 and 2; 04 R149; 06 R207): at the next instruction, whose head word the buffer holds. -/
def execUndefinedOpcode (t : Nat) (s : State) : Out :=
  if 768 ≤ t then .fault .noSuchUnit
  else if !(s.canIssue t) then .next s
  else
    let th := s.thr t
    let compact := bit th.ctl 0
    let l := if th.slot.isSome then (match s.peekLen (fetchCtx s t) th.pc with | some n => (n, s) | none => s.freeLen t) else (4, s)
    let x := mkCtx l.2 t compact emptyEnc l.1 0 1 false false
    if th.pc.toNat % (if compact then 4 else 2) ≠ 0 then
      .next (l.2.trapEnter t { code := 0x03, step := 1, addr := th.pc } false th.pc x.pending th.pc)
    else if !(th.holdsCode th.pc 4) then .next s
    else .next ((l.2.setThr t (th.onIssue l.1)).trapInstr x { code := 0x01, step := 2 })

/-- The code, stage and intermediate address of a fetch fault (03 R107; 07 R234). -/
def fetchFaultIs (k : FetchFault) (e : Exn) : Bool :=
  let x (code : Nat) (ipa : Option Addr) : Bool := e.code == code && e.stage == (if ipa.isSome then 2 else 1) && e.ipa == ipa.getD 0
  match k with
  | .translation ipa => x 0x06 ipa
  | .permission ipa => x 0x07 ipa
  | .walkRegion ipa => x 0x08 ipa
  | .walkPoison ipa => x 0x09 ipa
  | .timeout => e.code == 0x0D
  | .poison => e.code == 0x10
  | .mmio => e.code == 0x0C

/-- The bytes of a thread's next instruction, as far as its code tells: its head word, and all of it once the length is known (03 R83; 04
R149). -/
def State.nextBytes (s : State) (t : Nat) : List Addr :=
  let pc := (s.thr t).pc
  (List.range ((s.peekLen (fetchCtx s t) pc).getD 4)).map (fun i => pc + BitVec.ofNat 48 i)

/-- The fault of the first part of a thread's next instruction that cannot be fetched (03 R107 step 1, R108): one that a request for that
part's address found, or POISON in a line that the buffer holds. A fault found for another address of the line is found again. -/
def State.fetchFault (s : State) (t : Nat) : Option Exn :=
  let th := s.thr t
  (s.nextBytes t).findSome? (fun a =>
    match th.fetch.find? (fun l => l.va == alignTo a 6) with
    | some l => if bit l.poison (a.toNat / 16 % 4) then some { code := 0x10, step := 1, addr := a } else none
    | none => (th.fetchBad.filter (fun b => b.line == alignTo a 6 && b.exn.addr == a)).map (·.exn))

/-- INSTRUCTION_FETCH_FAULT (01 R18; 03 R84, R107 step 1; 08 R273, R274, R281): the thread's next instruction has this fault. At an odd
address nothing is fetched, and the alignment fault comes first. -/
def execInstructionFetchFault (t : Nat) (k : FetchFault) (s : State) : Out :=
  if 768 ≤ t then .fault .noSuchUnit
  else if !(s.canIssue t) then .next s
  else
    let th := s.thr t
    let p := s.pendingNext t
    if th.pc.toNat % (if bit th.ctl 0 then 4 else 2) ≠ 0 then
      .next (p.2.trapEnter t { code := 0x03, step := 1, addr := th.pc } false th.pc p.1 th.pc)
    else match s.fetchFault t with
      | some e => if fetchFaultIs k e then .next (p.2.trapEnter t e false th.pc p.1 th.pc) else .next s
      | none => .next s

end Sys2Proof.Machine
end

