-- ==== Sys2Proof/Machine/Dispatch.lean ====
section
/-! DEFINITION. The dispatch: one arm per command, each a direct call of its meaning. -/

namespace Sys2Proof.Machine

def exec (i : Instr) (s : State) : Host.Outcome State Fault Refusal :=
  match i with
  | .add t e => Sys2Proof.Machine.execAdd t e s
  | .sub t e => Sys2Proof.Machine.execSub t e s
  | .adc t e => Sys2Proof.Machine.execAdc t e s
  | .sbc t e => Sys2Proof.Machine.execSbc t e s
  | .neg t e => Sys2Proof.Machine.execNeg t e s
  | .abs t e => Sys2Proof.Machine.execAbs t e s
  | .mul t e => Sys2Proof.Machine.execMul t e s
  | .mulh t e => Sys2Proof.Machine.execMulh t e s
  | .mac t e => Sys2Proof.Machine.execMac t e s
  | .div t e => Sys2Proof.Machine.execDiv t e s
  | .rem t e => Sys2Proof.Machine.execRem t e s
  | .min t e => Sys2Proof.Machine.execMin t e s
  | .max t e => Sys2Proof.Machine.execMax t e s
  | .cmp t e => Sys2Proof.Machine.execCmp t e s
  | .fxadd t e => Sys2Proof.Machine.execFxadd t e s
  | .fxsub t e => Sys2Proof.Machine.execFxsub t e s
  | .fxneg t e => Sys2Proof.Machine.execFxneg t e s
  | .fxabs t e => Sys2Proof.Machine.execFxabs t e s
  | .fxmul t e => Sys2Proof.Machine.execFxmul t e s
  | .fxmac t e => Sys2Proof.Machine.execFxmac t e s
  | .fxshl t e => Sys2Proof.Machine.execFxshl t e s
  | .fxshr t e => Sys2Proof.Machine.execFxshr t e s
  | .fxmin t e => Sys2Proof.Machine.execFxmin t e s
  | .fxmax t e => Sys2Proof.Machine.execFxmax t e s
  | .fxcmp t e => Sys2Proof.Machine.execFxcmp t e s
  | .fadd t e => Sys2Proof.Machine.execFadd t e s
  | .fsub t e => Sys2Proof.Machine.execFsub t e s
  | .fmul t e => Sys2Proof.Machine.execFmul t e s
  | .fdiv t e => Sys2Proof.Machine.execFdiv t e s
  | .fsqrt t e => Sys2Proof.Machine.execFsqrt t e s
  | .fma t e => Sys2Proof.Machine.execFma t e s
  | .fmin t e => Sys2Proof.Machine.execFmin t e s
  | .fmax t e => Sys2Proof.Machine.execFmax t e s
  | .fabs t e => Sys2Proof.Machine.execFabs t e s
  | .fneg t e => Sys2Proof.Machine.execFneg t e s
  | .fcmpeq t e => Sys2Proof.Machine.execFcmpeq t e s
  | .fcmplt t e => Sys2Proof.Machine.execFcmplt t e s
  | .fcmple t e => Sys2Proof.Machine.execFcmple t e s
  | .fcmpun t e => Sys2Proof.Machine.execFcmpun t e s
  | .and t e => Sys2Proof.Machine.execAnd t e s
  | .or t e => Sys2Proof.Machine.execOr t e s
  | .xor t e => Sys2Proof.Machine.execXor t e s
  | .andn t e => Sys2Proof.Machine.execAndn t e s
  | .not t e => Sys2Proof.Machine.execNot t e s
  | .shl t e => Sys2Proof.Machine.execShl t e s
  | .shr t e => Sys2Proof.Machine.execShr t e s
  | .sar t e => Sys2Proof.Machine.execSar t e s
  | .rol t e => Sys2Proof.Machine.execRol t e s
  | .ror t e => Sys2Proof.Machine.execRor t e s
  | .popc t e => Sys2Proof.Machine.execPopc t e s
  | .clz t e => Sys2Proof.Machine.execClz t e s
  | .padd t e => Sys2Proof.Machine.execPadd t e s
  | .psub t e => Sys2Proof.Machine.execPsub t e s
  | .palign t e => Sys2Proof.Machine.execPalign t e s
  | .cvtIf t e => Sys2Proof.Machine.execCvtIf t e s
  | .cvtFi t e => Sys2Proof.Machine.execCvtFi t e s
  | .cvtXf t e => Sys2Proof.Machine.execCvtXf t e s
  | .cvtFx t e => Sys2Proof.Machine.execCvtFx t e s
  | .cvtSd t e => Sys2Proof.Machine.execCvtSd t e s
  | .cvtDs t e => Sys2Proof.Machine.execCvtDs t e s
  | .asptr t e => Sys2Proof.Machine.execAsptr t e s
  | .ascode t e => Sys2Proof.Machine.execAscode t e s
  | .asintP t e => Sys2Proof.Machine.execAsintP t e s
  | .asintX t e => Sys2Proof.Machine.execAsintX t e s
  | .asfix t e => Sys2Proof.Machine.execAsfix t e s
  | .seal t e => Sys2Proof.Machine.execSeal t e s
  | .unseal t e => Sys2Proof.Machine.execUnseal t e s
  | .mov t e => Sys2Proof.Machine.execMov t e s
  | .tagr t e => Sys2Proof.Machine.execTagr t e s
  | .tagset t e => Sys2Proof.Machine.execTagset t e s
  | .ttst t e => Sys2Proof.Machine.execTtst t e s
  | .bmov t e => Sys2Proof.Machine.execBmov t e s
  | .bfill t e => Sys2Proof.Machine.execBfill t e s
  | .tscan t e => Sys2Proof.Machine.execTscan t e s
  | .compactAdd t c => Sys2Proof.Machine.execCompactAdd t c s
  | .compactSub t c => Sys2Proof.Machine.execCompactSub t c s
  | .compactAdc t c => Sys2Proof.Machine.execCompactAdc t c s
  | .compactSbc t c => Sys2Proof.Machine.execCompactSbc t c s
  | .compactAnd t c => Sys2Proof.Machine.execCompactAnd t c s
  | .compactOr t c => Sys2Proof.Machine.execCompactOr t c s
  | .compactXor t c => Sys2Proof.Machine.execCompactXor t c s
  | .compactShl t c => Sys2Proof.Machine.execCompactShl t c s
  | .compactShr t c => Sys2Proof.Machine.execCompactShr t c s
  | .compactSar t c => Sys2Proof.Machine.execCompactSar t c s
  | .compactMul t c => Sys2Proof.Machine.execCompactMul t c s
  | .compactMulh t c => Sys2Proof.Machine.execCompactMulh t c s
  | .compactDiv t c => Sys2Proof.Machine.execCompactDiv t c s
  | .compactRem t c => Sys2Proof.Machine.execCompactRem t c s
  | .compactCmp t c => Sys2Proof.Machine.execCompactCmp t c s
  | .compactMov t c => Sys2Proof.Machine.execCompactMov t c s
  | .compactNot t c => Sys2Proof.Machine.execCompactNot t c s
  | .compactNeg t c => Sys2Proof.Machine.execCompactNeg t c s
  | .compactLd t c => Sys2Proof.Machine.execCompactLd t c s
  | .compactSt t c => Sys2Proof.Machine.execCompactSt t c s
  | .br t ins => Sys2Proof.Machine.execBr t ins s
  | .call t ins => Sys2Proof.Machine.execCall t ins s
  | .ret t ins => Sys2Proof.Machine.execRet t ins s
  | .hinge t ins => Sys2Proof.Machine.execHinge t ins s
  | .hingeWindowWrite svc => Sys2Proof.Machine.execHingeWindowWrite svc s
  | .waitd t ins => Sys2Proof.Machine.execWaitd t ins s
  | .park t ins => Sys2Proof.Machine.execPark t ins s
  | .put t ins => Sys2Proof.Machine.execPut t ins s
  | .take t ins => Sys2Proof.Machine.execTake t ins s
  | .aswp t ins => Sys2Proof.Machine.execAswp t ins s
  | .acas t ins => Sys2Proof.Machine.execAcas t ins s
  | .aadd t ins => Sys2Proof.Machine.execAadd t ins s
  | .aand t e => Sys2Proof.Machine.execAand t e s
  | .aor t e => Sys2Proof.Machine.execAor t e s
  | .axor t e => Sys2Proof.Machine.execAxor t e s
  | .fenceSl t ins => Sys2Proof.Machine.execFenceSl t ins s
  | .fenceIo t ins => Sys2Proof.Machine.execFenceIo t ins s
  | .sysrd t ins => Sys2Proof.Machine.execSysrd t ins s
  | .syswr t ins => Sys2Proof.Machine.execSyswr t ins s
  | .thworldWrite t ins => Sys2Proof.Machine.execThworldWrite t ins s
  | .thctlWrite t ins => Sys2Proof.Machine.execThctlWrite t ins s
  | .thlattolWrite t ins => Sys2Proof.Machine.execThlattolWrite t ins s
  | .corectlWrite t ins => Sys2Proof.Machine.execCorectlWrite t ins s
  | .watchdogKick t ins => Sys2Proof.Machine.execWatchdogKick t ins s
  | .wdctlWrite t ins => Sys2Proof.Machine.execWdctlWrite t ins s
  | .tlbi t e => Sys2Proof.Machine.execTlbi t e s
  | .tlbiRemote core n => Sys2Proof.Machine.execTlbiRemote core n s
  | .syncT t e => Sys2Proof.Machine.execSyncT t e s
  | .thstart t ins => Sys2Proof.Machine.execThstart t ins s
  | .thstop t ins => Sys2Proof.Machine.execThstop t ins s
  | .pflush t ins => Sys2Proof.Machine.execPflush t ins s
  | .pbar t ins => Sys2Proof.Machine.execPbar t ins s
  | .svc t ins => Sys2Proof.Machine.execSvc t ins s
  | .hvc t e => Sys2Proof.Machine.execHvc t e s
  | .tret t ins => Sys2Proof.Machine.execTret t ins s
  | .hreply t e => Sys2Proof.Machine.execHreply t e s
  | .mmioReadAnswer t => Sys2Proof.Machine.execMmioReadAnswer t s
  | .mmioWriteAnswer t => Sys2Proof.Machine.execMmioWriteAnswer t s
  | .denDelivery core => Sys2Proof.Machine.execDenDelivery core s
  | .wakeDelivery core => Sys2Proof.Machine.execWakeDelivery core s
  | .displacingInterrupt core => Sys2Proof.Machine.execDisplacingInterrupt core s
  | .softwareEvent w v => Sys2Proof.Machine.execSoftwareEvent w v s
  | .watchdogExpiry t => Sys2Proof.Machine.execWatchdogExpiry t s
  | .meshDeadlineExpiry r => Sys2Proof.Machine.execMeshDeadlineExpiry r s
  | .lateResponse entry inst => Sys2Proof.Machine.execLateResponse entry inst s
  | .walkReadResponse core n => Sys2Proof.Machine.execWalkReadResponse core n s
  | .tlblkLoad t ins => Sys2Proof.Machine.execTlblkLoad t ins s
  | .tlblkUnlock t ins => Sys2Proof.Machine.execTlblkUnlock t ins s
  | .tlblkUnlockAll t ins => Sys2Proof.Machine.execTlblkUnlockAll t ins s
  | .fetchLineArrival t va predicted => Sys2Proof.Machine.execFetchLineArrival t va predicted s
  | .storeBufferDrain core => Sys2Proof.Machine.execStoreBufferDrain core s
  | .lineFill core icache line way => Sys2Proof.Machine.execLineFill core icache line way s
  | .homeSliceRequest cluster line own way core secure => Sys2Proof.Machine.execHomeSliceRequest cluster line own way core secure s
  | .snoop cluster line own => Sys2Proof.Machine.execSnoop cluster line own s
  | .evictionOffer cluster set way l3way => Sys2Proof.Machine.execEvictionOffer cluster set way l3way s
  | .dmaRead agent pa => Sys2Proof.Machine.execDmaRead agent pa s
  | .dmaWrite agent pa w mask => Sys2Proof.Machine.execDmaWrite agent pa w mask s
  | .l2lockWrite t ins => Sys2Proof.Machine.execL2lockWrite t ins s
  | .partitionWrite c => Sys2Proof.Machine.execPartitionWrite c s
  | .cacheDisable c => Sys2Proof.Machine.execCacheDisable c s
  | .scratchConfig w v => Sys2Proof.Machine.execScratchConfig w v s
  | .scratchConversionDone => Sys2Proof.Machine.execScratchConversionDone s
  | .dramRead pa err => Sys2Proof.Machine.execDramRead pa err s
  | .dramWrite pa w mask => Sys2Proof.Machine.execDramWrite pa w mask s
  | .dramCommandTimeout pa write => Sys2Proof.Machine.execDramCommandTimeout pa write s
  | .dramAlert pa => Sys2Proof.Machine.execDramAlert pa s
  | .scrubRead channel pa err passEnd => Sys2Proof.Machine.execScrubRead channel pa err passEnd s
  | .chunkInitComplete => Sys2Proof.Machine.execChunkInitComplete s
  | .channelRetire w v => Sys2Proof.Machine.execChannelRetire w v s
  | .channelRetireDone unread => Sys2Proof.Machine.execChannelRetireDone unread s
  | .memReportSend channel => Sys2Proof.Machine.execMemReportSend channel s
  | .tbNowRead => Sys2Proof.Machine.execTbNowRead s
  | .tbRateWrite v => Sys2Proof.Machine.execTbRateWrite v s
  | .tbSlewWrite v => Sys2Proof.Machine.execTbSlewWrite v s
  | .slewComplete => Sys2Proof.Machine.execSlewComplete s
  | .tbStepWrite v => Sys2Proof.Machine.execTbStepWrite v s
  | .compareWrite n ctl v => Sys2Proof.Machine.execCompareWrite n ctl v s
  | .compareFire n => Sys2Proof.Machine.execCompareFire n s
  | .decimationBoundary n bits => Sys2Proof.Machine.execDecimationBoundary n bits s
  | .sdCfgWrite n v => Sys2Proof.Machine.execSdCfgWrite n v s
  | .sdClockLoss n => Sys2Proof.Machine.execSdClockLoss n s
  | .sdStuck n level => Sys2Proof.Machine.execSdStuck n level s
  | .comparatorOverRange n bits => Sys2Proof.Machine.execComparatorOverRange n bits s
  | .adcEnable v => Sys2Proof.Machine.execAdcEnable v s
  | .adcCalibrationDone => Sys2Proof.Machine.execAdcCalibrationDone s
  | .adcSwtrig v => Sys2Proof.Machine.execAdcSwtrig v s
  | .adcSequenceStart => Sys2Proof.Machine.execAdcSequenceStart s
  | .adcSequenceEnd codes => Sys2Proof.Machine.execAdcSequenceEnd codes s
  | .encoderEdge n a b => Sys2Proof.Machine.execEncoderEdge n a b s
  | .encoderIndex n => Sys2Proof.Machine.execEncoderIndex n s
  | .ssiFrameEnd n raw lineLow tail => Sys2Proof.Machine.execSsiFrameEnd n raw lineLow tail s
  | .resolverPeriodEnd n sin cos tracking => Sys2Proof.Machine.execResolverPeriodEnd n sin cos tracking s
  | .gateStartWrite u v => Sys2Proof.Machine.execGateStartWrite u v s
  | .gateRunStart u => Sys2Proof.Machine.execGateRunStart u s
  | .gateStop u => Sys2Proof.Machine.execGateStop u s
  | .gatePeriodBoundary u => Sys2Proof.Machine.execGatePeriodBoundary u s
  | .gatePeriodCentre u => Sys2Proof.Machine.execGatePeriodCentre u s
  | .patternStore u d => Sys2Proof.Machine.execPatternStore u d s
  | .patternApply u pos => Sys2Proof.Machine.execPatternApply u pos s
  | .edgeCommit u => Sys2Proof.Machine.execEdgeCommit u s
  | .inhibitPinAssert => Sys2Proof.Machine.execInhibitPinAssert s
  | .gateFaultPin u => Sys2Proof.Machine.execGateFaultPin u s
  | .softwareInhibit => Sys2Proof.Machine.execSoftwareInhibit s
  | .unitTrip units => Sys2Proof.Machine.execUnitTrip units s
  | .unitTripClear units => Sys2Proof.Machine.execUnitTripClear units s
  | .pinInhibitClear => Sys2Proof.Machine.execPinInhibitClear s
  | .softwareInhibitClear => Sys2Proof.Machine.execSoftwareInhibitClear s
  | .inhibitLock w v => Sys2Proof.Machine.execInhibitLock w v s
  | .rinolinkLinkUp p => Sys2Proof.Machine.execRinolinkLinkUp p s
  | .rinolinkLinkDown p => Sys2Proof.Machine.execRinolinkLinkDown p s
  | .rinolinkCycleStart p cls => Sys2Proof.Machine.execRinolinkCycleStart p cls s
  | .inFrame p f => Sys2Proof.Machine.execInFrame p f s
  | .ack p f => Sys2Proof.Machine.execAck p f s
  | .rinolinkDeadlineMiss p cls conc => Sys2Proof.Machine.execRinolinkDeadlineMiss p cls conc s
  | .outputGo p v => Sys2Proof.Machine.execOutputGo p v s
  | .outputOffsetExpiry p cls => Sys2Proof.Machine.execOutputOffsetExpiry p cls s
  | .loss p f => Sys2Proof.Machine.execLoss p f s
  | .srq p f => Sys2Proof.Machine.execSrq p f s
  | .sraReady p late => Sys2Proof.Machine.execSraReady p late s
  | .srFinal p v => Sys2Proof.Machine.execSrFinal p v s
  | .discR p f rtd => Sys2Proof.Machine.execDiscR p f rtd s
  | .discTimeout p => Sys2Proof.Machine.execDiscTimeout p s
  | .enumD p f => Sys2Proof.Machine.execEnumD p f s
  | .enumTimeout p => Sys2Proof.Machine.execEnumTimeout p s
  | .dirrep p f => Sys2Proof.Machine.execDirrep p f s
  | .autoStart p => Sys2Proof.Machine.execAutoStart p s
  | .rediscovery p => Sys2Proof.Machine.execRediscovery p s
  | .token p f => Sys2Proof.Machine.execToken p f s
  | .tsnTransmit p c => Sys2Proof.Machine.execTsnTransmit p c s
  | .tsnRxFrame p f => Sys2Proof.Machine.execTsnRxFrame p f s
  | .tsnLinkChange p up => Sys2Proof.Machine.execTsnLinkChange p up s
  | .gclCycleStart p => Sys2Proof.Machine.execGclCycleStart p s
  | .gclEntryChange p => Sys2Proof.Machine.execGclEntryChange p s
  | .pcieCompletion n k d => Sys2Proof.Machine.execPcieCompletion n k d s
  | .pcieCompletionTimeout n => Sys2Proof.Machine.execPcieCompletionTimeout n s
  | .pcieInboundRequest r => Sys2Proof.Machine.execPcieInboundRequest r s
  | .pcieLinkChange up gen width => Sys2Proof.Machine.execPcieLinkChange up gen width s
  | .pcieErrorMessage => Sys2Proof.Machine.execPcieErrorMessage s
  | .hseSlotTake q => Sys2Proof.Machine.execHseSlotTake q s
  | .hseFlushTimer tier => Sys2Proof.Machine.execHseFlushTimer tier s
  | .hseUnitAppend tier => Sys2Proof.Machine.execHseUnitAppend tier s
  | .hseAppendComplete tier lba => Sys2Proof.Machine.execHseAppendComplete tier lba s
  | .hseCommandTimeout tier => Sys2Proof.Machine.execHseCommandTimeout tier s
  | .hseCheckpoint tier => Sys2Proof.Machine.execHseCheckpoint tier s
  | .checkpointDone w v => Sys2Proof.Machine.execCheckpointDone w v s
  | .hseRead result => Sys2Proof.Machine.execHseRead result s
  | .driveRetire n => Sys2Proof.Machine.execDriveRetire n s
  | .driveAttach n zones => Sys2Proof.Machine.execDriveAttach n zones s
  | .pairLinkUp => Sys2Proof.Machine.execPairLinkUp s
  | .hello serial strap epoch => Sys2Proof.Machine.execHello serial strap epoch s
  | .helloSend => Sys2Proof.Machine.execHelloSend s
  | .joinTimeout => Sys2Proof.Machine.execJoinTimeout s
  | .heartbeat role sync epoch now seq => Sys2Proof.Machine.execHeartbeat role sync epoch now seq s
  | .pairHeartbeatSend => Sys2Proof.Machine.execPairHeartbeatSend s
  | .tokenSend => Sys2Proof.Machine.execTokenSend s
  | .mirror seq pa w => Sys2Proof.Machine.execMirror seq pa w s
  | .framecopy seq p f arrival => Sys2Proof.Machine.execFramecopy seq p f arrival s
  | .portrec seq p d => Sys2Proof.Machine.execPortrec seq p d s
  | .copy seq pa w => Sys2Proof.Machine.execCopy seq pa w s
  | .repairq pa => Sys2Proof.Machine.execRepairq pa s
  | .repaira pa w => Sys2Proof.Machine.execRepaira pa w s
  | .repairTimeout pa => Sys2Proof.Machine.execRepairTimeout pa s
  | .giveup epoch => Sys2Proof.Machine.execGiveup epoch s
  | .partnerSuspect => Sys2Proof.Machine.execPartnerSuspect s
  | .lossConfirm => Sys2Proof.Machine.execLossConfirm s
  | .standbyReady => Sys2Proof.Machine.execStandbyReady s
  | .sendQueueStall => Sys2Proof.Machine.execSendQueueStall s
  | .gcmEnc q => Sys2Proof.Machine.execGcmEnc q s
  | .gcmDec q => Sys2Proof.Machine.execGcmDec q s
  | .ctr q => Sys2Proof.Machine.execCtr q s
  | .cmac q => Sys2Proof.Machine.execCmac q s
  | .sha256 q => Sys2Proof.Machine.execSha256 q s
  | .sha384 q => Sys2Proof.Machine.execSha384 q s
  | .sha512 q => Sys2Proof.Machine.execSha512 q s
  | .sha3256 q => Sys2Proof.Machine.execSha3256 q s
  | .sha3384 q => Sys2Proof.Machine.execSha3384 q s
  | .sha3512 q => Sys2Proof.Machine.execSha3512 q s
  | .ecdsaSign q => Sys2Proof.Machine.execEcdsaSign q s
  | .ecdsaVerify q => Sys2Proof.Machine.execEcdsaVerify q s
  | .ecdsaKeygen q => Sys2Proof.Machine.execEcdsaKeygen q s
  | .mldsaSign q => Sys2Proof.Machine.execMldsaSign q s
  | .mldsaVerify q => Sys2Proof.Machine.execMldsaVerify q s
  | .mldsaKeygen q => Sys2Proof.Machine.execMldsaKeygen q s
  | .mlkemKeygen q => Sys2Proof.Machine.execMlkemKeygen q s
  | .mlkemEncaps q => Sys2Proof.Machine.execMlkemEncaps q s
  | .mlkemDecaps q => Sys2Proof.Machine.execMlkemDecaps q s
  | .keyload q => Sys2Proof.Machine.execKeyload q s
  | .keyclr q => Sys2Proof.Machine.execKeyclr q s
  | .trng q => Sys2Proof.Machine.execTrng q s
  | .cryptoUnitEnd => Sys2Proof.Machine.execCryptoUnitEnd s
  | .cryptoUnitTimeout => Sys2Proof.Machine.execCryptoUnitTimeout s
  | .cryKworldWrite w v => Sys2Proof.Machine.execCryKworldWrite w v s
  | .cryKnresWrite w slot v => Sys2Proof.Machine.execCryKnresWrite w slot v s
  | .secureWindowWrite w n lim v => Sys2Proof.Machine.execSecureWindowWrite w n lim v s
  | .secureWindowEvictDone => Sys2Proof.Machine.execSecureWindowEvictDone s
  | .debugPortAccess a => Sys2Proof.Machine.execDebugPortAccess a s
  | .jtagBypass => Sys2Proof.Machine.execJtagBypass s
  | .jtagIdcode => Sys2Proof.Machine.execJtagIdcode s
  | .jtagSamplePreload => Sys2Proof.Machine.execJtagSamplePreload s
  | .jtagExtest => Sys2Proof.Machine.execJtagExtest s
  | .jtagClamp => Sys2Proof.Machine.execJtagClamp s
  | .jtagHighz => Sys2Proof.Machine.execJtagHighz s
  | .pwrgoodRise => Sys2Proof.Machine.execPwrgoodRise s
  | .pwrgoodFall => Sys2Proof.Machine.execPwrgoodFall s
  | .rstNAssert ns => Sys2Proof.Machine.execRstNAssert ns s
  | .rstNRelease periods => Sys2Proof.Machine.execRstNRelease periods s
  | .brownOut => Sys2Proof.Machine.execBrownOut s
  | .brownOutEnd => Sys2Proof.Machine.execBrownOutEnd s
  | .deviceResetExit => Sys2Proof.Machine.execDeviceResetExit s
  | .imageLoadComplete ok => Sys2Proof.Machine.execImageLoadComplete ok s
  | .imageCheckComplete => Sys2Proof.Machine.execImageCheckComplete s
  | .startupBistComplete pass => Sys2Proof.Machine.execStartupBistComplete pass s
  | .dramTrainingComplete failed cfg => Sys2Proof.Machine.execDramTrainingComplete failed cfg s
  | .coreRelease w v => Sys2Proof.Machine.execCoreRelease w v s
  | .recoveryBarWrite off d mask => Sys2Proof.Machine.execRecoveryBarWrite off d mask s
  | .recoveryCheck => Sys2Proof.Machine.execRecoveryCheck s
  | .mailboxSubmit m => Sys2Proof.Machine.execMailboxSubmit m s
  | .mailboxTimeout m => Sys2Proof.Machine.execMailboxTimeout m s
  | .longCommandComplete m => Sys2Proof.Machine.execLongCommandComplete m s
  | .getInfo m => Sys2Proof.Machine.execGetInfo m s
  | .tlmRead m => Sys2Proof.Machine.execTlmRead m s
  | .evlogRead m => Sys2Proof.Machine.execEvlogRead m s
  | .clkSet m => Sys2Proof.Machine.execClkSet m s
  | .coreFence m => Sys2Proof.Machine.execCoreFence m s
  | .cacheReinit m => Sys2Proof.Machine.execCacheReinit m s
  | .deviceReset m => Sys2Proof.Machine.execDeviceReset m s
  | .settDeviceResetStart => Sys2Proof.Machine.execSettDeviceResetStart s
  | .shutdown m pass => Sys2Proof.Machine.execShutdown m pass s
  | .bistRun m failed => Sys2Proof.Machine.execBistRun m failed s
  | .keyUpdate m => Sys2Proof.Machine.execKeyUpdate m s
  | .ctrAdvance m => Sys2Proof.Machine.execCtrAdvance m s
  | .lcAdvance m => Sys2Proof.Machine.execLcAdvance m s
  | .debugChallenge m => Sys2Proof.Machine.execDebugChallenge m s
  | .debugUnlock m => Sys2Proof.Machine.execDebugUnlock m s
  | .stageWrite m => Sys2Proof.Machine.execStageWrite m s
  | .imgWrite m => Sys2Proof.Machine.execImgWrite m s
  | .imgCheck m => Sys2Proof.Machine.execImgCheck m s
  | .c1Entry core => Sys2Proof.Machine.execC1Entry core s
  | .c2Entry core => Sys2Proof.Machine.execC2Entry core s
  | .c3Entry cluster => Sys2Proof.Machine.execC3Entry cluster s
  | .clusterWake w v => Sys2Proof.Machine.execClusterWake w v s
  | .c4Entry => Sys2Proof.Machine.execC4Entry s
  | .packageWake cause => Sys2Proof.Machine.execPackageWake cause s
  | .toleranceWrite cluster w v => Sys2Proof.Machine.execToleranceWrite cluster w v s
  | .thermalSample readings => Sys2Proof.Machine.execThermalSample readings s
  | .settHeartbeat => Sys2Proof.Machine.execSettHeartbeat s
  | .coreHeartbeat core => Sys2Proof.Machine.execCoreHeartbeat core s
  | .lockstepMismatch => Sys2Proof.Machine.execLockstepMismatch s
  | .clockMonitorFail clock => Sys2Proof.Machine.execClockMonitorFail clock s
  | .settHeartbeatTimeout => Sys2Proof.Machine.execSettHeartbeatTimeout s
  | .coreHeartbeatTimeout core => Sys2Proof.Machine.execCoreHeartbeatTimeout core s
  | .cacheErrorReport stop => Sys2Proof.Machine.execCacheErrorReport stop s
  | .memErrorReport channel n => Sys2Proof.Machine.execMemErrorReport channel n s
  | .memReportMissing channel => Sys2Proof.Machine.execMemReportMissing channel s
  | .overTemperatureReport sensor => Sys2Proof.Machine.execOverTemperatureReport sensor s
  | .voltageSample outside => Sys2Proof.Machine.execVoltageSample outside s
  | .badgerRelease w v => Sys2Proof.Machine.execBadgerRelease w v s
  | .channelPortWrite n portB tid v => Sys2Proof.Machine.execChannelPortWrite n portB tid v s
  | .channelWindowExpiry n => Sys2Proof.Machine.execChannelWindowExpiry n s
  | .channelPeriodExpiry n => Sys2Proof.Machine.execChannelPeriodExpiry n s
  | .channelFailClear n => Sys2Proof.Machine.execChannelFailClear n s
  | .bdgChtidWrite w n v => Sys2Proof.Machine.execBdgChtidWrite w n v s
  | .crtSlotStart => Sys2Proof.Machine.execCrtSlotStart s
  | .crtTestStart => Sys2Proof.Machine.execCrtTestStart s
  | .crtTestEnd pass => Sys2Proof.Machine.execCrtTestEnd pass s
  | .crtLapse core => Sys2Proof.Machine.execCrtLapse core s
  | .wayRetire w slice v => Sys2Proof.Machine.execWayRetire w slice v s
  | .wayRetireDone slice => Sys2Proof.Machine.execWayRetireDone slice s
  | .registerWrite w pa v => Sys2Proof.Machine.execRegisterWrite w pa v s
  | .undefinedOpcode t => Sys2Proof.Machine.execUndefinedOpcode t s
  | .instructionFetchFault t k => Sys2Proof.Machine.execInstructionFetchFault t k s
  | .gateEdge u c pos => Sys2Proof.Machine.execGateEdge u c pos s
  | .inhibitPinRelease => Sys2Proof.Machine.execInhibitPinRelease s
  | .gateFaultPinRelease u => Sys2Proof.Machine.execGateFaultPinRelease u s
  | .comparatorInRange n bits => Sys2Proof.Machine.execComparatorInRange n bits s
  | .pairLinkDown => Sys2Proof.Machine.execPairLinkDown s
  | .pairFrameCrcError => Sys2Proof.Machine.execPairFrameCrcError s
  | .rinolinkFrameDiscard p => Sys2Proof.Machine.execRinolinkFrameDiscard p s
  | .vddAonApply => Sys2Proof.Machine.execVddAonApply s
  | .vddAonLoss => Sys2Proof.Machine.execVddAonLoss s

end Sys2Proof.Machine
end

