-- ==== Sys2Proof/Machine/Upset.lean ====
section
/-! DEFINITION. What the hardware does with an error in one of its arrays: correction, POISON, invalidation, counts and reports (02 R44; 08
R286; 09 R297, R314, R315, R333). When one occurs is a free value, drawn once in each period of the reference (log 69). -/

namespace Sys2Proof.Machine

/-- A word whose data an uncorrectable error has taken: POISON, with free data (02 R44, 09 R315). -/
def State.spoiled (s : State) : TWord := { data := Config.freeValue s.fresh, tag := Tag.poison }

/-- A word that a cache array cannot correct is POISON in that array, from which it is delivered (09 R315). -/
def State.poisonL2 (s : State) (k slot : Nat) (l : L2Line) (i : Nat) : State :=
  { s.modCluster k (fun c => { c with l2 := tput c.l2 slot { l with ws := l.ws.set i s.spoiled } }) with fresh := s.fresh + 1 }

def State.poisonL3 (s : State) (key : Nat) (l : L3Line) (i : Nat) : State :=
  { s with l3 := tput s.l3 key { l with ws := l.ws.set i s.spoiled }, fresh := s.fresh + 1 }

/-- An entry of one of a core's translation arrays is removed, so the next lookup misses, and the core's error telemetry counts
(08 R286). An array without that entry has no error. -/
def Core.dropEntry (c : Core) (which n : Nat) : Core :=
  let len := match which with
    | 0 => c.itlb.length
    | 1 => c.dtlb.length
    | 2 => c.l2tlb.length
    | _ => c.wcache.length
  let c1 := if n < len then { c with tlbPars := c.tlbPars + 1 } else c
  match which with
  | 0 => { c1 with itlb := c.itlb.eraseIdx n }
  | 1 => { c1 with dtlb := c.dtlb.eraseIdx n }
  | 2 => { c1 with l2tlb := c.l2tlb.eraseIdx n }
  | _ => { c1 with wcache := c.wcache.eraseIdx n }

/-- A parity error in an L1 line: the line goes, and L1ERR and the core's error telemetry count (09 R314, R331; 17 R579). -/
def Core.dropParity (c : Core) (icache : Bool) (slot : Nat) : Core :=
  if icache then
    if (tfind c.l1i slot).isNone then c
    else { c with l1i := tdel c.l1i slot, l1err := setBits c.l1err 31 16 (satAdd 0xFFFF (bits c.l1err 31 16) 1), ipars := c.ipars + 1 }
  else if (tfind c.l1d slot).isNone then c
  else { c with l1d := tdel c.l1d slot, l1err := setBits c.l1err 15 0 (satAdd 0xFFFF (bits c.l1err 15 0) 1), dpars := c.dpars + 1 }

/-- A line of an L2 whose tag or state fails in both copies: a clean one is invalidated, a dirty one dropped and reported (09 R315). -/
def State.loseL2Line (s : State) (k slot : Nat) (l : L2Line) : State :=
  let s1 := s.l2Drop k slot l
  if l.st = .m then { s1 with bdg := { s1.bdg with cacheErr := s1.bdg.cacheErr ++ [k] } } else s1

/-- The same of an L3 line, which the slice counts (09 R315, R333). -/
def State.loseL3Line (s : State) (key : Nat) (l : L3Line) : State :=
  let s1 := { s with l3 := tdel s.l3 key }.count (Key.l3Errcnt (key / 65536)) 63 32 1
  if l.dirty then { s1 with bdg := { s1.bdg with cacheErr := s1.bdg.cacheErr ++ [key / 65536] } } else s1

/-- An error in an array takes effect. An array that holds nothing there has none; L1 lines are gone with their core's caches. -/
def State.applyUpset (s : State) (u : Upset) : State :=
  match u with
  | .den t n => if t < 768 ∧ n < 256 then { s.modThr t (fun th => th.setDen n s.spoiled) with fresh := s.fresh + 1 } else s
  | .denCorrected core => if core < 48 then s.modCore core (fun c => { c with denCorrs := c.denCorrs + 1 }) else s
  | .l1 core icache slot => if core < 48 then s.modCore core (fun c => c.dropParity icache slot) else s
  | .tlb core which n => if core < 48 then s.modCore core (fun c => c.dropEntry which n) else s
  | .l2Word k slot i =>
    match tfind (s.cluster k).l2 slot with
    | some l => if l.st = .held ∨ 4 ≤ i then s else s.poisonL2 k slot l i
    | none => s
  | .l2Line k slot =>
    match tfind (s.cluster k).l2 slot with
    | some l => if l.st = .held then s else s.loseL2Line k slot l
    | none => s
  | .l3Word key i corrected =>
    match tfind s.l3 key with
    | some l =>
      if 4 ≤ i then s
      else if corrected then s.count (Key.l3Errcnt (key / 65536)) 31 0 1
      else (s.poisonL3 key l i).count (Key.l3Errcnt (key / 65536)) 63 32 1
    | none => s
  | .l3Line key =>
    match tfind s.l3 key with
    | some l => s.loseL3Line key l
    | none => s
  | .dirEntry h corrected =>
    if 12 ≤ h then s else if corrected then s.count (Key.l3Errcnt h) 31 0 1 else s.count (Key.l3Errcnt h) 63 32 1

/-- One period of the reference: the error that it brings, if any (log 69). -/
def State.upsetTick (s : State) : State :=
  match Config.upset s.fresh with
  | some u => { s with fresh := s.fresh + 1 }.applyUpset u
  | none => { s with fresh := s.fresh + 1 }

end Sys2Proof.Machine
end

