-- ==== Sys2Proof/Machine/Tick.lean ====
section
/-! DEFINITION. What happens in 40 ns in which no command arrives (log 6): one period of the 25 MHz reference. -/

namespace Sys2Proof.Machine

/-- The ports of Rinolink carry 5 bytes each (12 R411). -/
def State.rlkTick (s : State) : State :=
  (List.range 8).foldl (fun s p => if (s.port p).tx.isEmpty then s else s.modPort p (fun x => x.lineAdvance 5)) s

/-- A sync instant that no edge of an external clock met has passed (11 R374). -/
def State.sdTick (s : State) : State := (List.range 32).foldl (fun s l => s.syncResolve l) s

/-- What runs while the device is out of reset: the timebase's 64 ticks (11 R365), the thread watchdogs (07 R257), the lines, the pair
link, what Sett, the crypto engine and boot do on their own where no row does it, the heartbeat deadlines, and errors in the arrays. -/
def State.runTick (s : State) : State :=
  (((((((((((s.tbAdvance 64).sdTick).wdTick).rlkTick).pairTick).cryIdle).settIdle).bootTick).eraseStamp).retireTick).beatTick).upsetTick

/-- One step of the reference: the always-on domain counts while it is powered, and in it the duration of a reset by RST_N (16 R527,
R529). -/
def State.tick (s : State) : State :=
  let s1 := if s.aon.inReset then s else s.runTick
  let a := if s1.aon.rstLow && s1.aon.pwrgood then { s1.aon with rstNs := s1.aon.rstNs + 40 } else s1.aon
  if s1.aon.aon then { s1 with aon := { a with ns := a.ns + 40 } } else s1

end Sys2Proof.Machine
end

