-- ==== Sys2Proof/Safety.lean ====
section
/-! DEFINITION. The terms of the claims: the invariants, when a thread's next instruction issues and what its end leaves, operands
that need no memory access, and what a command leaves of the state. -/

namespace Sys2Proof

/-- The mode an instruction is encoded in. -/
def Ins.compactMode : Ins → Bool
  | .full _ => false
  | .compact _ => true

/-- The bytes of an instruction whose group has no lane modifier (03 R83, R88; 04 R149). -/
def Ins.bytes : Ins → Nat
  | .full e => e.len false
  | .compact c => c.len

/-- An instruction with no operand and every unused field 0 (03 R87, R88; 05 R201). -/
def Ins.bare : Ins → Prop
  | .full e => e.form = 0 ∧ e.ax = false ∧ e.m1 = 0 ∧ e.m2 = 0 ∧ e.m3 = 0
  | .compact c => c.d = 0 ∧ c.s = 0 ∧ c.x = false ∧ c.sg = false ∧ c.sz = 0

/-- A legal RET: no operand, the annul bit free. -/
def Ins.retForm : Ins → Prop
  | .full e => e.form = 0 ∧ e.m1 = 0 ∧ e.m2 = 0 ∧ e.m3 = 0
  | .compact c => c.d.toNat < 2 ∧ c.s = 0 ∧ c.x = false ∧ c.sg = false ∧ c.sz = 0

end Sys2Proof

namespace Sys2Proof.Machine

/-! ## Invariants -/

/-- The memory keeps its canonical form: equal memories are equal data. -/
def State.Inv (s : State) : Prop := s.mem.wf = true

/-- A world and a level that a thread may be at (02 R30): the hypervisor in the normal world alone, the monitor in the secure world
alone. -/
def levelLegal (sec : Bool) (lvl : BitVec 2) : Bool := !(sec && lvl == 2) && !(!sec && lvl == 3)

/-- No thread is at a combination that R30 excludes. -/
def State.LevelsLegal (s : State) : Prop := ∀ t, levelLegal (s.thr t).sec (s.thr t).lvl = true

/-- No store buffer holds more than its 16 entries (09 R300). -/
def State.BuffersFit (s : State) : Prop := ∀ c, (s.core c).sb.length ≤ 16

/-! ## When an instruction issues, and what its end leaves -/

/-- Thread t can issue an instruction of a mode that is not in a delay slot, at an address aligned for the mode, and its fetch buffer
holds the instruction's len bytes (06 R207). -/
def State.Issues (s : State) (t : Nat) (compact : Bool) (len : Nat) : Prop :=
  t < 768 ∧ s.canIssue t = true ∧ bit (s.thr t).ctl 0 = compact ∧ (s.thr t).slot = none ∧
    (s.thr t).pc.toNat % (if compact then 4 else 2) = 0 ∧ (s.thr t).holdsCode (s.thr t).pc len = true

/-- The THCTL that the next instruction runs under (02 R74). -/
def Thread.ctlInForce (th : Thread) : BitVec 8 :=
  match th.old with
  | some o => o.ctl
  | none => th.ctl

/-- A thread at the instruction after one of len bytes, with nothing in flight (03 R85, 06 R232, 02 R74). -/
def Thread.advanced (th : Thread) (len : Nat) : Thread :=
  { th.clear with pc := th.pc + BitVec.ofNat 48 len, tcw := if bit th.tcw 63 then 0 else th.tcw, old := none, entered := false, issued := true }

/-- A trap of thread t's instruction at its own address, outside a delay slot (07 R243). -/
def State.trapped (s : State) (t : Nat) (x : Exn) : State :=
  s.trapEnter t x false (s.thr t).pc none (s.thr t).pc

end Sys2Proof.Machine

namespace Sys2Proof

open Sys2Proof.Machine

/-! ## Operands that need no memory access (03 R95, R100, R101) -/

/-- The word that operand k supplies when its mode is DEN, NUL, an immediate or TLIT. -/
def Enc.plainWord (e : Enc) (arr : Nat) (th : Thread) (k : Nat) : Option TWord :=
  let v := e.ext k
  match e.mode k with
  | 0 => some (th.denWord (bits v 7 0))
  | 5 => some { data := 0, tag := Tag.bits }
  | 6 => some (immWord arr 16 (bits v 15 0))
  | 7 => some (immWord arr 32 (bits v 31 0))
  | 8 => some (immWord arr 64 (bits v 63 0))
  | 9 => some { data := BitVec.ofNat 128 (bits v 15 0 * 2 ^ (16 * bits v 18 16)), tag := Tag.bits }
  | 10 => some { data := BitVec.ofNat 128 (bits v 47 0), tag := BitVec.ofNat 4 (bits v 51 48) }
  | _ => none

/-- The words that step 6 takes from such operands, in turn, when every tag check passes (02 R55); none otherwise. -/
def Enc.plainTake (e : Enc) (arr : Nat) (th : Thread) (acc : Nat → Accept) : Nat → List Role → Option (List TWord)
  | _, [] => some []
  | k, r :: rs =>
    let w : Option TWord :=
      if r.reads then
        match e.plainWord arr th k with
        | some w => (consume th.sec (bit th.ctlInForce 2) (acc k) w).toOption
        | none => none
      else if e.mode k = 0 ∨ e.mode k = 5 then some TWord.fresh else none
    match w, e.plainTake arr th acc (k + 1) rs with
    | some w, some ws => some (w :: ws)
    | _, _ => none

end Sys2Proof

namespace Sys2Proof.Machine

/-- What a data instruction whose operand 1 is a Den word or NUL leaves of its thread: the bytes written, the tag, the flags. -/
def Thread.landed (th : Thread) (e : Enc) (o : DataOut) : Thread :=
  let th1 := match o.res with
    | some (d, mask, tag) =>
      if e.mode 1 = 0 then th.setDen (bits e.x1 7 0) (mergeWord (th.denWord (bits e.x1 7 0)) mask d tag) else th
    | none => th
  { th1 with flags := applyFlags th1.flags o.fl }

/-- A three-operand encoding on Den words, unconditional, with the default lanes: destination d, sources a and b. -/
def denEnc3 (d a b : BitVec 8) : Enc :=
  { cond := 0, form := 3, ax := false, m1 := 0, m2 := 0, m3 := 0, lm := 0, x1 := d.setWidth 64, x2 := a.setWidth 64,
    x3 := b.setWidth 64 }

/-- A two-operand encoding on Den words. -/
def denEnc2 (d a : BitVec 8) : Enc :=
  { cond := 0, form := 2, ax := false, m1 := 0, m2 := 0, m3 := 0, lm := 0, x1 := d.setWidth 64, x2 := a.setWidth 64, x3 := 0 }

/-- The halves of a word. -/
def hiHalf (d : Data) : BitVec 64 := (d >>> 64).setWidth 64
def loHalf (d : Data) : BitVec 64 := d.setWidth 64
def fromHalves (h l : BitVec 64) : Data := h ++ l

/-- A data instruction as its table row gives it: constructor, opcode specification, computation of step 7. -/
structure DataRow where
  instr : Nat → Enc → Instr
  spec : Spec
  compute : Ctx → List TWord → State → Except Nat DataOut

/-- The context of a thread's next full-mode instruction under an opcode's specification. -/
def fullCtx (s : State) (t : Nat) (sp : Spec) (e : Enc) : Ctx :=
  mkCtx s t false e (e.len sp.axIsLm) (sp.arrOf e) (sp.maskOf e) (sp.unsOf e) (sp.satOf e)

/-- The state in which steps 5 to 8 of a full-mode instruction run. -/
def State.issuing (s : State) (t : Nat) (len : Nat) : State := s.setThr t ((s.thr t).onIssue len)

def intRows : List DataRow :=
  [⟨.add, intSpec formsBin [0, 1, 2, 3] true true 1, binOp flNZCV Tag.int laneAdd⟩,
   ⟨.sub, intSpec formsBin [0, 1, 2, 3] true true 1, binOp flNZCV Tag.int laneSub⟩,
   ⟨.neg, intSpec formsUn [0, 1, 2, 3] true false 1, unOp flNZCV Tag.int laneNeg⟩,
   ⟨.abs, intSpec formsUn [0, 1, 2, 3] true false 1, unOp flNZV Tag.int laneAbs⟩,
   ⟨.mul, intSpec formsBin [1, 2, 3] true true 1, binOp flNZV Tag.int laneMul⟩,
   ⟨.mulh, intSpec formsBin [1, 2, 3] false true 1, binOp flNZ Tag.int laneMulh⟩,
   ⟨.mac, intSpec formsAcc [1, 2, 3] true true 1, accOp flNZV Tag.int laneMac⟩,
   ⟨.div, intSpec formsBin [1, 2, 3] false true 1, divOp flNZV Tag.int laneDiv⟩,
   ⟨.rem, intSpec formsBin [1, 2, 3] false true 1, divOp flNZ Tag.int laneRem⟩,
   ⟨.min, intSpec formsBin [0, 1, 2, 3] false true 1, binOp flNZ Tag.int laneLesser⟩,
   ⟨.max, intSpec formsBin [0, 1, 2, 3] false true 1, binOp flNZ Tag.int laneGreater⟩,
   ⟨.cmp, intSpec formsCmp [0, 1, 2, 3] false true 1, cmpOp flNZCV laneSub⟩,
   ⟨.adc, intSpec formsBin [0] false false 0,
      fun x ws s => binOp flNZCV Tag.int (laneAdc (bit (s.thr x.t).flags 2)) x ws s⟩,
   ⟨.sbc, intSpec formsBin [0] false false 0,
      fun x ws s => binOp flNZCV Tag.int (laneSbc (bit (s.thr x.t).flags 2)) x ws s⟩]

def fixRows : List DataRow :=
  [⟨.fxadd, fixSpec formsBin true true, binOp flNZCV Tag.fix laneAdd⟩, ⟨.fxsub, fixSpec formsBin true true, binOp flNZCV Tag.fix laneSub⟩,
   ⟨.fxneg, fixSpec formsUn true false, unOp flNZV Tag.fix laneNeg⟩, ⟨.fxabs, fixSpec formsUn true false, unOp flNZV Tag.fix laneAbs⟩,
   ⟨.fxmul, fixSpec formsBin true true, binOp flNZV Tag.fix laneFxmul⟩, ⟨.fxmac, fixSpec formsAcc true true, accOp flNZV Tag.fix laneFxmac⟩,
   ⟨.fxshl, fixSpec formsThree true true, binOp flNZV Tag.fix laneFxshl⟩,
   ⟨.fxshr, fixSpec formsThree false true, binOp flNZ Tag.fix laneFxshr⟩,
   ⟨.fxmin, fixSpec formsBin false true, binOp flNZ Tag.fix laneLesser⟩,
   ⟨.fxmax, fixSpec formsBin false true, binOp flNZ Tag.fix laneGreater⟩, ⟨.fxcmp, fixSpec formsCmp false true, cmpOp flNZCV laneFxcmp⟩]

def floatRows : List DataRow :=
  [⟨.fadd, fltSpec formsBin, binOp flNZV Tag.flt laneFadd⟩, ⟨.fsub, fltSpec formsBin, binOp flNZV Tag.flt laneFsub⟩,
   ⟨.fmul, fltSpec formsBin, binOp flNZV Tag.flt laneFmul⟩, ⟨.fdiv, fltSpec formsBin, binOp flNZV Tag.flt laneFdiv⟩,
   ⟨.fsqrt, fltSpec formsUn, unOp flNZV Tag.flt laneFsqrt⟩, ⟨.fma, fltSpec formsAcc, accOp flNZV Tag.flt laneFma⟩,
   ⟨.fmin, fltSpec formsBin, binOp flNZV Tag.flt (laneFminmax false)⟩, ⟨.fmax, fltSpec formsBin, binOp flNZV Tag.flt (laneFminmax true)⟩,
   ⟨.fabs, fltSpec formsUn, unOp flNZ Tag.flt (fun _ w a => fOut w (a % 2 ^ (w - 1)) false)⟩,
   ⟨.fneg, fltSpec formsUn, unOp flNZ Tag.flt (fun _ w a => fOut w (a ^^^ 2 ^ (w - 1)) false)⟩,
   ⟨.fcmpeq, fltSpec formsThree, binOp flNZV Tag.flt laneFcmpeq⟩, ⟨.fcmplt, fltSpec formsThree, binOp flNZV Tag.flt laneFcmplt⟩,
   ⟨.fcmple, fltSpec formsThree, binOp flNZV Tag.flt laneFcmple⟩, ⟨.fcmpun, fltSpec formsThree, binOp flNZ Tag.flt laneFcmpun⟩]

def bitRows : List DataRow :=
  [⟨.and, bitSpec formsBin, binOp flNZ Tag.bits (fun _ w a b => bitOut w (a &&& b) false)⟩,
   ⟨.or, bitSpec formsBin, binOp flNZ Tag.bits (fun _ w a b => bitOut w (a ||| b) false)⟩,
   ⟨.xor, bitSpec formsBin, binOp flNZ Tag.bits (fun _ w a b => bitOut w (a ^^^ b) false)⟩,
   ⟨.andn, bitSpec formsBin, binOp flNZ Tag.bits (fun _ w a b => bitOut w (a &&& (2 ^ w - 1 - b)) false)⟩,
   ⟨.not, bitSpec formsUn, unOp flNZ Tag.bits (fun _ w a => bitOut w (2 ^ w - 1 - a) false)⟩,
   ⟨.shl, bitSpec formsBin, binOp flNZC Tag.bits laneShl⟩, ⟨.shr, bitSpec formsBin, binOp flNZC Tag.bits laneShr⟩,
   ⟨.sar, bitSpec formsBin, binOp flNZC Tag.bits laneSar⟩, ⟨.rol, bitSpec formsBin, binOp flNZC Tag.bits laneRol⟩,
   ⟨.ror, bitSpec formsBin, binOp flNZC Tag.bits laneRor⟩, ⟨.popc, bitSpec formsUn, unOp flZ Tag.bits lanePopc⟩,
   ⟨.clz, bitSpec formsUn, unOp flZ Tag.bits laneClz⟩]

def ptrRows : List DataRow :=
  [⟨.padd, ptrSpec, ptrOut (· + ·)⟩, ⟨.psub, ptrSpec, ptrOut (· - ·)⟩, ⟨.palign, ptrSpec, ptrOut alignPtr⟩,
   ⟨.cvtIf, cvtSpec [1, 2] true accInt, unOp flV Tag.flt (laneToFloat (fun _ _ => 0))⟩,
   ⟨.cvtFi, cvtSpec [1, 2] true accFlt, unOp flV Tag.int (laneFromFloat (fun _ _ => 0))⟩,
   ⟨.cvtXf, cvtSpec [1, 2] true accFix, unOp flV Tag.flt (laneToFloat (fun x w => fixFrac x.uns w))⟩,
   ⟨.cvtFx, cvtSpec [1, 2] true accFlt, unOp flV Tag.fix (laneFromFloat (fun x w => fixFrac x.uns w))⟩,
   ⟨.cvtSd, cvtSpec [1] false accFlt, floatCvt 32⟩, ⟨.cvtDs, cvtSpec [2] false accFlt, floatCvt 64⟩,
   ⟨.asptr, asSpec accInt, retag Tag.ptr⟩, ⟨.ascode, asSpec accInt, retag Tag.code⟩, ⟨.asintP, asSpec (accNamed Tag.ptr), retag Tag.int⟩,
   ⟨.asintX, asSpec accFix, retag Tag.int⟩, ⟨.asfix, asSpec accInt, retag Tag.fix⟩, ⟨.seal, sealSpec, retag Tag.sealed⟩,
   ⟨.unseal, sealSpec, retag Tag.bits⟩]

def moveRows : List DataRow :=
  [⟨.mov, movSpec, fun x ws _ => .ok { res := some ((srcU ws).data, laneBytes x.arr x.mask, (srcU ws).tag), fl := {} }⟩,
   ⟨.tagr, { group := 5, forms := formsCvt },
      fun _ ws _ => .ok { res := some ((srcU ws).tag.setWidth 128, 0xFFFF, Tag.int), fl := { z := some ((srcU ws).tag == 0) } }⟩,
   ⟨.ttst, { group := 5, forms := formsCmp, modes := fun k => if k = 2 then some [6] else none },
      fun x ws _ => .ok { res := none, fl := { t := some (bit x.e.x2 (ws.getD 0 TWord.fresh).tag.toNat) } }⟩,
   ⟨.tagset,
      { group := 5, forms := formsThree, modes := fun k => if k = 3 then some [6] else none,
        acc := fun k => if k = 2 then some [Tag.bits, Tag.int, Tag.fix, Tag.flt, Tag.ptr, Tag.code] else accAny,
        illegal := fun e => if bits e.x3 15 4 != 0 || (tagsetTag e).reserved then some 3 else none,
        denied := fun sec lvl _ e => if tagDenied sec lvl (tagsetTag e) then some 3 else none },
      fun x ws _ => .ok { res := some ((srcA ws).data, 0xFFFF, tagsetTag x.e), fl := {} }⟩]

/-- Every data instruction of the full mode but the block instructions. -/
def dataRows : List DataRow := intRows ++ fixRows ++ floatRows ++ bitRows ++ ptrRows ++ moveRows

/-! ## What an instruction leaves -/

/-- A thread whose Den word d holds v with a tag, and whose flags are updated. -/
def Thread.wrote (th : Thread) (d : Nat) (v : Data) (tag : Tag) (fl : FlagUpd) : Thread :=
  { th.setDen d { data := v, tag := tag } with flags := applyFlags th.flags fl }

/-- A thread whose flags alone are updated. -/
def Thread.flagged (th : Thread) (fl : FlagUpd) : Thread := { th with flags := applyFlags th.flags fl }

/-- The state after an instruction of len bytes that leaves its thread as th and nothing else changed. -/
def State.after (s : State) (t : Nat) (th : Thread) (len : Nat) : State := s.setThr t (th.advanced len)

/-- The instruction writes Den word d, updates flags, goes on after len bytes, and changes nothing else. -/
def State.Yields (s : State) (t : Nat) (i : Instr) (len : Nat) (d : BitVec 8) (v : Data) (tag : Tag) (fl : FlagUpd) : Prop :=
  exec i s = .next (s.after t ((s.thr t).wrote d.toNat v tag fl) len)

/-- The instruction of len bytes raises a trap, with no other effect than those of its issue. -/
def State.Traps (s : State) (t : Nat) (i : Instr) (len : Nat) (x : Exn) : Prop :=
  exec i s = .next ((s.issuing t len).trapped t x)

/-- A full-mode instruction of len bytes of thread t can issue, and its core's store buffer is no fuller than it can be. -/
def State.Ready (s : State) (t len : Nat) : Prop := s.Issues t false len ∧ (s.core (t / 16)).sb.length ≤ 16

/-- The tag of Den word n of thread t. -/
def State.denTag (s : State) (t : Nat) (n : BitVec 8) : Tag := ((s.thr t).denWord n.toNat).tag

/-- The data of Den word n of thread t. -/
def State.denData (s : State) (t : Nat) (n : BitVec 8) : Data := ((s.thr t).denWord n.toNat).data

/-! ## Lanes of 64 bits -/

/-- An operation on both halves of two words, and a property of either half. -/
def half2 (f : BitVec 64 → BitVec 64 → BitVec 64) (a b : Data) : Data := fromHalves (f (hiHalf a) (hiHalf b)) (f (loHalf a) (loHalf b))
def any2 (p : BitVec 64 → BitVec 64 → Bool) (a b : Data) : Bool := p (hiHalf a) (hiHalf b) || p (loHalf a) (loHalf b)

/-- N and Z of a result of two lanes (02 R62). -/
def signs2 (r : Data) : Bool := (hiHalf r).msb || (loHalf r).msb
def zero2 (r : Data) : Bool := hiHalf r == 0 && loHalf r == 0

/-- An exact value does not fit 64 signed bits. -/
def outside64 (x : Int) : Bool := decide (x < -(2 ^ 63)) || decide (2 ^ 63 ≤ x)

/-! ## Lanes of 32 bits -/

/-- Lane i of a word, and the word of four lanes. -/
def quarter (d : Data) (i : Nat) : BitVec 32 := (d >>> (32 * i)).setWidth 32
def fromQuarters (f : Nat → BitVec 32) : Data := f 3 ++ f 2 ++ f 1 ++ f 0

/-- An exact value saturated to 32 signed bits, and whether it lies outside them (04 R121). -/
def sat32 (x : Int) : BitVec 32 := BitVec.ofInt 32 (max (-(2 ^ 31)) (min (2 ^ 31 - 1) x))
def outside32 (x : Int) : Bool := decide (x < -(2 ^ 31)) || decide (2 ^ 31 ≤ x)

/-- A property of some lane, and of every lane. -/
def any4 (p : Nat → Bool) : Bool := p 0 || p 1 || p 2 || p 3

/-- The product of two signed Q31 lanes rounded to nearest, ties toward plus infinity (04 R125). -/
def q31Product (a b : BitVec 32) : Int := (a.toInt * b.toInt + 2 ^ 30) / 2 ^ 31

/-! ## Binary64 lanes (04 R127 to R130) -/

def nan64 (p : BitVec 64) : Bool := p.extractLsb' 52 11 == 0x7FF && p.extractLsb' 0 52 != 0
def snan64 (p : BitVec 64) : Bool := nan64 p && !(p.getLsbD 51)
def inf64 (p : BitVec 64) : Bool := p.extractLsb' 52 11 == 0x7FF && p.extractLsb' 0 52 == 0
def zero64 (p : BitVec 64) : Bool := p.extractLsb' 0 63 == 0
def quiet64 (p : BitVec 64) : BitVec 64 := p ||| 0x0008000000000000
def defaultNan64 : BitVec 64 := 0x7FF8000000000000

/-- An infinity or a zero with a sign. -/
def signed64 (sg : Bool) (p : BitVec 64) : BitVec 64 := if sg then p ||| 0x8000000000000000 else p

/-- The order of values that are no NaN, -0 and +0 being equal; and the order with -0 below +0. -/
def order64 (p : BitVec 64) : Int := if p.msb then -((p.extractLsb' 0 63).toNat : Int) else p.toNat
def total64 (p : BitVec 64) : Int := if p.msb then -((p.extractLsb' 0 63).toNat : Int) - 1 else p.toNat

/-- N, Z of a floating-point result of two lanes, with V (04 R128). -/
def floatFlags (r : Data) (v : Bool) : FlagUpd :=
  { n := some (signs2 r), z := some (zero64 (hiHalf r) && zero64 (loHalf r)), v := some v }

/-- Lanes of all ones where a relation holds, with N, Z and V of a compare (04 R128). -/
def relLanes (p : BitVec 64 → BitVec 64 → Bool) (a b : Data) : Data := half2 (fun x y => if p x y then -1 else 0) a b

/-- The value of a finite lane of width w (04 R127). -/
def floatValue (w a : Nat) : Rat := (fInt w a : Rat) * 2 ^ (fScale w a)

/-- A lane that holds a number that is no infinity. -/
def finiteLane (w a : Nat) : Prop := a < 2 ^ w ∧ isNan w a = false ∧ isInf w a = false

/-! ## Memory operands with flat addresses (03 R95 to R106; 08 R262; 09 R300, R301) -/

/-- Thread t can access the aligned word at pa at once: addresses are physical, the word lies in a tagged region that its world
reaches and that is initialised, and its line needs no fill. -/
def State.Direct (s : State) (t : Nat) (pa : Nat) : Prop :=
  (s.region pa).tagged = true ∧ s.reaches (s.thr t).sec pa = true ∧ s.standbyRefuses pa = false ∧ s.chunkReady pa = true ∧
    s.l1Ready t false (lineOf pa) (s.thr t).sec = true

/-- The thread's accesses are not translated and none has timed out. -/
def State.Flat (s : State) (t : Nat) (sp : Spec) (e : Enc) : Prop :=
  (fullCtx s t sp e).x.en1 = false ∧ (fullCtx s t sp e).x.en2 = false ∧ (s.thr t).late = none

/-- No store of the thread to the aligned word at pa waits in the store buffer. -/
def State.NoOwnStore (s : State) (t : Nat) (pa : Nat) : Prop := ∀ n ∈ (s.core (t / 16)).sb, n.tid = t → n.pa.toNat / 16 ≠ pa / 16

/-- The address that a memory mode without indirection forms for operand k, when its base and index words pass their checks; such
an address reaches bit 47 at most, with 16 bytes from it (03 R95, R97, R98). -/
def State.Addresses (s : State) (t : Nat) (sp : Spec) (e : Enc) (k : Nat) (a : Nat) : Prop :=
  let s1 := s.issuing t (e.len sp.axIsLm)
  isMemMode (e.mode k) = true ∧ isIndMode (e.mode k) = false ∧
    modeAddr (fullCtx s t sp e) k (e.mode k) (e.ext k) s1 = .ok (BitVec.ofNat 64 a, 0) s1 ∧ a + 16 ≤ 2 ^ 48

/-- The 16 bytes at offset off of two words that follow each other in memory. -/
def spanned (lo hi : Data) (off : Nat) : Data := ((hi ++ lo) >>> (8 * off)).setWidth 128

/-- A store-buffer entry of thread t for a word of memory (09 R300). -/
def State.memEntry (s : State) (t : Nat) (pa : Nat) (d : Data) (mask : BitVec 16) (tag : Tag) (legal : Bool) : SbEntry :=
  { tid := t, kind := .mem, pa := BitVec.ofNat 48 pa, data := d, mask := mask, tag := tag, sec := (s.thr t).sec, lvl := (s.thr t).lvl,
    legal := legal }

/-- The newest value of one byte as a reader finds it (02 R50, 09 R300). -/
def State.visByte (s : State) (a : Nat) : Byte := ((s.visWord a).data >>> (8 * (a % 16))).setWidth 8

/-- Only thread t, its core, and the order in which DRAM is initialised differ. -/
def State.OnlyThread (s : State) (t : Nat) (u : State) : Prop :=
  u = { s with threads := u.threads, cores := u.cores, dram := u.dram } ∧ (∀ k, k ≠ t → u.thr k = s.thr k) ∧
    (∀ c, c ≠ t / 16 → u.core c = s.core c) ∧ u.dram = { s.dram with promo := u.dram.promo }

/-! ## Compact mode (02 R78 to R81, 04 R149) -/

/-- A word that a Compact read takes as it is: no POISON, no UNINIT, and SEALED in the secure world only (02 R81). -/
def Thread.reads32 (th : Thread) (g : Tag) : Prop := g ≠ Tag.poison ∧ g ≠ Tag.uninit ∧ (g = Tag.sealed → th.sec = true)

/-- Bits 31:0 of a word. -/
def low32 (d : Data) : BitVec 32 := d.setWidth 32

/-- The context of a thread's next Compact instruction. -/
def compactCtx (s : State) (t : Nat) (c : CEnc) : Ctx := mkCtx s t true c.enc c.len 2 1 false false

/-- The virtual address of a Compact address, where the sum stays below 2^48 (02 R79). -/
def State.compactVa (s : State) (t : Nat) (a : BitVec 32) : Nat := a.toNat + bits (s.thr t).cbase 47 14 * 2 ^ 14

/-- The instruction of a mode issues in its mode and its condition holds. -/
def State.Runs (s : State) (t : Nat) (i : Ins) : Prop :=
  s.Issues t i.compactMode i.bytes ∧ condHolds (insCond i) (s.thr t).flags = true

/-! ## Control transfers (05 R158 to R190) -/

/-- The instruction is a legal BR or CALL whose target word passes its checks and is the address a: the value of mode PCA, a Den
word or an immediate, or in Compact mode the Den word S or the extension added to the Compact PC (05 R159, R201; log 37). -/
def State.Targets (s : State) (t : Nat) (i : Ins) (a : Nat) : Prop :=
  let th := s.thr t
  a < 2 ^ 48 ∧
  match i with
  | .full e =>
    decodeCheck branchSpec false e = none ∧ levelCheck branchSpec th.sec th.lvl th e = none ∧
    ((e.mode 1 = 0x0C ∧ (BitVec.ofNat 64 a : BitVec 64) = th.pc.setWidth 64 + (e.x1.setWidth 32).signExtend 64) ∨
     (∃ w, e.plainWord 0 th 1 = some w ∧ w.data.toNat % 2 ^ 64 = a ∧
       (w.tag = Tag.code ∨ (bit th.ctlInForce 4 = false ∧ (w.tag = Tag.int ∨ w.tag = Tag.bits)))))
  | .compact c =>
    compactBranchFields c = none ∧
    (if c.x then a = s.compactVa t (BitVec.ofNat 32 (compactPc (compactCtx s t c) s) + c.ext)
     else th.reads32 (th.denWord c.s.toNat).tag ∧ a = s.compactVa t (low32 (th.denWord c.s.toNat).data))

/-- A HINGE with a request base and IMM16, in either mode (05 R187). -/
def hingeIns (compact : Bool) (cond : BitVec 4) (ax : Bool) (base : BitVec 8) (imm : BitVec 16) : Ins :=
  if compact then .compact { cond := cond, d := base, s := 0, x := true, sg := false, sz := 0, ext := imm.setWidth 32 }
  else .full { cond := cond, form := 2, ax := ax, m1 := 0, m2 := 6, m3 := 0, lm := 0, x1 := base.setWidth 64, x2 := imm.setWidth 64,
               x3 := 0 }

/-- A thread whose next instruction is a delay slot. -/
def Thread.slotted (th : Thread) (next : Option Addr) (annul call : Bool) : Thread :=
  { th with slot := some { next := next, annul := annul, call := call } }

/-! ## Locations of slots and atomics (05 R181 to R184, R202) -/

/-- An instruction of group 9 can act at once on the location at a: the operand k of a full-mode instruction or the address that a
Compact one forms, n-byte aligned, not translated, with every earlier store of the thread visible. -/
def State.Location (s : State) (t : Nat) (i : Ins) (k n a : Nat) : Prop :=
  let w := a / 16 * 16
  let sp : Spec := { group := 9, forms := [] }
  a % n = 0 ∧ s.Direct t w ∧ s.drained t = true ∧ s.mirrorRoom w = true ∧ (s.core (t / 16)).sb.length ≤ 16 ∧ a + 16 ≤ 2 ^ 48 ∧
    match i with
    | .full e => s.Flat t sp e ∧ s.Addresses t sp e k a
    | .compact c =>
      compactLocFields c = none ∧ (s.thr t).reads32 ((s.thr t).denWord c.s.toNat).tag ∧
      a = s.compactVa t (low32 ((s.thr t).denWord c.s.toNat).data + if c.x then c.ext else 0) ∧
      (compactCtx s t c).x.en1 = false ∧ (compactCtx s t c).x.en2 = false ∧ (s.thr t).late = none

/-- The state after a whole word has been written at a and the thread's instruction has ended (05 R181, R182). -/
def State.stored (s : State) (t a : Nat) (w : TWord) (th : Thread) (len : Nat) : State :=
  (s.storeVisible (t / 64) (a / 16 * 16) 0xFFFF w.data w.tag).after t th len

/-- WAITD on the words from n that a mask names, on one word, or its Compact form (05 R174). -/
def waitIns (compact : Bool) (cond : BitVec 4) (n : BitVec 8) (mask : Option (BitVec 16)) : Ins :=
  if compact then .compact { cond := cond, d := n, s := 0, x := false, sg := false, sz := 0, ext := 0 }
  else match mask with
    | some m => .full { cond := cond, form := 2, ax := false, m1 := 0, m2 := 6, m3 := 0, lm := 0, x1 := n.setWidth 64,
                        x2 := m.setWidth 64, x3 := 0 }
    | none => .full { cond := cond, form := 1, ax := false, m1 := 0, m2 := 0, m3 := 0, lm := 0, x1 := n.setWidth 64, x2 := 0, x3 := 0 }

/-- The words that such a WAITD selects. -/
def waitSet (compact : Bool) (n : BitVec 8) (mask : Option (BitVec 16)) : List Nat :=
  match mask with
  | some m => if compact then [n.toNat] else ((List.range 16).filter (fun k => m.getLsbD k)).map (fun k => (n.toNat + k) % 256)
  | none => [n.toNat]

/-- The fetch buffer of thread t holds the instruction that follows one of len bytes, or its request found a fault (06 R219). -/
def State.HoldsNext (s : State) (t len : Nat) : Prop := (s.issuing t len).holdsNext { fetchCtx s t with len := len } = true

/-- No DMA access has to wait for a chunk of DRAM or for room in the pair's send queue, and no command is in progress (10 R353, 14 R474). -/
def State.Initialised (s : State) : Prop :=
  s.dmaWait = none ∧ (∀ a, s.chunkReady a = true) ∧ (s.pair.mirrors = false ∨ s.pair.used + 2 ≤ 512)

/-! ## Replies of Sett (17 R553 to R559) -/

/-- The turn of a waiting mailbox: secure before 8 before normal, each after the one of its group served last (17 R556). -/
def State.SettTurn (s : State) (m : Nat) : Prop :=
  let rank (j : Nat) : Nat := if j < 4 then 5 + (j + 3 * s.sett.lastN + 3) % 4 else if j < 8 then (j + 3 * s.sett.lastS + 3) % 4 else 4
  (s.mbx m).waiting = true ∧ ∀ j < 9, j ≠ m → (s.mbx j).waiting = true → rank m < rank j

/-- Mailbox m's request is served with a status and a payload, and P says what else the command leaves: BUSY is cleared, DONE set, the
header and the payload written and the source raised; a late reply is discarded and counted (17 R553, R554, R559). -/
def State.Answered (s : State) (m : Nat) (o : Out) (status : Nat) (ws : List W64) (P : State → Prop) : Prop :=
  ∃ y, o = .next y ∧ P y ∧ (y.mbx m).waiting = false ∧ (y.mbx m).words = (s.mbx m).words ∧
    y.sett.lastS = (if 4 ≤ m ∧ m < 8 then m else s.sett.lastS) ∧ y.sett.lastN = (if m < 4 then m else s.sett.lastN) ∧
    ((s.mbx m).late = false →
      let w0 := (s.mbx m).words.headD 0
      y.rb (mbCtl m) 1 = false ∧ y.rb (mbCtl m) 2 = true ∧
      (y.reg (mbRsp m 0)).toNat = bits w0 15 0 + ws.length * 2 ^ 16 + bits w0 31 24 * 2 ^ 24 + status * 2 ^ 32 ∧
      (∀ i < ws.length, y.reg (mbRsp m (i + 1)) = ws.getD i 0) ∧
      (m < 8 → s.rf (Key.evrBind (376 + m)) 35 32 ≠ 0 → tfind y.evPend (376 + m) = some 1)) ∧
    ((s.mbx m).late = true → y.rf Key.settLate 31 0 = min (2 ^ 32 - 1) (s.rf Key.settLate 31 0 + 1) ∧
      y.rb (mbCtl m) 1 = s.rb (mbCtl m) 1 ∧ y.rb (mbCtl m) 2 = s.rb (mbCtl m) 2 ∧ y.reg (mbRsp m 0) = s.reg (mbRsp m 0))

/-- But for the reply of mailbox m, y is v. -/
def State.ButReply (m : Nat) (v y : State) : Prop :=
  { y with sett := v.sett, regs := v.regs, evPend := v.evPend, evBind := v.evBind } = v ∧ y.sett.stage = v.sett.stage ∧ (y.mbx m).long = (v.mbx m).long ∧
  (∀ j < 9, j ≠ m → y.mbx j = v.mbx j) ∧
  ∀ k, (∀ w < 32, k ≠ mbRsp m w) → k ≠ mbCtl m → k ≠ Key.evrDrop → k ≠ Key.settLate → y.reg k = v.reg k

/-! ## Tables -/

/-- The keys of a table rise strictly. -/
def risingKeys {α : Type} (t : Tab α) : Prop := (t.map (·.1)).Pairwise (· < ·)

end Sys2Proof.Machine
end

