-- ==== Sys2Proof/Certificates/Slice0/Obligations.lean ====
section
/-! DEFINITION. The statements for the provers, each formalising the rules of spec/ that its docstring names. -/

open Sys2Proof Sys2Proof.Machine

/-- A step of a state whose queue is not empty takes the command at its front and is exactly that command's effect on the state
with the rest of the queue (the queue is the model's, log 1) (00_how_to_read, 95_operation_index). -/
def Obligations.StepRunsFront : Prop :=
  ∀ (c : Instr) (r : List Instr) (s : State), s.pending = c :: r → step s = exec c { s with pending := r }

/-- Whatever command is run, the next state holds the same waiting commands (the queue is the model's, log 1) (00_how_to_read,
95_operation_index). -/
def Obligations.QueueUntouched : Prop :=
  ∀ (c : Instr) (s u : State), exec c s = .next u → u.pending = s.pending

/-- Every command that names only units the part has answers a next state in every state, and every other command stops with the
fault noSuchUnit (log 4) (R8, R10, 95_operation_index). -/
def Obligations.CommandsRun : Prop :=
  ∀ (c : Instr) (s : State),
    (c.wf = true → ∃ u, exec c s = .next u) ∧ (c.wf = false → exec c s = .fault .noSuchUnit)

/-- From any state whose memory lists addresses and word numbers strictly rising, with nothing listed that reads as unlisted
memory reads, every step leaves a memory of that form (the form is the model's, log 16) (R50, 10_memory_controllers). -/
def Obligations.MemoryFormKept : Prop :=
  ∀ s u : State, s.Inv → step s = .next u → u.Inv

/-- From any state in which no thread is in the secure world at hypervisor level or in the normal world at monitor level, no step
leaves a thread there (R30). -/
def Obligations.LevelsLegalKept : Prop :=
  ∀ s u : State, s.LevelsLegal → step s = .next u → u.LevelsLegal

/-- From any state in which every core's store buffer holds at most 16 entries, every step leaves at most 16 in each (R300, R211).
-/
def Obligations.StoreBuffersKept : Prop :=
  ∀ s u : State, s.BuffersFit → step s = .next u → u.BuffersFit

/-- At reset the memory has its canonical form, no thread is at a reserved combination of world and level, and no store buffer
holds more than 16 entries (R30, R50, R300). -/
def Obligations.InvariantsAtReset : Prop :=
  State.reset.Inv ∧ State.reset.LevelsLegal ∧ State.reset.BuffersFit

/-- For every data instruction of the integer, fixed-point, floating-point, bitwise, pointer and conversion, move and tag groups,
in any form, arrangement and lane mask, with operands that are Den words, NUL, immediates or TLIT: when it issues, its encoding
and level are legal, its condition holds and its sources pass their tag checks, exec answers the next state in which the
destination's enabled lanes hold what its operation computes, the tag and the flags are the operation's, the PC is the next
instruction's, and nothing else has changed (R93, R94, R100, R101, R107, R55). -/
def Obligations.DataInstructionEffect : Prop :=
  ∀ r ∈ dataRows, ∀ (s : State) (t : Nat) (e : Enc) (roles : List Role) (ws : List TWord) (o : DataOut),
    s.Ready t (e.len r.spec.axIsLm) → decodeCheck r.spec false e = none → levelCheck r.spec (s.thr t).sec (s.thr t).lvl (s.thr t) e = none →
    condHolds e.cond (s.thr t).flags = true → r.spec.roles e.form.toNat = some roles →
    e.plainTake (r.spec.arrOf e) (s.thr t) r.spec.acc 1 roles = some ws →
    r.compute (fullCtx s t r.spec e) ws (s.issuing t (e.len r.spec.axIsLm)) = .ok o →
    ((roles.getD 0 .src).writes = true → e.mode 1 = 0 ∨ e.mode 1 = 5) →
    exec (r.instr t e) s = .next (s.after t ((s.thr t).landed e o) (e.len r.spec.axIsLm))

/-- For every data instruction, in any form: when it issues with a legal encoding at a permitted level and its condition fails,
exec answers the next state in which the thread is at the instruction after it and nothing else has changed. For every data
instruction that issues: when a check of its encoding fails, it raises an illegal-instruction trap that records STEP 2 and the
operand, and when the encoding is legal and its level or world is not permitted, a privilege fault that records STEP 3; in both
cases it has no effect but the trap. For every data instruction that issues with a legal encoding at a permitted level and a
condition that holds, whose operands are Den words, NUL or immediates: when the sources before operand k pass their checks and
operand k's word fails one, the instruction traps with that check's code, STEP 6 and operand k, and has no other effect than the
trap (R94, R107, R108, R235, R241, R53, R55). -/
def Obligations.NotPerformed : Prop :=
  (∀ r ∈ dataRows, ∀ (s : State) (t : Nat) (e : Enc),
    s.Issues t false (e.len r.spec.axIsLm) → decodeCheck r.spec false e = none → levelCheck r.spec (s.thr t).sec (s.thr t).lvl (s.thr t) e = none →
    condHolds e.cond (s.thr t).flags = false →
    exec (r.instr t e) s = .next (s.after t (s.thr t) (e.len r.spec.axIsLm))) ∧
  (∀ r ∈ dataRows, ∀ (s : State) (t : Nat) (e : Enc) (k : Nat), s.Issues t false (e.len r.spec.axIsLm) →
    (decodeCheck r.spec false e = some k →
      s.Traps t (r.instr t e) (e.len r.spec.axIsLm) { code := 0x01, step := 2, opnd := k }) ∧
    (decodeCheck r.spec false e = none → levelCheck r.spec (s.thr t).sec (s.thr t).lvl (s.thr t) e = some k →
      s.Traps t (r.instr t e) (e.len r.spec.axIsLm) { code := 0x02, step := 3, opnd := k })) ∧
  (∀ r ∈ dataRows, ∀ (s : State) (t : Nat) (e : Enc) (roles : List Role) (ws : List TWord) (k : Nat) (w : TWord) (c : Nat),
    s.Issues t false (e.len r.spec.axIsLm) → decodeCheck r.spec false e = none → levelCheck r.spec (s.thr t).sec (s.thr t).lvl (s.thr t) e = none →
    condHolds e.cond (s.thr t).flags = true → r.spec.roles e.form.toNat = some roles →
    (∀ j, 1 ≤ j → j ≤ roles.length → e.mode j ∈ [0, 5, 6, 7, 8, 9, 10]) → 1 ≤ k → k ≤ roles.length →
    e.plainTake (r.spec.arrOf e) (s.thr t) r.spec.acc 1 (roles.take (k - 1)) = some ws →
    (roles.getD (k - 1) .dst).reads = true → e.plainWord (r.spec.arrOf e) (s.thr t) k = some w →
    consume (s.thr t).sec (bit (s.thr t).ctlInForce 2) (r.spec.acc k) w = .error c →
    s.Traps t (r.instr t e) (e.len r.spec.axIsLm) { code := c, step := 6, opnd := k })

/-- On Den words of tag INT or BITS in the default arrangement, ADD, SUB, NEG, ABS, MUL, MULH, MAC, MIN, MAX and CMP, and ADC and
SBC on 128 bits, write the two's-complement results that the integer table names with tag INT, set N, Z, C and V as R62 and R120
give them for each lane, and change nothing else. On Den words of tag INT or BITS in the default arrangement, DIV writes the
quotients rounded toward zero and REM the remainders with the sign of the dividend when no divisor lane is 0; DIV sets V exactly
when a lane divides the most negative number by -1; when a divisor lane is 0, each raises a divide-by-zero fault at step 7 and
writes nothing (R62, R119, R120, R121, R122, R243). -/
def Obligations.IntegerInstructions : Prop :=
  (∀ (s : State) (t : Nat) (d a b : BitVec 8), s.Ready t 10 →
    (s.denTag t a = Tag.int ∨ s.denTag t a = Tag.bits) → (s.denTag t b = Tag.int ∨ s.denTag t b = Tag.bits) →
    (s.denTag t d = Tag.int ∨ s.denTag t d = Tag.bits) →
    let x := s.denData t a
    let y := s.denData t b
    let z := s.denData t d
    let cin := (s.thr t).flags.getLsbD 2
    let gives (i : Instr) (len : Nat) (r : Data) (c v : Option Bool) : Prop :=
      s.Yields t i len d r Tag.int { n := some (signs2 r), z := some (zero2 r), c := c, v := v }
    let gives128 (i : Instr) (r : Data) (c v : Bool) : Prop :=
      s.Yields t i 10 d r Tag.int { n := some r.msb, z := some (r == 0), c := some c, v := some v }
    gives (.add t (denEnc3 d a b)) 10 (half2 (· + ·) x y) (some (any2 (fun p q => decide (2 ^ 64 ≤ p.toNat + q.toNat)) x y))
      (some (any2 BitVec.saddOverflow x y)) ∧
    gives (.sub t (denEnc3 d a b)) 10 (half2 (· - ·) x y) (some (any2 (fun p q => decide (q.toNat ≤ p.toNat)) x y))
      (some (any2 BitVec.ssubOverflow x y)) ∧
    gives (.neg t (denEnc2 d a)) 8 (half2 (fun p _ => -p) x x) (some (any2 (fun p _ => p == 0) x x))
      (some (any2 (fun p _ => p == BitVec.intMin 64) x x)) ∧
    gives (.abs t (denEnc2 d a)) 8 (half2 (fun p _ => if p.msb then -p else p) x x) none
      (some (any2 (fun p _ => p == BitVec.intMin 64) x x)) ∧
    gives (.mul t (denEnc3 d a b)) 10 (half2 (· * ·) x y) none (some (any2 (fun p q => outside64 (p.toInt * q.toInt)) x y)) ∧
    gives (.mulh t (denEnc3 d a b)) 10 (half2 (fun p q => BitVec.ofInt 64 (p.toInt * q.toInt / 2 ^ 64)) x y) none none ∧
    gives (.mac t (denEnc3 d a b)) 10
      (fromHalves (hiHalf z + hiHalf x * hiHalf y) (loHalf z + loHalf x * loHalf y)) none
      (some (outside64 ((hiHalf z).toInt + (hiHalf x).toInt * (hiHalf y).toInt) ||
        outside64 ((loHalf z).toInt + (loHalf x).toInt * (loHalf y).toInt))) ∧
    gives (.min t (denEnc3 d a b)) 10 (half2 (fun p q => if q.slt p then q else p) x y) none none ∧
    gives (.max t (denEnc3 d a b)) 10 (half2 (fun p q => if p.slt q then q else p) x y) none none ∧
    gives128 (.adc t (denEnc3 d a b)) (x + y + (BitVec.ofBool cin).setWidth 128)
      (decide (2 ^ 128 ≤ x.toNat + y.toNat + cin.toNat))
      (decide (x.toInt + y.toInt + cin.toNat < -(2 ^ 127)) || decide (2 ^ 127 ≤ x.toInt + y.toInt + cin.toNat)) ∧
    gives128 (.sbc t (denEnc3 d a b)) (x - y - (BitVec.ofBool !cin).setWidth 128)
      (decide (y.toNat + (!cin).toNat ≤ x.toNat))
      (decide (x.toInt - y.toInt - (!cin).toNat < -(2 ^ 127)) || decide (2 ^ 127 ≤ x.toInt - y.toInt - (!cin).toNat)) ∧
    exec (.cmp t (denEnc2 a b)) s = .next (s.after t ((s.thr t).flagged
      { n := some (signs2 (half2 (· - ·) x y)), z := some (zero2 (half2 (· - ·) x y)),
        c := some (any2 (fun p q => decide (q.toNat ≤ p.toNat)) x y), v := some (any2 BitVec.ssubOverflow x y) }) 8)) ∧
  (∀ (s : State) (t : Nat) (d a b : BitVec 8), s.Ready t 10 →
    (s.denTag t a = Tag.int ∨ s.denTag t a = Tag.bits) → (s.denTag t b = Tag.int ∨ s.denTag t b = Tag.bits) →
    let x := s.denData t a
    let y := s.denData t b
    let q := half2 BitVec.sdiv x y
    let r := half2 BitVec.srem x y
    if any2 (fun _ p => p == 0) x y then
      s.Traps t (.div t (denEnc3 d a b)) 10 { code := 0x18, step := 7 } ∧
      s.Traps t (.rem t (denEnc3 d a b)) 10 { code := 0x18, step := 7 }
    else
      s.Yields t (.div t (denEnc3 d a b)) 10 d q Tag.int
        { n := some (signs2 q), z := some (zero2 q), v := some (any2 (fun n p => n == BitVec.intMin 64 && p == -1) x y) } ∧
      s.Yields t (.rem t (denEnc3 d a b)) 10 d r Tag.int { n := some (signs2 r), z := some (zero2 r) })

/-- On Den words of tag FIX or BITS in the default arrangement, every instruction of the fixed-point group writes in each 32-bit
lane the exact result saturated to the lane's range with tag FIX (FXMUL and FXMAC round the Q31 product to nearest with ties
toward plus infinity, FXSHR rounds the quotient so, shifts take bits 7 to 0 of the lane of operand 3), sets the flags of its row,
with V when an exact result lies outside the range, and changes nothing else (R121, R123, R124, R125, R126). -/
def Obligations.FixedPointResults : Prop :=
  ∀ (s : State) (t : Nat) (d a b : BitVec 8), s.Ready t 10 →
    (s.denTag t a = Tag.fix ∨ s.denTag t a = Tag.bits) → (s.denTag t b = Tag.fix ∨ s.denTag t b = Tag.bits) →
    (s.denTag t d = Tag.fix ∨ s.denTag t d = Tag.bits) →
    let x := quarter (s.denData t a)
    let y := quarter (s.denData t b)
    let z := quarter (s.denData t d)
    let k (i : Nat) : Nat := (y i).toNat % 256
    let shr (i : Nat) : Int :=
      if 32 ≤ k i then 0 else if k i = 0 then (x i).toInt else ((x i).toInt + 2 ^ (k i - 1)) / 2 ^ k i
    let flags (f : Nat → BitVec 32) (c v : Option Bool) : FlagUpd :=
      { n := some (any4 (fun i => (f i).msb)), z := some (!(any4 (fun i => f i != 0))), c := c, v := v }
    let exact (i : Instr) (len : Nat) (f : Nat → Int) (c : Option Bool) : Prop :=
      s.Yields t i len d (fromQuarters (fun i => sat32 (f i))) Tag.fix
        (flags (fun i => sat32 (f i)) c (some (any4 (fun i => outside32 (f i)))))
    let plain (i : Instr) (f : Nat → BitVec 32) : Prop := s.Yields t i 10 d (fromQuarters f) Tag.fix (flags f none none)
    exact (.fxadd t (denEnc3 d a b)) 10 (fun i => (x i).toInt + (y i).toInt)
      (some (any4 (fun i => decide (2 ^ 32 ≤ (x i).toNat + (y i).toNat)))) ∧
    exact (.fxsub t (denEnc3 d a b)) 10 (fun i => (x i).toInt - (y i).toInt)
      (some (any4 (fun i => decide ((y i).toNat ≤ (x i).toNat)))) ∧
    exact (.fxneg t (denEnc2 d a)) 8 (fun i => -(x i).toInt) none ∧
    exact (.fxabs t (denEnc2 d a)) 8 (fun i => ((x i).toInt.natAbs : Int)) none ∧
    exact (.fxmul t (denEnc3 d a b)) 10 (fun i => q31Product (x i) (y i)) none ∧
    exact (.fxmac t (denEnc3 d a b)) 10 (fun i => (z i).toInt + q31Product (x i) (y i)) none ∧
    exact (.fxshl t (denEnc3 d a b)) 10 (fun i => (x i).toInt * 2 ^ k i) none ∧
    plain (.fxshr t (denEnc3 d a b)) (fun i => BitVec.ofInt 32 (shr i)) ∧
    plain (.fxmin t (denEnc3 d a b)) (fun i => if (y i).slt (x i) then y i else x i) ∧
    plain (.fxmax t (denEnc3 d a b)) (fun i => if (x i).slt (y i) then y i else x i) ∧
    exec (.fxcmp t (denEnc2 a b)) s = .next (s.after t ((s.thr t).flagged
      (flags (fun i => x i - y i) (some (any4 (fun i => decide ((y i).toNat ≤ (x i).toNat))))
        (some (any4 (fun i => outside32 ((x i).toInt - (y i).toInt)))))) 8)

/-- On Den words of tag BITS, INT, FIX or FLT in the default arrangement, every instruction of the bitwise and shift group writes
the 128-bit result that its row names with tag BITS and sets the flags of its row; a shift takes its count from bits 7 to 0, one
of the width or more gives 0 or the sign, a rotate takes the count modulo the width, and C is the last bit shifted out or rotated
across the boundary (R62, R131, R132). -/
def Obligations.BitwiseResults : Prop :=
  ∀ (s : State) (t : Nat) (d a b : BitVec 8), s.Ready t 10 →
    s.denTag t a ∈ [Tag.bits, Tag.int, Tag.fix, Tag.flt] → s.denTag t b ∈ [Tag.bits, Tag.int, Tag.fix, Tag.flt] →
    let x := s.denData t a
    let y := s.denData t b
    let k := y.toNat % 256
    let m := k % 128
    let nz (i : Instr) (len : Nat) (r : Data) (c : Option Bool) : Prop :=
      s.Yields t i len d r Tag.bits { n := some r.msb, z := some (r == 0), c := c }
    nz (.and t (denEnc3 d a b)) 10 (x &&& y) none ∧ nz (.or t (denEnc3 d a b)) 10 (x ||| y) none ∧
    nz (.xor t (denEnc3 d a b)) 10 (x ^^^ y) none ∧ nz (.andn t (denEnc3 d a b)) 10 (x &&& ~~~y) none ∧
    nz (.not t (denEnc2 d a)) 8 (~~~x) none ∧
    nz (.shl t (denEnc3 d a b)) 10 (x <<< k) (some (decide (0 < k ∧ k ≤ 128) && x.getLsbD (128 - k))) ∧
    nz (.shr t (denEnc3 d a b)) 10 (x >>> k) (some (decide (0 < k) && x.getLsbD (k - 1))) ∧
    nz (.sar t (denEnc3 d a b)) 10 (x.sshiftRight k) (some (decide (0 < k) && (x.sshiftRight (k - 1)).getLsbD 0)) ∧
    nz (.rol t (denEnc3 d a b)) 10 (x.rotateLeft m) (some (decide (0 < m) && (x.rotateLeft m).getLsbD 0)) ∧
    nz (.ror t (denEnc3 d a b)) 10 (x.rotateRight m) (some (decide (0 < m) && (x.rotateRight m).msb)) ∧
    s.Yields t (.popc t (denEnc2 d a)) 8 d (BitVec.ofNat 128 ((List.range 128).countP (fun i => x.getLsbD i))) Tag.bits
      { z := some (x == 0) } ∧
    s.Yields t (.clz t (denEnc2 d a)) 8 d x.clz Tag.bits { z := some x.msb }

/-- On Den words of tag FLT or BITS in the default arrangement: FABS clears and FNEG inverts the sign bit of each lane, NaNs
included; FCMPUN, and with FTZ = 0 FCMPEQ, FCMPLT and FCMPLE, write all ones in each lane whose relation holds and 0 elsewhere
with N, Z and V as R128 says, a NaN making every relation but FCMPUN's fail; with FTZ = 0 and no NaN, FMIN and FMAX write the
lesser and the greater with -0 below +0; nothing else changes. On Den words of tag FLT or BITS in the default arrangement with FTZ
= 0, FADD, FSUB, FMUL, FDIV and FSQRT complete, write only their destination and the flags, and in each lane give the first NaN
operand made quiet, the default NaN for infinity minus infinity, infinity times zero, infinity over infinity, zero over zero and
the root of a negative number, and an infinity of the exclusive-or of the signs for a finite number that is not 0 divided by zero;
V is 1 when a lane's operation is invalid, divides by zero or has a signalling NaN operand (R127, R128, R129). -/
def Obligations.FloatRules : Prop :=
  (∀ (s : State) (t : Nat) (d a b : BitVec 8), s.Ready t 10 →
    (s.denTag t a = Tag.flt ∨ s.denTag t a = Tag.bits) → (s.denTag t b = Tag.flt ∨ s.denTag t b = Tag.bits) →
    let x := s.denData t a
    let y := s.denData t b
    let ftz := (s.thr t).ctlInForce.getLsbD 5
    let unordered := fun p q => nan64 p || nan64 q
    let signOp (i : Instr) (r : Data) : Prop :=
      s.Yields t i 8 d r Tag.flt { n := some (signs2 r), z := some (zero64 (hiHalf r) && zero64 (loHalf r)) }
    let compare (i : Instr) (p : BitVec 64 → BitVec 64 → Bool) (v : Option Bool) : Prop :=
      s.Yields t i 10 d (relLanes p x y) Tag.flt { n := some (any2 p x y), z := some (!(any2 p x y)), v := v }
    signOp (.fabs t (denEnc2 d a)) (half2 (fun p _ => p &&& 0x7FFFFFFFFFFFFFFF) x x) ∧
    signOp (.fneg t (denEnc2 d a)) (half2 (fun p _ => p ^^^ 0x8000000000000000) x x) ∧
    compare (.fcmpun t (denEnc3 d a b)) unordered none ∧
    (ftz = false →
      compare (.fcmpeq t (denEnc3 d a b)) (fun p q => !(unordered p q) && order64 p == order64 q)
        (some (any2 (fun p q => snan64 p || snan64 q) x y)) ∧
      compare (.fcmplt t (denEnc3 d a b)) (fun p q => !(unordered p q) && decide (order64 p < order64 q))
        (some (any2 unordered x y)) ∧
      compare (.fcmple t (denEnc3 d a b)) (fun p q => !(unordered p q) && decide (order64 p ≤ order64 q))
        (some (any2 unordered x y)) ∧
      (any2 unordered x y = false →
        (let r := half2 (fun p q => if total64 p ≤ total64 q then p else q) x y
         s.Yields t (.fmin t (denEnc3 d a b)) 10 d r Tag.flt (floatFlags r false)) ∧
        (let r := half2 (fun p q => if total64 q ≤ total64 p then p else q) x y
         s.Yields t (.fmax t (denEnc3 d a b)) 10 d r Tag.flt (floatFlags r false))))) ∧
  (∀ (s : State) (t : Nat) (d a b : BitVec 8), s.Ready t 10 →
    (s.denTag t a = Tag.flt ∨ s.denTag t a = Tag.bits) → (s.denTag t b = Tag.flt ∨ s.denTag t b = Tag.bits) →
    (s.thr t).ctlInForce.getLsbD 5 = false →
    let x := s.denData t a
    let y := s.denData t b
    let sg (p q : BitVec 64) : Bool := p.msb != q.msb
    let rule (i : Instr) (len : Nat) (ops : BitVec 64 → BitVec 64 → List (BitVec 64)) (invalid : BitVec 64 → BitVec 64 → Bool)
        (other : BitVec 64 → BitVec 64 → Option (BitVec 64 × Bool)) : Prop :=
      ∃ r v, s.Yields t i len d r Tag.flt (floatFlags r v) ∧
        ∀ h ∈ [hiHalf, loHalf],
          match (ops (h x) (h y)).find? nan64 with
          | some n => h r = quiet64 n ∧ ((ops (h x) (h y)).any snan64 = true → v = true)
          | none =>
            if invalid (h x) (h y) then h r = defaultNan64 ∧ v = true
            else match other (h x) (h y) with
              | some (z, w) => h r = z ∧ (w = true → v = true)
              | none => True
    let both (p q : BitVec 64) : List (BitVec 64) := [p, q]
    let infinity (w : Bool) : BitVec 64 := signed64 w 0x7FF0000000000000
    rule (.fadd t (denEnc3 d a b)) 10 both (fun p q => inf64 p && inf64 q && sg p q)
      (fun p q => if inf64 p then some (p, false) else if inf64 q then some (q, false) else none) ∧
    rule (.fsub t (denEnc3 d a b)) 10 both (fun p q => inf64 p && inf64 q && !(sg p q))
      (fun p q => if inf64 p then some (p, false) else if inf64 q then some (q ^^^ 0x8000000000000000, false) else none) ∧
    rule (.fmul t (denEnc3 d a b)) 10 both (fun p q => (inf64 p && zero64 q) || (zero64 p && inf64 q))
      (fun p q => if inf64 p || inf64 q then some (infinity (sg p q), false)
        else if zero64 p || zero64 q then some (signed64 (sg p q) 0, false) else none) ∧
    rule (.fdiv t (denEnc3 d a b)) 10 both (fun p q => (inf64 p && inf64 q) || (zero64 p && zero64 q))
      (fun p q => if inf64 p then some (infinity (sg p q), false) else if inf64 q then some (signed64 (sg p q) 0, false)
        else if zero64 q then some (infinity (sg p q), true) else if zero64 p then some (signed64 (sg p q) 0, false) else none) ∧
    rule (.fsqrt t (denEnc2 d a)) 8 (fun p _ => [p]) (fun p _ => p.msb && !(zero64 p))
      (fun p _ => if zero64 p || inf64 p then some (p, false) else none))

/-- In rounding mode 0 with FTZ = 0, for finite binary32 or binary64 operands, whenever the lane that FADD, FSUB, FMUL or FMA
computes is finite, no finite value of the format lies nearer to the exact sum, difference, product or product-sum (the lane
functions are those whose results DataInstructionEffect says the instructions write) (R127, R130). -/
def Obligations.FloatNearest : Prop :=
  ∀ (x : Ctx) (w a b d : Nat), (w = 32 ∨ w = 64) → x.rnd = 0 → x.ftz = false → finiteLane w a → finiteLane w b → finiteLane w d →
    let nearest (r : Nat) (v : Rat) : Prop :=
      finiteLane w r → ∀ c, finiteLane w c → |floatValue w r - v| ≤ |floatValue w c - v|
    let va := floatValue w a
    let vb := floatValue w b
    nearest (laneFadd x w a b).r (va + vb) ∧ nearest (laneFsub x w a b).r (va - vb) ∧ nearest (laneFmul x w a b).r (va * vb) ∧
      nearest (laneFma x w d a b).r (va * vb + floatValue w d)

/-- PADD, PSUB and PALIGN on a PTR word and an INT or BITS word replace bits 63:0 as R133 says, keep bits 127:64, write the tag
PTR, set V exactly when bits 63:48 of the result are not all 0, and change nothing else; ASPTR, ASCODE, ASINT.P, ASINT.X, ASFIX
and, in the secure world, SEAL and UNSEAL copy the data of a word of a tag they accept under their result tag and change nothing
else (R133, R134, R136). -/
def Obligations.PointerAndRetagResults : Prop :=
  ∀ (s : State) (t : Nat) (d a b : BitVec 8), s.Ready t 10 →
    let x := s.denData t a
    let y := loHalf (s.denData t b)
    let k := min (y.toNat % 64) 48
    let pointer (i : Instr) (l : BitVec 64) : Prop :=
      s.Yields t i 10 d (fromHalves (hiHalf x) l) Tag.ptr { v := some (l.extractLsb' 48 16 != 0) }
    let retag (i : Instr) (tags : List Tag) (tag : Tag) : Prop := s.denTag t a ∈ tags → s.Yields t i 8 d x tag {}
    (s.denTag t a = Tag.ptr → s.denTag t b = Tag.int ∨ s.denTag t b = Tag.bits →
      pointer (.padd t (denEnc3 d a b)) (loHalf x + y) ∧ pointer (.psub t (denEnc3 d a b)) (loHalf x - y) ∧
      pointer (.palign t (denEnc3 d a b)) ((loHalf x >>> k) <<< k)) ∧
    retag (.asptr t (denEnc2 d a)) [Tag.int, Tag.bits] Tag.ptr ∧ retag (.ascode t (denEnc2 d a)) [Tag.int, Tag.bits] Tag.code ∧
    retag (.asintP t (denEnc2 d a)) [Tag.ptr, Tag.bits] Tag.int ∧ retag (.asintX t (denEnc2 d a)) [Tag.fix, Tag.bits] Tag.int ∧
    retag (.asfix t (denEnc2 d a)) [Tag.int, Tag.bits] Tag.fix ∧
    ((s.thr t).sec = true → retag (.seal t (denEnc2 d a)) [Tag.sealed, Tag.bits] Tag.sealed ∧
      retag (.unseal t (denEnc2 d a)) [Tag.sealed, Tag.bits] Tag.bits)

/-- With FTZ = 0 on Den words of a tag they accept in the default arrangement, the conversions complete and change only their
destination and V; an integer lane of magnitude at most 2^53 becomes the floating value equal to it, a Q63 lane of such a
magnitude the value of its fraction; a floating lane that holds an integer, or a multiple of 2^-63, in range becomes exactly that
lane, a NaN gives 0 with V and an infinity the nearest bound with V; a finite binary32 lane becomes the binary64 lane of the same
value, and CVT.DS leaves lanes 2 and 3 zero (R123, R133, R135). -/
def Obligations.ConversionResults : Prop :=
  ∀ (s : State) (t : Nat) (d a : BitVec 8), s.Ready t 8 → (s.thr t).ctlInForce.getLsbD 5 = false →
    let x := s.denData t a
    let converts (i : Instr) (tags : List Tag) (tag : Tag) (p : BitVec 64 → BitVec 64 → Bool → Prop) : Prop :=
      s.denTag t a ∈ tags → ∃ r v, s.Yields t i 8 d r tag { v := some v } ∧ ∀ h ∈ [hiHalf, loHalf], p (h x) (h r) v
    let intoFloat (frac : Nat) (p r : BitVec 64) (v : Bool) : Prop :=
      v = false ∧ (p.toInt.natAbs ≤ 2 ^ 53 → floatValue 64 r.toNat * 2 ^ frac = p.toInt)
    let fromFloat (frac : Nat) (p r : BitVec 64) (v : Bool) : Prop :=
      (nan64 p = true → r = 0 ∧ v = true) ∧
      (inf64 p = true → v = true ∧ r = if p.msb then BitVec.intMin 64 else BitVec.intMax 64) ∧
      (∀ n : Int, nan64 p = false → inf64 p = false → floatValue 64 p.toNat * 2 ^ frac = n → outside64 n = false →
        r = BitVec.ofInt 64 n)
    converts (.cvtIf t (denEnc2 d a)) [Tag.int, Tag.bits] Tag.flt (intoFloat 0) ∧
    converts (.cvtXf t (denEnc2 d a)) [Tag.fix, Tag.bits] Tag.flt (intoFloat 63) ∧
    converts (.cvtFi t (denEnc2 d a)) [Tag.flt, Tag.bits] Tag.int (fromFloat 0) ∧
    converts (.cvtFx t (denEnc2 d a)) [Tag.flt, Tag.bits] Tag.fix (fromFloat 63) ∧
    (s.denTag t a ∈ [Tag.flt, Tag.bits] →
      (∃ r v, s.Yields t (.cvtSd t (denEnc2 d a)) 8 d r Tag.flt { v := some v } ∧
        (finiteLane 32 (quarter x 0).toNat → floatValue 64 (loHalf r).toNat = floatValue 32 (quarter x 0).toNat) ∧
        (finiteLane 32 (quarter x 1).toNat → floatValue 64 (hiHalf r).toNat = floatValue 32 (quarter x 1).toNat)) ∧
      (∃ r v, s.Yields t (.cvtDs t (denEnc2 d a)) 8 d r Tag.flt { v := some v } ∧ quarter r 2 = 0 ∧ quarter r 3 = 0))

/-- MOV copies a Den word, data and tag, whatever its tag; TAGR writes the source's tag as an INT word and sets Z when it is tag
0; TAGSET copies the data of a word of tag BITS, INT, FIX, FLT, PTR or CODE under the tag that its immediate names, for a tag that
is not reserved, SEALED only in the secure world and POISON only at supervisor level or above; TTST sets T to the bit of its
immediate that the source's tag selects and writes no operand; nothing else changes (R137, R138, R139). -/
def Obligations.MoveAndTagResults : Prop :=
  ∀ (s : State) (t : Nat) (d a : BitVec 8) (g : Tag) (m : BitVec 16), s.Ready t 10 →
    let x := s.denData t a
    s.Yields t (.mov t (denEnc2 d a)) 8 d x (s.denTag t a) {} ∧
    s.Yields t (.tagr t (denEnc2 d a)) 8 d ((s.denTag t a).setWidth 128) Tag.int { z := some (s.denTag t a == 0) } ∧
    (s.denTag t a ∈ [Tag.bits, Tag.int, Tag.fix, Tag.flt, Tag.ptr, Tag.code] → g.reserved = false →
      (g = Tag.sealed → (s.thr t).sec = true) → (g = Tag.poison → (s.thr t).lvl ≠ 0) →
      s.Yields t (.tagset t { denEnc3 d a 0 with m3 := 6, x3 := g.setWidth 64 }) 10 d x g {}) ∧
    exec (.ttst t { denEnc2 a 0 with m2 := 6, x2 := m.setWidth 64 }) s =
      .next (s.after t ((s.thr t).flagged { t := some (m.getLsbD (s.denTag t a).toNat) }) 8)

/-- The tag that a split source carries is the tag of both words when they agree; else the first of POISON, a reserved tag,
SEALED, UNINIT and EMPTY that either word holds, the low word's when both hold different reserved tags; else BITS (R104). -/
def Obligations.SplitTagRule : Prop :=
  ∀ (lo hi : Tag),
    let r := (splitTag lo hi).1
    let holds (g : Tag) : Prop := lo = g ∨ hi = g
    let someReserved : Prop := lo.reserved = true ∨ hi.reserved = true
    if lo = hi then r = lo
    else if holds Tag.poison then r = Tag.poison
    else if someReserved then r = if lo.reserved then lo else hi
    else if holds Tag.sealed then r = Tag.sealed
    else if holds Tag.uninit then r = Tag.uninit
    else if holds Tag.empty then r = Tag.empty
    else r = Tag.bits

/-- A word consumed in a class that accepts the tags of a list raises a poison, reserved-tag, sealed, uninitialised, empty-slot or
tag fault, the first of R55's checks that fails deciding; a FULL word is consumed as BITS and an UNINIT word with UIE = 0 as data
0 with tag BITS; the tag-transparent class takes every word as it is (R55). -/
def Obligations.SourceTagChecks : Prop :=
  ∀ (sec uie : Bool) (ts : List Tag) (w : TWord),
    consume sec uie none w = .ok w ∧
    consume sec uie (some ts) w =
      if w.tag = Tag.poison then .error 0x10
      else if w.tag.reserved = true then .error 0x11
      else if w.tag = Tag.sealed ∧ sec = false then .error 0x12
      else if w.tag = Tag.uninit ∧ uie = true then .error 0x13
      else if w.tag = Tag.empty then .error 0x14
      else
        let v : TWord := if w.tag = Tag.uninit then { data := 0, tag := Tag.bits }
          else if w.tag = Tag.full then { data := w.data, tag := Tag.bits } else w
        if v.tag ∈ ts then .ok v else .error 0x15

/-- With base words tagged PTR, INT or BITS when PCK is 0, or PTR when it is 1, and index words tagged INT or BITS, each direct
memory mode, and each memory-indirect mode before its pointer fetch, forms the address of the mode table, modulo 2^64, with the
index that DIIX and AIX add to the pointer afterwards (R57, R95, R97). -/
def Obligations.AddressingModes : Prop :=
  ∀ (x : Ctx) (k : Nat) (v : BitVec 64) (s : State),
    let den (n : Nat) : TWord := (s.thr x.t).denWord n
    let base (n : Nat) : BitVec 64 := loHalf (den n).data
    let f (lo n : Nat) : Nat := (v.extractLsb' lo n).toNat
    let sx (lo n : Nat) : BitVec 64 := (v.extractLsb' lo n).signExtend 64
    let isBase (n : Nat) : Prop := (den n).tag = Tag.ptr ∨ (x.pck = false ∧ ((den n).tag = Tag.int ∨ (den n).tag = Tag.bits))
    let isIndex (n : Nat) : Prop := (den n).tag = Tag.int ∨ (den n).tag = Tag.bits
    let scaled (m sc : Nat) : BitVec 64 := base m <<< (2 * sc)
    let pc : BitVec 64 := x.pc.setWidth 64
    let forms (m : Nat) (a i : BitVec 64) : Prop := modeAddr x k m v s = .ok (a, i) s
    (isBase (f 0 8) →
      forms 0x0D (base (f 0 8) + sx 8 8 <<< 4) 0 ∧ forms 0x0E (base (f 0 8) + sx 8 24) 0 ∧ forms 0x0F (base (f 0 8) + sx 8 48) 0 ∧
      forms 0x19 (base (f 0 8) + sx 8 8 <<< 4) 0 ∧
      (isIndex (f 8 8) → forms 0x10 (base (f 0 8) + scaled (f 8 8) (f 16 2) + sx 18 14) 0 ∧
        forms 0x11 (base (f 0 8) + BitVec.ofNat 64 ((scaled (f 8 8) (f 21 2)).toNat % 2 ^ f 16 5)) 0 ∧
        forms 0x12 (base (f 0 8) + BitVec.ofNat 64 (16 * ((List.range (f 16 4)).map
          (fun j => ((base (f 8 8)).getLsbD (f 16 4 - 1 - j)).toNat * 2 ^ j)).sum)) 0 ∧
        forms 0x1B (base (f 0 8) + scaled (f 8 8) (f 16 2)) 0) ∧
      (isIndex (f 16 8) → forms 0x1A (base (f 0 8) + sx 8 8 <<< 4) (scaled (f 16 8) (f 24 2)))) ∧
    forms 0x13 (pc + sx 0 16) 0 ∧ forms 0x14 (pc + sx 0 32) 0 ∧ forms 0x1C (pc + sx 0 32) 0 ∧
    forms 0x16 ((v.extractLsb' 0 32).setWidth 64) 0 ∧ forms 0x17 ((v.extractLsb' 0 48).setWidth 64) 0 ∧
    forms 0x1E ((v.extractLsb' 0 48).setWidth 64) 0 ∧
    (isIndex (f 0 8) → forms 0x15 (pc + sx 10 22 + scaled (f 0 8) (f 8 2)) 0 ∧ forms 0x1D (pc + sx 10 22 + scaled (f 0 8) (f 8 2)) 0) ∧
    (isIndex (f 48 8) → forms 0x18 ((v.extractLsb' 0 48).setWidth 64 + scaled (f 48 8) (f 56 2)) 0 ∧
      forms 0x1F ((v.extractLsb' 0 48).setWidth 64) (scaled (f 48 8) (f 56 2)))

/-- When MOV with a Den destination issues, its operand 2 is in a memory mode without indirection that forms the address a, its
accesses are not translated, and each aligned word that the operand touches can be accessed at once with no store of the thread to
it waiting, exec answers the next state in which the destination holds the bytes at a to a + 15 as its cluster sees them with the
word's tag, or with the tag that R104 assembles when a is not a multiple of 16, and nothing else has changed. When MOV from a Den
word issues, its operand 1 is in a memory mode without indirection that forms the address a, its accesses are not translated, each
aligned word that the operand touches can be accessed at once and the store buffer has room, exec answers the next state in which
the core's store buffer has gained one entry with all 16 bytes of the word at a, or two entries with the bytes of each half when a
is not a multiple of 16, each with the source's tag, and nothing else has changed, memory and caches included (R98, R103, R104,
R107, R262, R300, R105). -/
def Obligations.MemoryOperands : Prop :=
  (∀ (s : State) (t : Nat) (d : BitVec 8) (m : BitVec 5) (v : BitVec 64) (a : Nat),
    let e : Enc := { denEnc2 d 0 with m2 := m, x2 := v }
    let w := a / 16 * 16
    let lo := s.seenWord (t / 64) w
    let hi := s.seenWord (t / 64) (w + 16)
    s.Ready t (e.len true) → decodeCheck movSpec false e = none → s.Flat t movSpec e → s.Addresses t movSpec e 2 a →
    s.Direct t w → s.NoOwnStore t w → (a % 16 ≠ 0 → s.Direct t (w + 16) ∧ s.NoOwnStore t (w + 16)) →
    if a % 16 = 0 then s.Yields t (.mov t e) (e.len true) d lo.data lo.tag {}
    else s.Yields t (.mov t e) (e.len true) d (spanned lo.data hi.data (a % 16)) (splitTag lo.tag hi.tag).1 {}) ∧
  (∀ (s : State) (t : Nat) (b : BitVec 8) (m : BitVec 5) (v : BitVec 64) (a : Nat),
    let e : Enc := { denEnc2 0 b with m1 := m, x1 := v }
    let w := a / 16 * 16
    let off := a % 16
    let src := (s.thr t).denWord b.toNat
    let c := t / 16
    let entries := if off = 0 then [s.memEntry t w src.data 0xFFFF src.tag true]
      else [s.memEntry t w (src.data <<< (8 * off)) (0xFFFF <<< off) src.tag false,
            s.memEntry t (w + 16) (src.data >>> (8 * (16 - off))) (0xFFFF >>> (16 - off)) src.tag false]
    s.Ready t (e.len true) → decodeCheck movSpec false e = none → s.Flat t movSpec e → s.Addresses t movSpec e 1 a →
    s.Direct t w → (off ≠ 0 → s.Direct t (w + 16)) → (s.core c).sb.length + entries.length ≤ 16 →
    exec (.mov t e) s = .next ((s.modCore c (fun k => { k with sb := k.sb ++ entries })).after t (s.thr t) (e.len true)))

/-- Whatever the form and operands of a data instruction whose accesses are not translated, a next state differs from the state
only in the thread, in its core (where a store waits in the store buffer), and in the DRAM chunks promoted for initialisation:
every byte of memory, every cache line, every register, every other thread and core is unchanged; a thread whose bank U is busy is
left out, since its trap could be a double trap (R107, R110, R300). -/
def Obligations.DataInstructionFrame : Prop :=
  ∀ r ∈ dataRows, ∀ (s u : State) (t : Nat) (e : Enc),
    (fullCtx s t r.spec e).x.en1 = false → (fullCtx s t r.spec e).x.en2 = false → bit (s.thr t).bankU.stat 32 = false →
    exec (r.instr t e) s = .next u → s.OnlyThread t u

/-- A Compact data operation that issues with a condition that holds, on words that Compact mode can read, its second source being
the Den word S or the extension, writes the 32-bit result of its row into bits 31:0 of D with 0 above and the tag BITS, sets the
flags of its row over one 32-bit lane, and changes nothing else; SG makes MULH, DIV and REM signed, and a DIV or REM by 0 raises a
divide-by-zero fault at step 7 and writes nothing. A Compact LD or ST that issues with a condition that holds forms the address S
+ extension modulo 2^32 plus THCBASE; when its accesses are not translated and the words it touches can be accessed at once, LD
writes the 1, 2 or 4 bytes there, zero- or sign-extended, into D with the tag BITS, and ST adds to the core's store buffer one
entry with those bytes of D and the tag BITS, or two when the item crosses a 16-byte boundary; nothing else changes, memory
included (R78, R81, R120, R150, R151, R79, R80, R149, R152, R300). -/
def Obligations.CompactDataInstructions : Prop :=
  (∀ (s : State) (t : Nat) (c : CEnc),
    let th := s.thr t
    let dTag := (th.denWord c.d.toNat).tag
    let p := low32 (th.denWord c.d.toNat).data
    let q := if c.x then c.ext else low32 (th.denWord c.s.toNat).data
    let k := q.toNat % 32
    let cin := th.flags.getLsbD 2
    let gives (i : Instr) (r : BitVec 32) (cf vf : Option Bool) : Prop :=
      s.Yields t i c.len c.d (r.setWidth 128) Tag.bits { n := some r.msb, z := some (r == 0), c := cf, v := vf }
    let both (i : Instr) (a b : BitVec 32) : Prop := gives i (if c.sg then a else b) none none
    let carry (x : Nat) : Option Bool := some (decide (2 ^ 32 ≤ x))
    let v32 (x : Int) : Option Bool := some (outside32 x)
    s.Issues t true c.len → condHolds c.cond th.flags = true → c.sz = 0 → (c.x = true → c.s = 0) →
    (c.x = false → th.reads32 (th.denWord c.s.toNat).tag) →
    (c.sg = false →
      gives (.compactMov t c) q none none ∧ gives (.compactNot t c) (~~~q) none none ∧
      gives (.compactNeg t c) (-q) (some (q == 0)) (some (q == BitVec.intMin 32))) ∧
    (th.reads32 dTag →
      (c.sg = false →
        gives (.compactAdd t c) (p + q) (carry (p.toNat + q.toNat)) (v32 (p.toInt + q.toInt)) ∧
        gives (.compactSub t c) (p - q) (some (decide (q.toNat ≤ p.toNat))) (v32 (p.toInt - q.toInt)) ∧
        gives (.compactAdc t c) (p + q + (BitVec.ofBool cin).setWidth 32) (carry (p.toNat + q.toNat + cin.toNat))
          (v32 (p.toInt + q.toInt + cin.toNat)) ∧
        gives (.compactSbc t c) (p - q - (BitVec.ofBool !cin).setWidth 32) (some (decide (q.toNat + (!cin).toNat ≤ p.toNat)))
          (v32 (p.toInt - q.toInt - (!cin).toNat)) ∧
        gives (.compactAnd t c) (p &&& q) none none ∧ gives (.compactOr t c) (p ||| q) none none ∧
        gives (.compactXor t c) (p ^^^ q) none none ∧
        gives (.compactShl t c) (p <<< k) (some (decide (0 < k) && p.getLsbD (32 - k))) none ∧
        gives (.compactShr t c) (p >>> k) (some (decide (0 < k) && p.getLsbD (k - 1))) none ∧
        gives (.compactSar t c) (p.sshiftRight k) (some (decide (0 < k) && p.getLsbD (k - 1))) none ∧
        gives (.compactMul t c) (p * q) none none ∧
        exec (.compactCmp t c) s = .next (s.after t (th.flagged
          { n := some (p - q).msb, z := some (p == q), c := some (decide (q.toNat ≤ p.toNat)), v := v32 (p.toInt - q.toInt) })
          c.len)) ∧
      both (.compactMulh t c) (BitVec.ofInt 32 (p.toInt * q.toInt / 2 ^ 32)) (BitVec.ofNat 32 (p.toNat * q.toNat / 2 ^ 32)) ∧
      (q ≠ 0 → both (.compactDiv t c) (p.sdiv q) (p / q) ∧ both (.compactRem t c) (p.srem q) (p % q)) ∧
      (q = 0 → s.Traps t (.compactDiv t c) c.len { code := 0x18, step := 7 } ∧
        s.Traps t (.compactRem t c) c.len { code := 0x18, step := 7 }))) ∧
  (∀ (s : State) (t : Nat) (c : CEnc),
    let th := s.thr t
    let n := 2 ^ c.sz.toNat
    let a := s.compactVa t (low32 (th.denWord c.s.toNat).data + if c.x then c.ext else 0)
    let w := a / 16 * 16
    let off := a % 16
    let cross := 16 < off + n
    let lo := s.seenWord (t / 64) w
    let hi := s.seenWord (t / 64) (w + 16)
    let tag := if cross then (splitTag lo.tag hi.tag).1 else lo.tag
    let item := (spanned lo.data hi.data off).toNat % 256 ^ n
    let value : BitVec 32 := if c.sg ∧ 128 * 256 ^ (n - 1) ≤ item then BitVec.ofInt 32 ((item : Int) - 256 ^ n) else BitVec.ofNat 32 item
    let src := BitVec.ofNat 128 ((th.denWord c.d.toNat).data.toNat % 256 ^ n)
    let mask : BitVec 16 := BitVec.ofNat 16 (2 ^ n - 1)
    let entry (pa : Nat) (d : Data) (m : BitVec 16) : SbEntry :=
      s.memEntry t pa d m Tag.bits (!(decide cross) && (m = 0x000F || m = 0x00F0))
    let entries := if cross then
        [entry w (src <<< (8 * off)) (mask <<< off), entry (w + 16) (src >>> (8 * (16 - off))) (mask >>> (16 - off))]
      else [entry w (src <<< (8 * off)) (mask <<< off)]
    s.Issues t true c.len → condHolds c.cond th.flags = true → c.sz ≠ 3 → th.reads32 (th.denWord c.s.toNat).tag →
    (compactCtx s t c).x.en1 = false → (compactCtx s t c).x.en2 = false → th.late = none → a + n ≤ 2 ^ 48 →
    s.Direct t w → (cross → s.Direct t (w + 16)) →
    (s.NoOwnStore t w → (cross → s.NoOwnStore t (w + 16)) → th.reads32 tag →
      exec (.compactLd t c) s =
        .next (s.after t (th.setDen c.d.toNat { data := value.setWidth 128, tag := Tag.bits }) c.len)) ∧
    (c.sg = false → th.reads32 (th.denWord c.d.toNat).tag → (s.core (t / 16)).sb.length + entries.length ≤ 16 →
      exec (.compactSt t c) s = .next ((s.modCore (t / 16) (fun k => { k with sb := k.sb ++ entries })).after t th c.len)))

/-- In either mode, a BR or CALL that issues with a condition that holds and a target word that passes its checks answers the
state in which the next instruction is its delay slot and the target follows it; CALL has also written THRS at PTR, advanced PTR
modulo 16 and raised DEPTH by 1 up to 16 (the written return address is confirmed when the delay slot issues), but with DEPTH 16
and RSO = 1 it raises a return-stack fault at step 7 instead; a RET with DEPTH above 0 goes through its delay slot to the top
entry, PTR and DEPTH lowered by 1; nothing else changes but the counter of free values (R58, R159, R160, R165, R166, R167, R201).
-/
def Obligations.TakenTransfers : Prop :=
  ∀ (s : State) (t : Nat) (i : Ins) (a : Nat),
    let th := s.thr t
    let target : Addr := BitVec.ofNat 48 a
    s.Runs t i →
    (s.Targets t i a →
      exec (.br t i) s = .next (s.after t (th.slotted (some target) false false) i.bytes) ∧
      (th.rsDepth.toNat < 16 ∨ bit th.ctlInForce 1 = false →
        ∃ (ret : Addr) (f : Nat), exec (.call t i) s = .next ({ s with fresh := f }.after t
          ({ th with rs := tset 0 th.rs th.rsPtr.toNat ret, rsPtr := th.rsPtr + 1,
                     rsDepth := if th.rsDepth.toNat < 16 then th.rsDepth + 1 else th.rsDepth }.slotted (some target) false true)
          i.bytes)) ∧
      (16 ≤ th.rsDepth.toNat → bit th.ctlInForce 1 = true → s.Traps t (.call t i) i.bytes { code := 0x19, step := 7 })) ∧
    (i.retForm → th.rsDepth ≠ 0 →
      exec (.ret t i) s = .next (s.after t
        ({ th with rsPtr := th.rsPtr - 1, rsDepth := th.rsDepth - 1 }.slotted (some (tget 0 th.rs (th.rsPtr - 1).toNat)) false false)
        i.bytes))

/-- In either mode and with any RSO, a RET that is taken while DEPTH is 0 raises a return-stack fault at step 7; it pops nothing
and leaves no delay slot to execute (R168). -/
def Obligations.ReturnStackUnderflow : Prop :=
  ∀ (s : State) (t : Nat) (i : Ins), s.Runs t i → i.retForm → (s.thr t).rsDepth = 0 →
    s.Traps t (.ret t i) i.bytes { code := 0x19, step := 7 } ∧
    (((s.issuing t i.bytes).trapped t { code := 0x19, step := 7 }).thr t).rsPtr = (s.thr t).rsPtr ∧
    (((s.issuing t i.bytes).trapped t { code := 0x19, step := 7 }).thr t).rsDepth = 0 ∧
    (((s.issuing t i.bytes).trapped t { code := 0x19, step := 7 }).thr t).slot = none

/-- In either mode, a legal BR, CALL or RET whose condition fails, and a HINGE of a normal-world thread whose condition fails,
changes no register and no stack entry: the next instruction is its delay slot, annulled exactly when the annul bit is 1, and the
instruction after the slot follows (R160, R161, R165). -/
def Obligations.UntakenTransfers : Prop :=
  ∀ (s : State) (t : Nat) (i : Ins), s.Issues t i.compactMode i.bytes → condHolds (insCond i) (s.thr t).flags = false →
    let missed : State := s.after t ((s.thr t).slotted none (insAnnul true i) false) i.bytes
    ((match i with | .full e => decodeCheck branchSpec false e = none ∧ levelCheck branchSpec (s.thr t).sec (s.thr t).lvl (s.thr t) e = none
                   | .compact c => compactBranchFields c = none) →
      exec (.br t i) s = .next missed ∧ exec (.call t i) s = .next missed) ∧
    (i.retForm → exec (.ret t i) s = .next missed) ∧
    (∀ (compact ax : Bool) (cond : BitVec 4) (base : BitVec 8) (imm : BitVec 16), i = hingeIns compact cond ax base imm →
      bits imm 7 6 = 0 → base.toNat + bits imm 5 0 ≤ 256 → (s.thr t).sec = false →
      exec (.hinge t i) s = .next (s.after t ((s.thr t).slotted none (ax && !compact) false) i.bytes))

/-- A data instruction of the full mode in a delay slot, no HINGE being pending, does what it would do elsewhere, or nothing when
it is annulled; the thread then goes to the pending next instruction, or to the instruction after the slot when there is none, the
slot is over, of three lines in the buffer one that is no longer needed goes, and after a CALL the pushed return address is the
address of the instruction after the slot (R160, R161, R163, R165, R107). -/
def Obligations.DelaySlotEnds : Prop :=
  ∀ r ∈ dataRows, ∀ (s : State) (t : Nat) (e : Enc) (sl : Slot),
    let th := s.thr t
    let len := e.len r.spec.axIsLm
    let following := th.pc + BitVec.ofNat 48 len
    let ended (th1 : Thread) : Thread :=
      ({ th1.advanced len with slot := none, pc := sl.next.getD following,
                               rs := if sl.call then tset 0 th1.rs (th1.rsPtr - 1).toNat following else th1.rs }).dropThird
    t < 768 → s.canIssue t = true → bit th.ctl 0 = false → th.slot = some sl → th.hinge = [] → th.pc.toNat % 2 = 0 →
    th.holdsCode th.pc len = true →
    decodeCheck r.spec true e = none → levelCheck r.spec th.sec th.lvl th e = none →
    (sl.annul = true ∨ condHolds e.cond th.flags = false → exec (r.instr t e) s = .next (s.setThr t (ended th))) ∧
    (∀ (roles : List Role) (ws : List TWord) (o : DataOut), sl.annul = false → condHolds e.cond th.flags = true →
      (s.core (t / 16)).sb.length ≤ 16 → r.spec.roles e.form.toNat = some roles →
      e.plainTake (r.spec.arrOf e) th r.spec.acc 1 roles = some ws →
      r.compute (fullCtx s t r.spec e) ws (s.issuing t len) = .ok o →
      ((roles.getD 0 .src).writes = true → e.mode 1 = 0 ∨ e.mode 1 = 5) →
      exec (r.instr t e) s = .next (s.setThr t (ended (th.landed e o))))

/-- A HINGE of a normal-world thread that issues with a condition that holds is refused, setting V, when its service index names
no service or q + 1 exceeds the window; one to a service on a core that stays FENCED until device reset fails at once, setting V;
otherwise the request words Dn to Dn+q-1 wait with their header, in order after those already waiting, the thread will be
SUSPENDED after its delay slot, and the L1I lines of both cores go; in every case the next instruction is the delay slot. When a
request waits for a service thread whose core is not fenced and whose header word is EMPTY, its words and its header are written
FULL into the window, it becomes the outstanding request, and a thread parked in PARK becomes ACTIVE. A legal HREPLY of a secure
thread with a window: with no outstanding request, or an orphaned one, it sets T to 0, an orphaned one being then no longer
outstanding; with one whose caller waits for it on a core that is not fenced, it copies its words into the caller's words from the
request base with their data and tags, discards those beyond D255, clears the caller's V, makes a SUSPENDED caller ACTIVE and sets
T to 1; a caller's core that is fenced has its reply held, T being 1, and one that stays FENCED until device reset has its request
failed (R187, R188, R189, R190, R496, R499, R191, R192, R193, R498). -/
def Obligations.HingeRequestsAndReplies : Prop :=
  ((∀ (s : State) (t : Nat) (compact ax : Bool) (cond : BitVec 4) (base : BitVec 8) (imm : BitVec 16),
    let i := hingeIns compact cond ax base imm
    let th := s.thr t
    let q := bits imm 5 0
    let n := bits imm 15 8
    let slotPc := th.pc + BitVec.ofNat 48 i.bytes
    s.Runs t i → bits imm 7 6 = 0 → base.toNat + q ≤ 256 → th.sec = false →
    let refused : Prop := exec (.hinge t i) s = .next (s.after t ((th.flagged { v := some true }).slotted none false false) i.bytes)
    match s.service n with
    | none => refused
    | some svc =>
      if bits (s.thr svc).hwin 13 8 < q + 1 then refused
      else if s.coreGone (svc / 16) then
        (∀ h ∈ s.hingeWait, h.caller ≠ t) → (∀ h ∈ s.hingeOut, h.2.caller ≠ t) → ∃ cs : Tab Core,
          exec (.hinge t i) s = .next (({ s with cores := cs }).after t ((th.flagged { v := some true }).slotted none false false) i.bytes)
      else ∃ hdr : Data,
        let r : HingeReq := { caller := t, base := base.toNat, slotPc := slotPc, s := n, svc := svc, hdr := hdr,
                              ws := (List.range q).map (fun j => th.denWord (base.toNat + j)), orphan := false }
        bits hdr 9 0 = t % 1024 ∧ bits hdr 11 10 = th.lvl.toNat ∧ bits hdr 21 16 = q ∧ bits hdr 31 24 = n ∧
        exec (.hinge t i) s = .next (({ s with hingeWait := s.hingeWait ++ [r] }.hingeFlush t svc).after t
          ({ th with hinge := { svc := svc, slotPc := slotPc } :: th.hinge }.slotted none false false) i.bytes)) ∧
  (∀ (s : State) (svc : Nat) (r : HingeReq), svc < 768 → s.hingeWait.find? (fun h => h.svc == svc) = some r →
    (s.core (svc / 16)).fenced = false → ((s.thr svc).denWord (bits (s.thr svc).hwin 7 0)).tag = Tag.empty →
    tfind s.hingeOut svc = none →
    let b := bits (s.thr svc).hwin 7 0
    ∃ u, exec (.hingeWindowWrite svc) s = .next u ∧ (u.thr svc).denWord b = { data := r.hdr, tag := Tag.full } ∧
      (∀ j w, r.ws[j]? = some w → (u.thr svc).denWord (b + 1 + j) = { data := w.data, tag := Tag.full }) ∧
      (∀ n, n < b ∨ b + r.ws.length < n → (u.thr svc).denWord n = (s.thr svc).denWord n) ∧
      u.hingeWait = s.hingeWait.erase r ∧ tfind u.hingeOut svc = some r ∧ u.mem = s.mem ∧ u.regs = s.regs ∧
      (∀ k, k ≠ svc → u.thr k = s.thr k) ∧
      ((s.thr svc).st = .parked → (∃ pc, (s.thr svc).park = some (.wake pc)) → (u.thr svc).st = .active))) ∧
  (∀ (s : State) (t : Nat) (d : BitVec 8) (imm : BitVec 16),
    let e : Enc := { denEnc2 d 0 with m2 := 6, x2 := imm.setWidth 64 }
    let th := s.thr t
    let n := imm.toNat
    let ended (v : Bool) : Thread := (th.flagged { t := some v }).advanced (e.len false)
    let ws := (List.range n).map (fun j => th.denWord (d.toNat + j))
    s.Ready t (e.len false) → th.sec = true → bits th.hwin 13 8 ≠ 0 → n ≤ 32 → d.toNat + n ≤ 256 →
    (tfind s.hingeOut t = none → exec (.hreply t e) s = .next (s.setThr t (ended false))) ∧
    (∀ r, tfind s.hingeOut t = some r →
      (r.orphan = true → exec (.hreply t e) s = .next ({ s with hingeOut := tdel s.hingeOut t }.setThr t (ended false))) ∧
      (r.orphan = false → r.caller ≠ t → s.coreGone (r.caller / 16) = true →
        (s.thr r.caller).hinge.head? = some { svc := r.svc, slotPc := r.slotPc } →
        ∃ u, exec (.hreply t e) s = .next u ∧ u.thr t = ended true ∧ tfind u.hingeOut t = none ∧ u.hingeHeld = s.hingeHeld ∧
          (u.thr r.caller).den = (s.thr r.caller).den ∧ (u.thr r.caller).flags.getLsbD 1 = true ∧
          (u.thr r.caller).hinge = (s.thr r.caller).hinge.tail ∧ ∀ k, k ≠ t → k ≠ r.caller → u.thr k = s.thr k) ∧
      (r.orphan = false → r.caller ≠ t → (s.core (r.caller / 16)).fenced = true → s.coreGone (r.caller / 16) = false →
        ∃ cs : Tab Core,
          let held : State := { s with hingeOut := tdel s.hingeOut t, cores := cs, hingeHeld := s.hingeHeld ++ [{ req := r, ws := ws }] }
          exec (.hreply t e) s = .next (held.setThr t (ended true))) ∧
      (r.orphan = false → r.caller ≠ t → (s.core (r.caller / 16)).fenced = false →
        (s.thr r.caller).hinge.head? = some { svc := r.svc, slotPc := r.slotPc } →
        ∃ u, exec (.hreply t e) s = .next u ∧
          let c := u.thr r.caller
          (∀ j, c.denWord j = if r.base ≤ j ∧ j < r.base + n ∧ j < 256 then th.denWord (d.toNat + (j - r.base)) else (s.thr r.caller).denWord j) ∧
          c.flags.getLsbD 1 = false ∧ c.hinge = (s.thr r.caller).hinge.tail ∧ ((s.thr r.caller).st = .suspended → c.st = .active) ∧
          u.thr t = ended true ∧ tfind u.hingeOut t = none ∧ u.mem = s.mem ∧ u.regs = s.regs ∧
          ∀ k, k ≠ t → k ≠ r.caller → u.thr k = s.thr k)))

/-- In either mode, PFLUSH with no store of the thread to memory waiting empties the thread's fetch buffer and PBAR removes the
lines that a prediction brought; nothing else changes but the PC. From an aligned PC a fetch buffer asks for the line of the PC,
for the next sequential line where the next instruction or its slot extends into it, and for the line of the target that follows a
pending delay slot, and for no other line but a sequential one; for a predicted line only while the sequential one is not needed
and no slot is pending, and while PDIS is 0 unless the request was made before; a line that is not asked for, or that the buffer
holds, changes nothing. A line asked for by an ACTIVE thread of a powered core in service, whose addresses are physical, which its
world reaches, which is initialised and which its L1I supplies, comes into the buffer with its POISON marked, the line of the PC
stays, and nothing else changes but the record of a fill and of a fault for that line (R172, R173, R215, R216, R218, R219, R305).
-/
def Obligations.FetchBufferCommands : Prop :=
  ∀ (s : State) (t : Nat) (i : Ins) (va : Addr) (predicted : Bool),
    (s.Runs t i → i.bare → (∀ n ∈ (s.core (t / 16)).sb, n.tid = t → n.kind ≠ .mem) →
      exec (.pflush t i) s = .next (s.after t { s.thr t with fetch := [], codeFill := [], fetchBad := none, asked := none } i.bytes)) ∧
    (s.Runs t i → i.bare →
      exec (.pbar t i) s = .next (s.after t { s.thr t with fetch := (s.thr t).fetch.filter (fun l => !l.predicted) } i.bytes)) ∧
    (t < 768 →
      let th := s.thr t
      let line := alignTo va 6
      let first := alignTo th.pc 6
      let x := (fetchCtx s t).x
      let asked := s.asksLine t line predicted
      (th.mayFetch th.pc = false → asked = none) ∧
      (predicted = false → asked.isSome = true → line = first ∨ line = first + 64 ∨
        ∃ sl a, th.slot = some sl ∧ sl.next = some a ∧ alignTo a 6 = line) ∧
      (predicted = false → th.mayFetch th.pc = true →
        (line = first → asked = some th.pc) ∧ (line = first + 64 → s.needsSecond t = true → asked.isSome = true) ∧
        ∀ sl a, th.slot = some sl → sl.next = some a → th.mayFetch a = true → alignTo a 6 = line → asked.isSome = true) ∧
      (predicted = true → (bit (s.core (t / 16)).corectl 0 = true ∧ th.asked ≠ some line) ∨ th.slot.isSome = true ∨ s.needsSecond t = true →
        asked = none) ∧
      (asked = none ∨ (∃ l ∈ th.fetch, l.va = line) → exec (.fetchLineArrival t va predicted) s = .next s) ∧
      (∀ a, asked = some a → (∀ l ∈ th.fetch, l.va ≠ line) → s.canFetch t = true → x.en1 = false → x.en2 = false →
        (s.region a.toNat).tagged = true → s.reaches th.sec a.toNat = true → s.chunkReady a.toNat = true →
        s.l1Ready t true (lineOf a.toNat) th.sec = true →
        ∃ (f : List FetchLine) (l : FetchLine), exec (.fetchLineArrival t va predicted) s = .next (s.setThr t { th with
            fetch := l :: f, codeFill := [], codeXlat := none, asked := if predicted then none else th.asked,
            fetchBad := th.fetchBad.filter (fun b => b.line != line) }) ∧
          l.va = line ∧ l.predicted = predicted ∧
          (∀ i < 4, l.poison.getLsbD i = ((s.seenWord (t / 64) (lineOf a.toNat * 64 + 16 * i)).tag == Tag.poison)) ∧
          (∀ g ∈ f, g ∈ th.fetch) ∧ ∀ g ∈ th.fetch, g.va = first → g ∈ f))

/-- In either mode, a WAITD that issues with a condition that holds, on the word it names or the words (n + i) mod 256 of a mask
that is not 0, raises a poison fault when any selected word holds POISON, else a tag fault when any holds a tag other than EMPTY
and FULL, both at step 6 for operand 1, else completes when any holds FULL, else, once the fetch buffer holds the instruction that
follows, leaves the thread PARKED on those words after its instruction; it takes no word and changes no tag, and nothing else
changes. In either mode, PARK completes and clears a pending wake, and otherwise, once the fetch buffer holds the instruction that
follows, leaves the thread PARKED with the PC of the PARK kept; when no access of the thread has timed out, FENCE.SL completes
when none of the thread's stores to memory waits in the store buffer, and FENCE.IO when none of its stores does; nothing else
changes (R174, R107, R201, R176, R178, R184, R185, R186, R219). -/
def Obligations.WaitsAndFences : Prop :=
  (∀ (s : State) (t : Nat) (compact : Bool) (cond : BitVec 4) (n : BitVec 8) (mask : Option (BitVec 16)),
    let i := waitIns compact cond n mask
    let th := s.thr t
    let ws := waitSet compact n mask
    let tag (k : Nat) : Tag := (th.denWord k).tag
    s.Runs t i → mask ≠ some 0 →
    if ∃ k ∈ ws, tag k = Tag.poison then s.Traps t (.waitd t i) i.bytes { code := 0x10, step := 6, opnd := 1 }
    else if ∃ k ∈ ws, tag k ≠ Tag.empty ∧ tag k ≠ Tag.full then s.Traps t (.waitd t i) i.bytes { code := 0x15, step := 6, opnd := 1 }
    else if ∃ k ∈ ws, tag k = Tag.full then exec (.waitd t i) s = .next (s.after t th i.bytes)
    else s.HoldsNext t i.bytes → exec (.waitd t i) s = .next (s.after t { th with st := .parked, park := some (.words th.pc ws) } i.bytes)) ∧
  (∀ (s : State) (t : Nat) (i : Ins), s.Runs t i → i.bare →
    let th := s.thr t
    (th.wake = true → exec (.park t i) s = .next (s.after t { th with wake := false } i.bytes)) ∧
    (th.wake = false → s.HoldsNext t i.bytes →
      exec (.park t i) s = .next (s.after t { th with st := .parked, park := some (.wake th.pc) } i.bytes)) ∧
    (th.late = none → (∀ n ∈ (s.core (t / 16)).sb, n.tid = t → n.kind ≠ .mem) → exec (.fenceSl t i) s = .next (s.after t th i.bytes)) ∧
    (th.late = none → (∀ n ∈ (s.core (t / 16)).sb, n.tid ≠ t) → exec (.fenceIo t i) s = .next (s.after t th i.bytes)))

/-- In either mode, a PUT or TAKE that can act on a slot at once does so in one access: PUT fills an EMPTY slot with the data of
its source, which the bitwise class accepts in full mode, tags it FULL and sets T, and sets T to 0 on a FULL slot; TAKE of a FULL
slot writes the slot's data into its destination with tag BITS, tags the slot EMPTY and sets T, and sets T to 0 on an EMPTY slot;
a slot of POISON raises a poison fault and one of any other tag a tag fault, at step 6 for the slot's operand; nothing else
changes (R179, R180, R181, R201, R202, R53). -/
def Obligations.SlotInstructions : Prop :=
  ∀ (s : State) (t : Nat) (i : Ins) (a : Nat),
    let th := s.thr t
    let slot := s.seenWord (t / 64) a
    let k := match i with | .full _ => 1 | .compact _ => 2
    s.Runs t i →
    (s.Location t i k 16 a →
      (match i with
       | .full e => e.form = 2 ∧ e.mode 2 = 0 ∧ e.m3 = 0 ∧ e.ax = false ∧ e.x1.toNat < 2 ^ extNamed (e.mode 1) ∧ e.x2.toNat < 256 ∧
           (e.mode 1 = 0x11 → 4 ≤ bits e.x1 20 16) ∧ (e.mode 1 = 0x12 → bits e.x1 19 16 ≠ 0) ∧
           (th.denWord e.x2.toNat).tag ∈ [Tag.bits, Tag.int, Tag.fix, Tag.flt, Tag.full]
       | .compact c => th.reads32 (th.denWord c.d.toNat).tag) →
      let v : Data := match i with
        | .full e => (th.denWord e.x2.toNat).data
        | .compact c => (low32 (th.denWord c.d.toNat).data).setWidth 128
      if slot.tag = Tag.empty then
        exec (.put t i) s = .next (s.stored t a { data := v, tag := Tag.full } (th.flagged { t := some true }) i.bytes)
      else if slot.tag = Tag.full then exec (.put t i) s = .next (s.after t (th.flagged { t := some false }) i.bytes)
      else s.Traps t (.put t i) i.bytes
        { code := if slot.tag = Tag.poison then 0x10 else 0x15, step := 6, opnd := k, addr := BitVec.ofNat 48 a }) ∧
    (s.Location t i 2 16 a →
      (match i with
       | .full e => e.form = 2 ∧ e.mode 1 = 0 ∧ e.m3 = 0 ∧ e.ax = false ∧ e.x2.toNat < 2 ^ extNamed (e.mode 2) ∧ e.x1.toNat < 256 ∧
           (e.mode 2 = 0x11 → 4 ≤ bits e.x2 20 16) ∧ (e.mode 2 = 0x12 → bits e.x2 19 16 ≠ 0)
       | .compact _ => True) →
      let taken : Thread := match i with
        | .full e => th.wrote e.x1.toNat slot.data Tag.bits { t := some true }
        | .compact c => th.wrote c.d.toNat ((low32 slot.data).setWidth 128) Tag.bits { t := some true }
      if slot.tag = Tag.full then
        exec (.take t i) s = .next (s.stored t a { data := slot.data, tag := Tag.empty } taken i.bytes)
      else if slot.tag = Tag.empty then exec (.take t i) s = .next (s.after t (th.flagged { t := some false }) i.bytes)
      else s.Traps t (.take t i) i.bytes
        { code := if slot.tag = Tag.poison then 0x10 else 0x15, step := 6, opnd := 2, addr := BitVec.ofNat 48 a })

/-- A full-mode ASWP, ACAS, AADD, AAND, AOR or AXOR with Den operands 1 and 3 that can act on its location at once writes the
location's old data and tag into operand 1, and the location in one access: ASWP stores operand 3, ACAS stores it exactly when the
old word equals operand 1 in data and tag and sets Z accordingly, AADD stores the two wrapped 64-bit sums with tag INT and the
flags of ADD, and AAND, AOR and AXOR store the result with tag BITS and N and Z; the class checks of AADD and of the bitwise
atomics are met by the old word and operand 3; nothing else changes (R62, R119, R182, R183, R184). -/
def Obligations.AtomicInstructions : Prop :=
  ∀ (s : State) (t : Nat) (d b : BitVec 8) (m : BitVec 5) (v : BitVec 64) (a : Nat),
    let e : Enc := { denEnc3 d 0 b with m2 := m, x2 := v }
    let th := s.thr t
    let old := s.seenWord (t / 64) a
    let src := th.denWord b.toNat
    let len := e.len false
    let keeps (fl : FlagUpd) : Thread := th.wrote d.toNat old.data old.tag fl
    let sum := half2 (· + ·) old.data src.data
    let logic (i : Instr) (r : Data) : Prop :=
      exec i s = .next (s.stored t a { data := r, tag := Tag.bits } (keeps { n := some r.msb, z := some (r == 0) }) len)
    s.Issues t false len → s.Location t (.full e) 2 16 a → v.toNat < 2 ^ extNamed m.toNat → (m = 0x11 → 4 ≤ bits v 20 16) →
    (m = 0x12 → bits v 19 16 ≠ 0) →
    exec (.aswp t (.full e)) s = .next (s.stored t a src (keeps {}) len) ∧
    exec (.acas t (.full e)) s = .next
      (if th.denWord d.toNat = old then s.stored t a src (keeps { z := some true }) len else s.after t (keeps { z := some false }) len) ∧
    (old.tag ∈ [Tag.int, Tag.bits, Tag.full] → src.tag ∈ [Tag.int, Tag.bits, Tag.full] →
      exec (.aadd t (.full e)) s = .next (s.stored t a { data := sum, tag := Tag.int }
        (keeps { n := some (signs2 sum), z := some (zero2 sum),
                 c := some (any2 (fun p q => decide (2 ^ 64 ≤ p.toNat + q.toNat)) old.data src.data),
                 v := some (any2 BitVec.saddOverflow old.data src.data) }) len)) ∧
    (old.tag ∈ [Tag.bits, Tag.int, Tag.fix, Tag.flt, Tag.full] → src.tag ∈ [Tag.bits, Tag.int, Tag.fix, Tag.flt, Tag.full] →
      logic (.aand t e) (old.data &&& src.data) ∧ logic (.aor t e) (old.data ||| src.data) ∧ logic (.axor t e) (old.data ^^^ src.data))

/-- A Compact ASWP, ACAS or AADD that can act at once on the 4-byte item at its address, in a word that Compact mode can read,
writes the old item into D and the item in one access, the containing word taking the tag BITS: ASWP stores D, ACAS stores the
word D + 1 modulo 256 exactly when the item equals D and sets Z accordingly, AADD stores the wrapped 32-bit sum and sets the flags
over 32 bits; nothing else changes (R78, R80, R182, R183, R201, R202). -/
def Obligations.CompactAtomics : Prop :=
  ∀ (s : State) (t : Nat) (c : CEnc) (a : Nat),
    let i : Ins := .compact c
    let th := s.thr t
    let w := s.seenWord (t / 64) (a / 16 * 16)
    let old := low32 (w.data >>> (8 * (a % 16)))
    let dv := low32 (th.denWord c.d.toNat).data
    let nv := low32 (th.denWord ((c.d.toNat + 1) % 256)).data
    let keeps (fl : FlagUpd) : Thread := th.wrote c.d.toNat (old.setWidth 128) Tag.bits fl
    let writes (n : BitVec 32) : State :=
      s.storeVisible (t / 64) (a / 16 * 16) (0x000F <<< (a % 16)) (n.setWidth 128 <<< (8 * (a % 16))) Tag.bits
    s.Runs t i → s.Location t i 2 4 a → th.reads32 w.tag → th.reads32 (th.denWord c.d.toNat).tag →
    exec (.aswp t i) s = .next ((writes dv).after t (keeps {}) c.len) ∧
    (th.reads32 (th.denWord ((c.d.toNat + 1) % 256)).tag →
      exec (.acas t i) s = .next (if dv = old then (writes nv).after t (keeps { z := some true }) c.len
        else s.after t (keeps { z := some false }) c.len)) ∧
    exec (.aadd t i) s = .next ((writes (old + dv)).after t
      (keeps { n := some (old + dv).msb, z := some (old + dv == 0), c := some (decide (2 ^ 32 ≤ old.toNat + dv.toNat)),
               v := some (outside32 (old.toInt + dv.toInt)) }) c.len)

/-- A BMOV, BFILL or TSCAN on Den operands whose words pass their checks, over words that its core can access at once and with
room in the store buffer, runs to its end from the progress that the TCW records for its opcode (else from 0): BMOV (runs that do
not overlap) and BFILL leave one whole-word store per step in step order, with the source word's or the fill word's data and tag,
and change no operand and no flag; TSCAN writes the number of the first word whose tag is in the mask, or the count, with tag INT,
and T; an address operand that is not a multiple of 16 raises an alignment fault before any step, and the TCW then records the
progress; nothing else changes (R140, R141, R142, R143, R144, R146, R230, R232). -/
def Obligations.BlockInstructions : Prop :=
  ∀ (s : State) (t : Nat) (p q r : BitVec 8),
    let e := denEnc3 p q r
    let th := s.thr t
    let wp := th.denWord p.toNat
    let wq := th.denWord q.toNat
    let c := (th.denWord r.toNat).data
    let n := c.toNat % 2 ^ 48
    let at' (w : TWord) (j : Nat) : Nat := w.data.toNat % 2 ^ 64 + 16 * j
    let addr (w : TWord) : Prop :=
      w.tag = Tag.ptr ∨ (bit th.ctlInForce 3 = false ∧ (w.tag = Tag.int ∨ w.tag = Tag.bits))
    let from' (opc : Nat) : Nat := if bit th.tcw 63 = true ∧ bits th.tcw 57 48 = opc then bits th.tcw 47 0 else 0
    let steps (opc : Nat) : List Nat := List.range' (from' opc) (n - from' opc)
    let fits (w : TWord) : Prop := w.data.toNat % 16 = 0 ∧ at' w n ≤ 2 ^ 48 ∧ ∀ j < n, s.Direct t (at' w j)
    let room (opc : Nat) : Prop := (s.core (t / 16)).sb.length + (n - from' opc) ≤ 16
    let stores (l : List SbEntry) : State := (s.modCore (t / 16) (fun k => { k with sb := k.sb ++ l })).after t th (e.len true)
    let misaligned (i : Instr) (opc k : Nat) (w : TWord) : Prop :=
      exec i s = .next (((s.issuing t (e.len true)).modThr t (fun th => { th with tcw := tcwWord opc (from' opc) })).trapped t
        { code := 0x05, step := 5, opnd := k, addr := w.data.setWidth 48 })
    s.Ready t (e.len true) → s.Flat t (blockSpec [.src, .src, .src]) e → th.block = none →
    ((th.denWord r.toNat).tag = Tag.int ∨ (th.denWord r.toNat).tag = Tag.bits) →
    (addr wp → addr wq → fits wp → fits wq → room 0x148 → (at' wp n ≤ at' wq 0 ∨ at' wq n ≤ at' wp 0) →
      (∀ j < n, s.NoOwnStore t (at' wq j)) →
      exec (.bmov t e) s = .next (stores ((steps 0x148).map (fun j =>
        let w := s.seenWord (t / 64) (at' wq j)
        s.memEntry t (at' wp j) w.data 0xFFFF w.tag true)))) ∧
    (addr wp → fits wp → room 0x149 →
      exec (.bfill t e) s = .next (stores ((steps 0x149).map (fun j => s.memEntry t (at' wp j) wq.data 0xFFFF wq.tag true)))) ∧
    (addr wq → fits wq → (∀ j < n, s.NoOwnStore t (at' wq j)) →
      let hit := (steps 0x14A).find? (fun j => c.getLsbD (48 + (s.seenWord (t / 64) (at' wq j)).tag.toNat))
      s.Yields t (.tscan t e) (e.len true) p (BitVec.ofNat 128 (hit.getD n)) Tag.int { t := some hit.isSome }) ∧
    (addr wp → wp.data.toNat % 16 ≠ 0 → misaligned (.bfill t e) 0x149 1 wp ∧ (addr wq → misaligned (.bmov t e) 0x148 1 wp)) ∧
    (addr wq → wq.data.toNat % 16 ≠ 0 →
      misaligned (.tscan t e) 0x14A 2 wq ∧ (addr wp → wp.data.toNat % 16 = 0 → misaligned (.bmov t e) 0x148 2 wq))

/-- A SYSRD from a selector in a Den word writes the named system word into bits 63:0 of its Den destination with tag INT and 0
above, for every word of the list when the thread's level meets the word's minimum, clearing what a read clears; a selector above
bit 15, a number outside the defined ranges, the write-only WDKICK, a level below the minimum, and another thread's word below
hypervisor raise a system-access fault for operand 2 and change nothing (R64, R65, R67, R68, R69, R70, R213, R256, R264, R292,
R331, R332). -/
def Obligations.SystemWordReads : Prop :=
  ∀ (s : State) (t : Nat) (d a : BitVec 8),
    let i : Ins := .full (denEnc2 d a)
    let th := s.thr t
    let sel := (s.denData t a).toNat % 2 ^ 64
    let n := sel % 4096
    let c := s.core (t / 16)
    let k := s.cluster (t / 64)
    let words : List (Nat × Nat × W64) :=
      [(0x000, 0, BitVec.ofNat 64 t), (0x001, 0, BitVec.ofNat 64 (b2n th.sec * 2 ^ 12 + th.lvl.toNat * 2 ^ 8 + 1)),
       (0x002, 0, th.ctl.setWidth 64), (0x003, 0, th.flags.setWidth 64), (0x004, 1, BitVec.ofNat 64 (b2n th.sec)),
       (0x005, 1, th.pc.setWidth 64), (0x006, 1, if bit th.tcw 63 then 0 else th.tcw),
       (0x007, 1, BitVec.ofNat 64 (th.rsDepth.toNat * 16 + th.rsPtr.toNat)), (0x008, 1, th.cbase), (0x009, 1, th.lattol),
       (0x00A, 3, th.hwin), (0x020, 1, th.bankS.vec), (0x021, 1, th.bankS.pc), (0x022, 1, th.bankS.npc), (0x023, 1, th.bankS.stat),
       (0x024, 1, th.bankS.cause), (0x025, 1, th.bankS.addr), (0x026, 1, th.bankS.ipa), (0x027, 1, th.bankS.tcw),
       (0x030, if th.sec then 3 else 2, th.troute), (0x040, 1, th.xs1), (0x041, if th.sec then 3 else 2, th.xs1h), (0x042, 2, th.xs2),
       (0x060, 1, th.wdctl), (0x062, 1, BitVec.ofNat 64 (b2n th.wdExp)), (0x063, 1, BitVec.ofNat 64 th.wdLate),
       (0x100, 0, BitVec.ofNat 64 (t / 16 * 16)), (0x101, 1, c.corectl), (0x111, 1, c.tlblkaddr), (0x180, 1, c.l1ctl),
       (0x181, 1, c.l1dpart), (0x182, 1, c.l1err), (0x190, 1, k.l2ctl), (0x191, 1, k.l2part), (0x192, 1, k.l2lock), (0x193, 1, k.l2lkstat)]
    let denied : Prop := s.Traps t (.sysrd t i) i.bytes { code := 0x1A, step := 7, opnd := 2 }
    s.Ready t i.bytes → (s.denTag t a = Tag.int ∨ s.denTag t a = Tag.bits) →
    (sel / 4096 = t % 16 →
      ∀ w ∈ words, n = w.1 →
        if lvlMeets th.sec th.lvl w.2.1 = true then
          let r : State := s.after t (th.wrote d.toNat (w.2.2.setWidth 128) Tag.int {}) i.bytes
          exec (.sysrd t i) s = .next
            (if n = 0x063 then r.modThr t (fun u => { u with wdLate := 0 })
             else if n = 0x182 then r.modCore (t / 16) (fun x => { x with l1err := 0 })
             else if n = 0x193 then r.modCluster (t / 64) (fun x => { x with l2lkstat := setBits x.l2lkstat 31 16 0 })
             else r)
        else denied) ∧
    (2 ^ 16 ≤ sel ∨ (0x00B ≤ n ∧ n < 0x010) ∨ (0x031 ≤ n ∧ n < 0x040) ∨ n = 0x061 → denied) ∧
    (sel / 4096 ≠ t % 16 → n < 0x100 → th.lvl.toNat < 2 → denied)

/-- A SYSWR with its selector and its value in Den words, whose tags pass, changes the named word as the word's description says,
and nothing else but the thread's advance: a user's THCTL changes RND and FTZ only, a higher level's THCTL changes all fields for
the second instruction on and is refused when CM differs; THLATTOL, the flags, THCBASE, TROUTE and a return-stack entry take their
fields; a kick restarts the watchdog and is counted in WDLATE while EXP is 1; WDCTL takes a legal PERIOD and restarts with EN;
CORECTL takes RTM and PDIS, a hypervisor leaving secure threads' RTM bits; the monitor's THWORLD write to a STOPPED thread clears
what R41 names when the world changes and is refused beyond the limit of secure threads; a SYSWR of the own THPC or of a word
above the thread's level is refused with a system-access fault for operand 1. Each command that names one word is the same SYSWR
(R40, R41, R64, R65, R72, R73, R74, R76, R77, R214, R257). -/
def Obligations.SystemWordWrites : Prop :=
  ∀ (s : State) (t : Nat) (a b : BitVec 8),
    let i : Ins := .full (denEnc2 a b)
    let th := s.thr t
    let len := i.bytes
    let sel := (s.denData t a).toNat % 2 ^ 64
    let n := sel % 4096
    let tt := t / 16 * 16 + sel / 4096
    let v : W64 := (s.denData t b).setWidth 64
    let later : Option OldCtx := some { ctl := th.ctl, xs1 := th.xs1, xs1h := th.xs1h, xs2 := th.xs2 }
    let writes (l : List Instr) (u : Thread) : Prop := ∀ c ∈ l, exec c s = .next (s.after t u len)
    let denied (l : List Instr) : Prop := ∀ c ∈ l, s.Traps t c len { code := 0x1A, step := 7, opnd := 1 }
    s.Ready t len → (s.denTag t a = Tag.int ∨ s.denTag t a = Tag.bits) → (s.denTag t b = Tag.int ∨ s.denTag t b = Tag.bits) → sel < 2 ^ 16 →
    (tt = t → n = 0x002 →
      if th.lvl = 0 then
        ∀ c ∈ [.syswr t i, .thctlWrite t i],
          exec c s = .next (s.setThr t { th.advanced len with ctl := setBits th.ctl 7 5 (bits v 7 5), old := later })
      else if v.getLsbD 0 = false then
        ∀ c ∈ [.syswr t i, .thctlWrite t i], exec c s = .next (s.setThr t { th.advanced len with ctl := v.setWidth 8, old := later })
      else denied [.syswr t i, .thctlWrite t i]) ∧
    (tt = t → 1 ≤ th.lvl.toNat →
      (n = 0x009 → writes [.syswr t i, .thlattolWrite t i] { th with lattol := v &&& 0xFFFFFFFF }) ∧
      (n = 0x008 → writes [.syswr t i] { th with cbase := v &&& 0x0000FFFFFFFFC000 }) ∧
      (0x010 ≤ n → n < 0x020 → writes [.syswr t i] { th with rs := tset 0 th.rs (n - 0x010) (v.setWidth 48) }) ∧
      (n = 0x060 →
        writes [.syswr t i, .wdctlWrite t i]
          { th with wdctl := BitVec.ofNat 64 (bits v 63 60 * 2 ^ 60 +
                      (if 1000 ≤ bits v 31 0 ∧ bits v 31 0 ≤ 1000000 then bits v 31 0 else bits th.wdctl 31 0)),
                    wdCount := if v.msb then 0 else th.wdCount, wdDone := th.wdDone && !v.msb }) ∧
      (n = 0x005 → denied [.syswr t i])) ∧
    (tt = t → n = 0x003 → writes [.syswr t i] { th with flags := v.setWidth 5 }) ∧
    (tt = t → n = 0x061 → writes [.syswr t i, .watchdogKick t i]
      { th with wdCount := 0, wdDone := false, wdLate := if th.wdExp then satAdd 0xFFFFFFFF th.wdLate 1 else th.wdLate }) ∧
    (n = 0x101 → lvlMeets th.sec th.lvl 2 = true → ∀ w : W64,
      (∀ j < 64, w.getLsbD j = if j = 0 then v.getLsbD 0 else if 16 ≤ j ∧ j < 32 then
          (if th.lvl ≠ 3 ∧ (s.thr (t / 16 * 16 + (j - 16))).sec = true then (s.core (t / 16)).corectl.getLsbD j else v.getLsbD j)
        else false) →
      ∀ c ∈ [.syswr t i, .corectlWrite t i],
        exec c s = .next ((s.modCore (t / 16) (fun k => { k with corectl := w })).after t th len)) ∧
    (n = 0x004 → tt ≠ t → th.lvl = 3 → s.thState tt = 0 → (∀ r ∈ s.hingeWait, r.svc ≠ tt) → (∀ r ∈ s.hingeOut, r.2.svc ≠ tt) →
      let old := s.thr tt
      let sec := v.getLsbD 0
      if sec = old.sec then writes [.syswr t i, .thworldWrite t i] th
      else if sec = true ∧ fuseLimit s.keyw.secthr 4 < s.secureCount (t / 16) + 1 then denied [.syswr t i, .thworldWrite t i]
      else ∃ l : BitVec 2, ∀ c ∈ [.syswr t i, .thworldWrite t i],
        exec c s = .next (((s.issuing t len).setThr tt
          { old with sec := sec, lvl := l, den := [], rs := [], rsPtr := 0, rsDepth := 0, flags := 0, tcw := 0, ctl := 0x06 }).after t th len)) ∧
    (tt = t → th.lvl = 0 → n ∈ [0x004, 0x006, 0x008, 0x009, 0x00A, 0x020, 0x028, 0x030, 0x040, 0x060, 0x063, 0x101, 0x110, 0x180, 0x192] →
      denied [.syswr t i])

/-- A SYSWR that the thread's level permits: TLBLKCMD UNLOCK makes the slot's L2 TLB entry an ordinary entry and clears the slot's
V, UNLOCK of every slot does so for all, both with RESULT 0; LOAD gives result 3 on a slot that is valid and not LOST, result 4
when the thread's stages are flat and result 1 with code 0x0D when its walk passed its deadline, leaving the slot unchanged, and
on a walk that is done and permitted it locks the entry into the slot with RESULT 0; a hypervisor that names a secure thread or
its slot raises a system-access fault; the monitor's L2LOCK write that changes no way that holds a line writes its fields, where
more than 12 locked ways leave LOCK as it was, and a locked fill way leaves FILLEN and FILLWAY as they were while FILLCORE takes
its new value (which of FILLEN and FILLWAY stays being the model's choice, log 65) (R292, R293, R294, R295, R320). -/
def Obligations.TlbLocksAndL2Lock : Prop :=
  ∀ (s : State) (t : Nat) (a b : BitVec 8),
    let i : Ins := .full (denEnc2 a b)
    let th := s.thr t
    let len := i.bytes
    let c := t / 16
    let sel := (s.denData t a).toNat % 2 ^ 64
    let v : W64 := (s.denData t b).setWidth 64
    let slot := bits v 7 2
    let core (cmd : Instr) (f : Core → Core) : Prop :=
      ∀ x ∈ [.syswr t i, cmd], exec x s = .next ((s.modCore c f).after t th len)
    let open' (p : Nat → Bool) (k : Core) : Core :=
      { k with l2tlb := k.l2tlb.map (fun e => if (match e.lock with | some n => p n | none => false) then { e with lock := none } else e),
               locks := k.locks.map (fun l => if p l.1 then (l.1, { l.2 with v := false }) else l),
               tlblkstat := setBits k.tlblkstat 10 8 0 }
    s.Ready t len → (s.denTag t a = Tag.int ∨ s.denTag t a = Tag.bits) → (s.denTag t b = Tag.int ∨ s.denTag t b = Tag.bits) → sel < 2 ^ 16 →
    (sel % 4096 = 0x110 → lvlMeets th.sec th.lvl 2 = true →
      if s.tlblkDenied c (th.lvl == 3) v = true then s.Traps t (.syswr t i) len { code := 0x1A, step := 7, opnd := 1 }
      else
        (bits v 1 0 = 2 → core (.tlblkUnlock t i) (open' (fun n => n == slot))) ∧
        (bits v 1 0 = 3 → core (.tlblkUnlockAll t i) (open' (fun _ => true))) ∧
        (bits v 1 0 = 1 → bits v 14 13 ≠ 3 →
          let who := s.thr (16 * c + bits v 11 8)
          let held : Bool := match tfind (s.core c).locks slot with | some l => l.v && !l.lost | none => false
          let lvl : BitVec 2 := if bit v 12 then (if who.sec then 3 else 2) else 0
          let x := mkXCtx who.sec lvl who.xs1 who.xs1h who.xs2
          if held = true then core (.tlblkLoad t i) (fun k => { k with tlblkstat := 0x300 })
          else if x.en1 = false ∧ x.en2 = false then core (.tlblkLoad t i) (fun k => { k with tlblkstat := 0x400 })
          else if th.late = some meshExn then core (.tlblkLoad t i) (fun k => { k with tlblkstat := 0x0D0100 })
          else ∀ (e : TlbEntry) (u : State),
            let acc := bits v 14 13
            let w : Walk := { tid := 16 * c + bits v 11 8, fetch := acc == 2, opnd := 0, half := false, wr := acc == 1,
                              va := BitVec.ofNat 48 (bits (s.core c).tlblkaddr 47 14 * 2 ^ 14), x := x, lvl1 := 0, tab1 := 0, pa1 := none,
                              s2 := none, done1 := none, install := true }
            let r := if acc = 1 then dirtyPage t (some e) u else (true, u)
            let e' : TlbEntry := if acc = 1 then { e with df1 := true, df2 := true } else e
            (walkStart c w (s.issuing t len)).bind (fun o s1 => match o with
              | .more w1 => loadWalk c 64 w1 s1
              | .found f => .ok (.found f) s1) = .ok (.found e) u →
            loadPerm x.user acc e = none → r.1 = true →
            ((r.2.core c).l2tlb.filter (fun f => f.set == e'.set && f.lock.isSome)).length < 2 →
            ∀ y ∈ [.syswr t i, .tlblkLoad t i],
              exec y s = .next (((r.2.modCore c (fun k => k.lockEntry slot (bits v 11 8) (bit v 12) e')).modCore c
                (fun k => { k with tlblkstat := 0 })).modThr t (fun q => { q.clear with pc := th.pc + BitVec.ofNat 48 len })))) ∧
    (sel % 4096 = 0x192 → th.lvl = 3 →
      let k := s.cluster (t / 64)
      let ways : W64 := if 12 < ((List.range 16).filter (fun w => v.getLsbD (16 + w))).length then k.l2lock else v
      let fill : W64 := if bit v 0 = true ∧ bit v (16 + bits v 7 4) = true then k.l2lock else v
      let n : W64 := (ways &&& 0xFFFF0000) ||| (fill &&& 0x0F1) ||| (v &&& 0x300)
      (∀ e ∈ k.l2, bit n (16 + slotWay e.1) = bit k.l2lock (16 + slotWay e.1) ∧
        (bit n 0 = true → slotWay e.1 = bits n 7 4 → bit k.l2lock 0 = true ∧ bits k.l2lock 7 4 = bits n 7 4)) →
      ∀ x ∈ [.syswr t i, .l2lockWrite t i],
        exec x s = .next ((s.modCluster (t / 64) (fun y => { y with l2lock := n })).after t th len))

/-- A trap with a record whose fields fit theirs chooses bank U under the cases of R236 and TROUTE, and a busy bank S is escalated
into bank U with ESC set, but for a displacing interrupt; when the chosen bank U is busy the thread stops with THPC at the
instruction given, no bank is written, and the thread's ID is logged; otherwise the chosen bank alone receives the saved PC, the
pending next instruction, the status with TB set, the cause, the addresses and the TCW, and the thread is ACTIVE at BASE x 256 +
0x40 x class, at the level of the bank's owner, with CM equal to HCM, its other THCTL fields, its fetch buffer empty, its world,
its Den, its flags and its return stack unchanged, and THTCW 0; no other thread, no memory and no register changes (R231, R234,
R236, R237, R239, R240, R241, R242, R243, R245, R246). -/
def Obligations.TrapEntry : Prop :=
  ∀ (s : State) (t : Nat) (x : Exn) (named : Bool) (pc : Addr) (npc : Option Addr) (stop : Addr),
    let th := s.thr t
    let v := s.trapEnter t x named pc npc stop
    let y := v.thr t
    let routed : Bool :=
      [([0x20], 7), ([0x19, 0x1A], 6), ([0x18], 5), ([0x10, 0x11, 0x12, 0x13, 0x14, 0x15], 4), ([0x0C, 0x0D], 3),
       ([0x06, 0x07, 0x08, 0x09], 2), ([0x03, 0x04, 0x05], 1), ([0x01, 0x02], 0)].any
        (fun g => g.1.contains x.code && bit th.troute g.2)
    let u0 : Bool := decide (2 ≤ th.lvl.toNat) || x.code == 0x21 ||
      (if x.code = 0x30 ∨ x.code = 0x31 then named else x.stage == 2 || routed)
    let esc : Bool := !u0 && bit th.bankS.stat 32 && x.code != 0x30
    let u := u0 || esc
    let b := if u then y.bankU else y.bankS
    let old := if u then th.bankU else th.bankS
    x.code < 256 → x.step < 16 → x.opnd < 4 → x.stage < 4 → x.src < 1024 → x.callno < 2 ^ 16 → t < 768 →
    if u = true ∧ bit th.bankU.stat 32 = true ∧ x.code ≠ 0x30 then
      y.st = .stopped ∧ y.pc = stop ∧ y.bankS = th.bankS ∧ y.bankU = th.bankU ∧
        bits (v.reg Key.evrHaltlog) 9 0 = t ∧ v.mem = s.mem ∧ (s.rf (Key.evrBind (416 + t / 64)) 35 32 ≠ 0 → (tfind v.evPend (416 + t / 64)).isSome = true)
    else
      b.vec = old.vec ∧ b.pc = pc.setWidth 64 ∧
      bit b.npc 63 = npc.isSome ∧ bits b.npc 47 0 = (npc.getD 0).toNat ∧ bits b.npc 62 48 = 0 ∧
      bits b.stat 4 0 = th.flags.toNat ∧ bits b.stat 9 8 = th.lvl.toNat ∧ bits b.stat 23 16 = th.ctl.toNat ∧ bit b.stat 32 = true ∧
        bit b.stat 33 = esc ∧
      bits b.cause 7 0 = x.code ∧ bit b.cause 8 = x.wr ∧ bit b.cause 9 = x.half ∧ bits b.cause 11 10 = x.opnd ∧
        bits b.cause 15 12 = x.step ∧ bits b.cause 17 16 = x.stage ∧ bits b.cause 41 32 = x.src ∧ bits b.cause 63 48 = x.callno ∧
      b.addr = x.addr.setWidth 64 ∧ b.ipa = x.ipa.setWidth 64 ∧ b.tcw = th.tcw ∧
      (if u = true then y.bankS = th.bankS else y.bankU = th.bankU) ∧
      y.st = .active ∧ y.lvl = (if u = true then (if th.sec = true then 3 else 2) else 1) ∧
      y.pc = BitVec.ofNat 48 (bits old.vec 47 8 * 256 +
        0x40 * (if x.code = 0x20 ∨ x.code = 0x21 then 1 else if x.code = 0x30 then 2 else if x.code = 0x31 then 3 else 0)) ∧
      bit y.ctl 0 = bit old.vec 0 ∧ bits y.ctl 7 1 = bits th.ctl 7 1 ∧ y.tcw = 0 ∧ y.slot = none ∧ y.park = none ∧ y.fetch = [] ∧
      y.sec = th.sec ∧ y.den = th.den ∧ y.flags = th.flags ∧ y.rs = th.rs ∧ y.rsPtr = th.rsPtr ∧ y.rsDepth = th.rsDepth ∧
      (∀ k, k ≠ t → v.thr k = s.thr k) ∧ v.mem = s.mem ∧ v.regs = s.regs ∧ v.evPend = s.evPend

/-- A legal SVC that issues in either mode, with a condition that holds, takes its trap with its call number and the address of
the instruction after it as the saved PC; HVC does so for a normal-world thread at supervisor level or above and raises a
privilege fault otherwise; an undefined opcode at an aligned address, whose head word the fetch buffer holds, takes an
illegal-instruction trap with operand 0, in the delay slot of a transfer not taken with the address after the slot as the pending
next instruction where the head word gives the slot's length; an instruction whose first part that cannot be fetched has a fault
takes the trap of that fault at step 1 with operand 0 and that part's address; at a misaligned address both are an alignment
fault; the thread's own address is saved and the delay slot's record kept. In either mode, a TRET below supervisor level raises a
privilege fault at step 3; above it, a bank whose saved level lies above the issuing level or is excluded by R30 for the thread's
world gives a privilege fault at step 7, which changes nothing else; otherwise, no write of the thread being refused or
outstanding, the flags, the level, THCTL and THTCW return from bank S for a supervisor and from bank U above it, TB of that bank
alone is cleared, and the thread goes on at the saved PC, as a delay slot before the pending next instruction when DS is 1 (what
the length of that slot settles being settled when it issues, log 62) (R88, R107, R157, R158, R163, R234, R243, R244, R30, R201,
R229, R247). -/
def Obligations.TrapsTakenAndReturned : Prop :=
  (∀ (s : State) (t : Nat),
    let th := s.thr t
    let pending : Option Addr := th.slot.bind (fun sl => sl.next)
    (∀ i : Ins, s.Runs t i →
      (match i with
       | .full e => e.form = 1 ∧ e.mode 1 = 6 ∧ e.m2 = 0 ∧ e.m3 = 0 ∧ e.ax = false ∧ e.x1.toNat < 2 ^ 16
       | .compact c => c.d = 0 ∧ c.s = 0 ∧ c.x = true ∧ c.sg = false ∧ c.sz = 0 ∧ c.ext.toNat < 2 ^ 16) →
      let n := match i with | .full e => e.x1.toNat | .compact c => c.ext.toNat
      let after := th.pc + BitVec.ofNat 48 i.bytes
      exec (.svc t i) s = .next ((s.issuing t i.bytes).trapEnter t { code := 0x20, callno := n } false after none th.pc) ∧
      ∀ e, i = .full e →
        if th.sec = false ∧ 1 ≤ th.lvl.toNat then
          exec (.hvc t e) s = .next ((s.issuing t i.bytes).trapEnter t { code := 0x21, callno := n } false after none th.pc)
        else s.Traps t (.hvc t e) i.bytes { code := 0x02, step := 3 }) ∧
    (t < 768 → s.canIssue t = true → (∀ sl, th.slot = some sl → sl.call = false ∧ sl.next.isSome = true) →
      let misaligned (c : Instr) : Prop :=
        ∃ f, exec c s = .next ({ s with fresh := f }.trapEnter t { code := 0x03, step := 1, addr := th.pc } false th.pc pending th.pc)
      if th.pc.toNat % (if bit th.ctl 0 then 4 else 2) ≠ 0 then
        misaligned (.undefinedOpcode t) ∧ ∀ k, misaligned (.instructionFetchFault t k)
      else
        (th.holdsCode th.pc 4 = true → ∃ f, exec (.undefinedOpcode t) s = .next
          (({ s with fresh := f }.issuing t 4).trapEnter t { code := 0x01, step := 2 } false th.pc pending th.pc)) ∧
        ∀ (k : FetchFault) (va : Addr),
          let x : Exn := match k with
            | .translation none => { code := 0x06, step := 1, stage := 1, addr := va }
            | .translation (some a) => { code := 0x06, step := 1, stage := 2, addr := va, ipa := a }
            | .permission none => { code := 0x07, step := 1, stage := 1, addr := va }
            | .permission (some a) => { code := 0x07, step := 1, stage := 2, addr := va, ipa := a }
            | .walkRegion none => { code := 0x08, step := 1, stage := 1, addr := va }
            | .walkRegion (some a) => { code := 0x08, step := 1, stage := 2, addr := va, ipa := a }
            | .walkPoison none => { code := 0x09, step := 1, stage := 1, addr := va }
            | .walkPoison (some a) => { code := 0x09, step := 1, stage := 2, addr := va, ipa := a }
            | .timeout => { code := 0x0D, step := 1, addr := va }
            | .poison => { code := 0x10, step := 1, addr := va }
            | .mmio => { code := 0x0C, step := 1, addr := va }
          s.fetchFault t = some x → exec (.instructionFetchFault t k) s = .next (s.trapEnter t x false th.pc pending th.pc)) ∧
    (t < 768 → s.canIssue t = true → th.pc.toNat % (if bit th.ctl 0 then 4 else 2) = 0 → th.holdsCode th.pc 4 = true →
      ∀ (sl : Slot) (n : Nat), th.slot = some sl → s.peekLen (fetchCtx s t) th.pc = some n →
        exec (.undefinedOpcode t) s = .next ((s.issuing t n).trapEnter t { code := 0x01, step := 2 } false th.pc
          (some (sl.next.getD (th.pc + BitVec.ofNat 48 n))) th.pc))) ∧
  (∀ (s : State) (t : Nat) (i : Ins), s.Runs t i → i.bare →
    let th := s.thr t
    let u : Bool := decide (2 ≤ th.lvl.toNat)
    let b := if u then th.bankU else th.bankS
    let l := bits b.stat 9 8
    if th.lvl = 0 then s.Traps t (.tret t i) i.bytes { code := 0x02, step := 3 }
    else if th.lvl.toNat < l ∨ (th.sec = true ∧ l = 2) ∨ (th.sec = false ∧ l = 3) then
      s.Traps t (.tret t i) i.bytes { code := 0x02, step := 7 }
    else th.mmioOld = [] →
      let b' : TrapBank := { b with stat := setBits b.stat 32 32 0 }
      exec (.tret t i) s = .next (s.setThr t { th.clear with
        flags := BitVec.ofNat 5 (bits b.stat 4 0), lvl := BitVec.ofNat 2 l, ctl := BitVec.ofNat 8 (bits b.stat 23 16),
        tcw := tcwFields (if bit th.tcw 63 then 0 else th.tcw) b.tcw, pc := b.pc.setWidth 48,
        slot := if bit b.npc 63 then
            some (match b.slot with
              | some sl => { next := if sl.next.isNone then none else some (b.npc.setWidth 48), annul := false, call := sl.call }
              | none => { next := some (b.npc.setWidth 48), annul := false, call := false })
          else none,
        bankS := if u then th.bankS else b', bankU := if u then b' else th.bankU,
        old := none, entered := false, issued := true }))

/-- In either mode, a THSTART at hypervisor level or above whose selector names another thread and a level that R199 allows, with
a start address that passes its checks, makes a STOPPED target ACTIVE at that level and address and sets T, and leaves any other
target alone with T 0; an odd start address raises an alignment fault for operand 2 (at step 6, the model's choice, log 73), any
other selector a system-access fault at step 7; below hypervisor level it is a privilege fault. A THSTOP of the own thread leaves
it STOPPED at its next instruction with T 1; of a PARKED, SUSPENDED or ACTIVE thread that is not in a delay slot leaves that
thread STOPPED with T 1 where it is to resume; of a STOPPED one changes nothing with T 0; a selector that is not permitted raises
a system-access fault. The premises leave out requests that the stopped thread serves (R30, R157, R199, R200, R201, R499). -/
def Obligations.StartAndStop : Prop :=
  ∀ (s : State) (t : Nat) (i : Ins) (sel : Nat) (a : Nat), s.Runs t i →
    let th := s.thr t
    let tt := t / 16 * 16 + sel % 16
    let who := s.thr tt
    let l := sel / 16 % 4
    let upper : Bool := th.lvl == 3 || (th.lvl == 2 && !th.sec)
    let refused (c : Instr) : Prop := s.Traps t c i.bytes { code := 0x1A, step := 7, opnd := 1 }
    ((match i with
      | .full e => ∃ d b : BitVec 8, e = denEnc2 d b ∧ (s.denTag t d = Tag.int ∨ s.denTag t d = Tag.bits) ∧
          sel = (s.denData t d).toNat % 2 ^ 64 ∧ a = (s.denData t b).toNat % 2 ^ 64 ∧ a < 2 ^ 48 ∧
          (s.denTag t b = Tag.code ∨ (bit th.ctlInForce 4 = false ∧ (s.denTag t b = Tag.int ∨ s.denTag t b = Tag.bits)))
      | .compact c => c.x = false ∧ c.sg = false ∧ c.sz = 0 ∧ th.reads32 (s.denTag t c.d) ∧ th.reads32 (s.denTag t c.s) ∧
          sel = (low32 (s.denData t c.d)).toNat ∧ a = s.compactVa t (low32 (s.denData t c.s)) ∧ a < 2 ^ 48) →
      if upper = false then s.Traps t (.thstart t i) i.bytes { code := 0x02, step := 3 }
      else if a % 2 = 1 then s.Traps t (.thstart t i) i.bytes { code := 0x03, step := 6, opnd := 2, addr := BitVec.ofNat 48 a }
      else if 64 ≤ sel ∨ tt = t ∨ (who.sec = true ∧ l = 2) ∨ (who.sec = false ∧ l = 3) ∨ (th.lvl ≠ 3 ∧ who.sec = true) then
        refused (.thstart t i)
      else if s.thState tt = 0 then
        exec (.thstart t i) s = .next (((s.issuing t i.bytes).setThr tt
          { who with st := .active, lvl := BitVec.ofNat 2 l, pc := BitVec.ofNat 48 a }).after t (th.flagged { t := some true }) i.bytes)
      else exec (.thstart t i) s = .next (s.after t (th.flagged { t := some false }) i.bytes)) ∧
    ((match i with
      | .full e => ∃ d : BitVec 8, e = { denEnc2 d 0 with form := 1, x2 := 0 } ∧ (s.denTag t d = Tag.int ∨ s.denTag t d = Tag.bits) ∧
          sel = (s.denData t d).toNat % 2 ^ 64
      | .compact c => c.s = 0 ∧ c.x = false ∧ c.sg = false ∧ c.sz = 0 ∧ th.reads32 (s.denTag t c.d) ∧ sel = (low32 (s.denData t c.d)).toNat) →
      (∀ r ∈ s.hingeWait, r.svc ≠ tt) → (∀ r ∈ s.hingeOut, r.2.svc ≠ tt) → th.block = none → th.blockOp = none →
      if 16 ≤ sel ∨ (tt ≠ t ∧ ¬ (th.lvl = 3 ∨ (upper = true ∧ who.sec = false))) then refused (.thstop t i)
      else if tt = t then
        exec (.thstop t i) s = .next ((s.dropInFlight t).setThr t
          { (th.flagged { t := some true }).advanced i.bytes with st := .stopped, park := none })
      else if who.st = .stopped then exec (.thstop t i) s = .next (s.after t (th.flagged { t := some false }) i.bytes)
      else who.slot = none → who.mmioW = none →
        ∃ u, exec (.thstop t i) s = .next u ∧ (u.thr tt).st = .stopped ∧
          (u.thr tt).pc = (match who.park with | some (.wake p) => p | some (.words p _) => p | none => who.pc) ∧
          (u.thr tt).den = who.den ∧ u.mem = s.mem ∧ u.regs = s.regs ∧
          u.thr t = (th.flagged { t := some true }).advanced i.bytes ∧ ∀ k, k ≠ t → k ≠ tt → u.thr k = s.thr k)

/-- A legal TLBI at a level that allows it, with every earlier store of the thread visible, removes from its core the TLB entries
and, with W, the walk-cache entries that match, marks the locks of removed entries LOST, and completes once no walk that it meets
is in progress and every access that used a removed entry is performed, a global one being then on its way to every other core
whose cluster is on, but one in C2; TLBI_REMOTE does the same on one of those cores; SYNC.T, its deadline not passed, completes
when each of the thread's global invalidations has completed on every core that is in service, and waits otherwise with its
thread's wait noted; nothing else changes (R194, R195, R196, R197, R287, R290, R291, R295). -/
def Obligations.InvalidationCommands : Prop :=
  (∀ (s : State) (t : Nat) (a : BitVec 8) (ctl : BitVec 16),
    let e : Enc := { denEnc2 a 0 with m2 := 6, x2 := ctl.setWidth 64 }
    let th := s.thr t
    let w := s.denData t a
    let x := fullCtx s t { group := 10, forms := [] } e
    let m : TlbiMsg := { tid := t, sec := th.sec, lvl := th.lvl, vmid := if th.lvl = 1 ∧ th.sec = false then x.x.vmid else BitVec.ofNat 16 (bits w 111 96),
                         asid := BitVec.ofNat 16 (bits w 79 64), page := BitVec.ofNat 48 (bits w 47 14 * 2 ^ 14), ctl := ctl, cores := [] }
    let k := (s.core (t / 16)).tlbi m
    s.Ready t (e.len false) → (s.denTag t a = Tag.int ∨ s.denTag t a = Tag.bits) →
    if bits ctl 15 7 ≠ 0 ∨ bits ctl 3 2 = 0 ∨ (bit ctl 6 = true ∧ th.lvl ≠ 3) then s.Traps t (.tlbi t e) (e.len false) { code := 0x01, step := 2, opnd := 2 }
    else if th.lvl = 0 then s.Traps t (.tlbi t e) (e.len false) { code := 0x02, step := 3 }
    else if th.lvl = 1 ∧ 2 ≤ bits ctl 3 2 then s.Traps t (.tlbi t e) (e.len false) { code := 0x02, step := 3, opnd := 2 }
    else s.drained t = true → th.late = none → (s.setCore (t / 16) k).tlbiBusy m (t / 16) = false →
      ∃ l : List TlbiMsg, exec (.tlbi t e) s = .next ({ s.setCore (t / 16) k with tlbi := s.tlbi ++ l }.after t th (e.len false)) ∧
        (∀ y ∈ k.itlb ++ k.dtlb ++ k.l2tlb, m.matchTlb y = false) ∧ (∀ y ∈ k.wcache, m.matchWalk y = false) ∧
        (bit ctl 4 = false → l = []) ∧
        (bit ctl 4 = true → ∃ cs, l = [{ m with cores := cs }] ∧
          ∀ c, c ∈ cs ↔ c < 48 ∧ c ≠ t / 16 ∧ s.clusterOn (c / 4) = true ∧ (s.core c).pwr ≠ .c2)) ∧
  (∀ (s : State) (c n : Nat) (m : TlbiMsg), c < 48 → s.tlbi[n]? = some m → c ∈ m.cores → (s.core c).fenced = false →
    let k := (s.core c).tlbi m
    (s.setCore c k).tlbiBusy m c = false →
    ∃ l, exec (.tlbiRemote c n) s = .next { s.setCore c k with tlbi := l } ∧
      (∀ y ∈ k.itlb ++ k.dtlb ++ k.l2tlb, m.matchTlb y = false) ∧ (∀ y ∈ k.wcache, m.matchWalk y = false) ∧
      (∀ p ∈ l, p ∈ s.tlbi ∨ p = { m with cores := m.cores.filter (· != c) })) ∧
  (∀ (s : State) (t : Nat) (e : Enc), s.Ready t (e.len false) → condHolds e.cond (s.thr t).flags = true → (Ins.full e).bare → (s.thr t).lvl ≠ 0 →
    (s.thr t).late = none →
    let done : Prop := ∀ m ∈ s.tlbi, m.tid = t → ∀ c ∈ m.cores, (s.core c).fenced = true ∨ s.clusterOn (c / 4) = false
    (done → exec (.syncT t e) s = .next (s.after t (s.thr t) (e.len false))) ∧
    (¬ done → exec (.syncT t e) s = .next (s.setThr t { s.thr t with
      tcw := if bit (s.thr t).tcw 63 then 0 else (s.thr t).tcw, entered := false, stall := some (meshExn, .tlbi) })))

/-- The event that a core receives next, deliveries in wake and Den mode standing in one order and displacing interrupts in
another, is, among those due there, the first by secure binding, then priority, then lower source number, each under the binding
that it reached the router with. Delivered in wake mode it wakes a thread parked in PARK, else sets the pending wake; in Den mode
it writes DWORD with the event's data and the tag FULL and wakes a thread parked on that word; in displace mode it enters the
handler of a thread outside a delay slot with the event's source in the cause and the PC at which the thread resumes saved; a
sleeping core is woken first. An event whose target is of the other world, above 767 or in a cluster that is not powered is
dropped and counted. EVR_SWSET raises the software event it names, a pending one being merged and counted; below 512, and from the
normal world for a secure binding, it does nothing (R46, R47, R175, R176, R222, R243, R249, R250, R251, R252, R253, R255). -/
def Obligations.EventDelivery : Prop :=
  (∀ (s : State) (c m src : Nat) (d : Data), c < 48 → 1 ≤ m → m ≤ 3 → (∀ p ∈ s.evPend, p.1 < 1024) → s.nextEvent (m == 3) c = some (src, d) → s.heldMode src = m →
    let cmd : Instr := if m = 1 then .wakeDelivery c else if m = 2 then .denDelivery c else .displacingInterrupt c
    let b := s.heldBind src
    let t := bits b 9 0
    let th := s.thr t
    let secure (n : Nat) : Bool := s.rb (Key.evrSecmap (n / 64)) (n % 64)
    let prio (n : Nat) : Nat := bits (s.heldBind n) 44 42
    let taken : State := { s with evPend := tdel s.evPend src, evBind := tdel s.evBind src }
    let n := bits b 23 16
    let inPark : Bool := match th.park with | some (.wake _) => true | _ => false
    let onWord : Bool := match th.park with | some (.words _ ws) => ws.contains n | _ => false
    tfind s.evPend src = some d ∧
    (∀ p ∈ s.evPend, s.dueOn c p.1 = true → (s.heldMode p.1 = 3 ↔ m = 3) →
      (secure p.1 = true → secure src = true) ∧ (secure p.1 = secure src → prio p.1 ≤ prio src) ∧
      (secure p.1 = secure src → prio p.1 = prio src → src ≤ p.1)) ∧
    (¬ (t < 768 ∧ th.sec = secure src ∧ s.clusterOn (t / 64) = true) →
      exec cmd s = .next (taken.count Key.evrDrop 31 0 1)) ∧
    (t < 768 → th.sec = secure src → s.clusterOn (t / 64) = true → (s.core (t / 16)).fenced = false →
      (m = 1 → exec cmd s = .next ((taken.modCore (t / 16) (fun k => { k with pwr := .c0 })).setThr t
        (if th.st = .parked ∧ inPark = true then th.unpark else { th with wake := true }))) ∧
      (m = 2 → ∃ u, exec cmd s = .next u ∧ (u.thr t).denWord n = { data := d, tag := Tag.full } ∧
        (∀ j, j ≠ n → (u.thr t).denWord j = th.denWord j) ∧ (u.core (t / 16)).pwr = .c0 ∧ u.evPend = taken.evPend ∧
        (u.thr t).st = (if th.st = .parked ∧ onWord = true then .active else th.st) ∧
        (∀ k, k ≠ t → u.thr k = s.thr k) ∧ u.mem = s.mem ∧ ((th.denWord n).tag ≠ Tag.full → u.regs = s.regs)) ∧
      (m = 3 → th.st = .active ∨ th.st = .parked → th.slot = none → th.block = none → th.blockOp = none →
        exec cmd s = .next ((taken.modCore (t / 16) (fun k => { k with pwr := .c0 })).trapEnter t { code := 0x30, src := src } (bit b 39)
          th.resumePc none th.resumePc)))) ∧
  (∀ (s : State) (w : Writer) (v : W64),
    let n := bits v 9 0
    if n < 512 ∨ (w.secure = false ∧ s.rb (Key.evrSecmap (n / 64)) (n % 64) = true) ∨ s.rf (Key.evrBind n) 35 32 = 0 then
      exec (.softwareEvent w v) s = .next s
    else match tfind s.evPend n with
      | none => exec (.softwareEvent w v) s = .next { s with evPend := tput s.evPend n 0, evBind := tput s.evBind n (s.reg (Key.evrBind n)) }
      | some _ => exec (.softwareEvent w v) s = .next ({ s with evPend := tput s.evPend n 0 }.count Key.evrDrop 31 0 1))

/-- A watchdog that counts, has not expired since its restart, and is at or above PERIOD sets EXP, raises source 408 and acts: 0
and 1 trap an ACTIVE or PARKED thread outside a delay slot into the named bank, but not before the first handler instruction of an
earlier entry has issued, 2 does no more, 3 stops the thread. A thread's read that passes its deadline leaves its timeout fault to
be taken and raises source 406 for a PCIe window, 402 elsewhere; an instruction that waits under entry 2 has its timeout fault to
take too, with 402, unless what it waits for has come; a walk that passes it ends with its timeout fault; a DMA engine's access
raises 402, or 406 for a PCIe window, and is noted so that the engine's descriptor stops at it. A late response is counted in its
entry's LATE counter, saturating, and changes nothing else. An answer of a table walk whose word its L2 holds advances the walk,
or ends it with its entry filled into the TLBs and kept for its access, or ends it with the fault its thread takes (R243, R257,
R258, R259, R260, R276, R279, R281). -/
def Obligations.WatchdogAndDeadlines : Prop :=
  (∀ (s : State) (t : Nat),
    let th := s.thr t
    let s1 := (s.modThr t (fun u => { u with wdExp := true, wdDone := true })).raise 408 0
    t < 768 → bit th.wdctl 63 = true → th.st ≠ .stopped → (s.core (t / 16)).fenced = false → th.wdDone = false →
    bits th.wdctl 31 0 ≤ th.wdCount →
    (bits th.wdctl 62 61 = 2 → exec (.watchdogExpiry t) s = .next s1) ∧
    (bits th.wdctl 62 61 = 3 → exec (.watchdogExpiry t) s = .next (s1.stopThread t)) ∧
    (bits th.wdctl 62 61 < 2 → th.entered = true → exec (.watchdogExpiry t) s = .next s) ∧
    (bits th.wdctl 62 61 < 2 → th.entered = false → th.st ≠ .suspended → th.slot = none → th.block = none → th.blockOp = none →
      exec (.watchdogExpiry t) s = .next ((s1.wakeCore (t / 16)).trapEnter t { code := 0x31 } (bits th.wdctl 62 61 == 1)
        th.resumePc none th.resumePc)) ∧
    (s1.thr t).wdExp = true) ∧
  (∀ (s : State) (t : Nat) (r : ExtReq), t < 768 → (s.thr t).mmioW = none → (s.thr t).extReq = some r →
    exec (.meshDeadlineExpiry (.thread t)) s = .next
      ((s.setThr t { s.thr t with late := some r.tmo, extReq := none, stall := none }).raise
        (if s.region r.pa.toNat = .pcie then 406 else 402) 0)) ∧
  (∀ (s : State) (t : Nat) (e : Exn) (on : StallOn), t < 768 → (s.thr t).mmioW = none → (s.thr t).extReq = none →
    (s.thr t).stall = some (e, on) →
    exec (.meshDeadlineExpiry (.thread t)) s = .next (if s.stallOver t on then s
      else (s.setThr t { s.thr t with late := some e, extReq := none, stall := none }).raise 402 0)) ∧
  (∀ (s : State) (c n : Nat) (w : Walk), c < 48 → (s.core c).walks[n]? = some w →
    let gone (u : State) : State := u.modCore c (fun k => { k with walks := k.walks.eraseIdx n })
    let faulted (u : State) (e : Exn) : State := (gone u).modThr w.tid (fun y =>
      if w.fetch then { y with fetchBad := some { line := alignTo w.va 6, exn := e }, codeXlat := none } else { y with late := some e })
    exec (.meshDeadlineExpiry (.walk c n)) s = .next ((faulted s (w.exn 0x0D 0 w.wr 0)).raise 402 0) ∧
    (s.walkReady c w = false → exec (.walkReadResponse c n) s = .next s) ∧
    (s.walkReady c w = true → (∀ e u, walkStep c w s = .trap e u → exec (.walkReadResponse c n) s = .next (faulted u e)) ∧
    (∀ w1 u, walkStep c w s = .ok (.more w1) u →
      exec (.walkReadResponse c n) s = .next (u.modCore c (fun k => { k with walks := k.walks.set n w1 }))) ∧
    (∀ e u, walkStep c w s = .ok (.found e) u →
      let v := (gone u).modCore c (fun k => k.fillTlb w e)
      exec (.walkReadResponse c n) s = .next
        (if w.install then v else v.modThr w.tid (fun y =>
          if w.fetch then { y with codeXlat := some e } else { y with xlat := e :: y.xlat }))))) ∧
  (∀ (s : State) (a : DmaAgent) (pa : Addr), a.unitOk = true → (∀ q, a ≠ .crypto q) →
    exec (.meshDeadlineExpiry (.dma a pa)) s = .next { s.raise (if s.region pa.toNat = .pcie then 406 else 402) 0 with
      dmaLate := (a, pa.toNat / 16) :: s.dmaLate.erase (a, pa.toNat / 16) }) ∧
  (∀ (s : State) (i : Nat),
    let counted (entry key : Nat) : Prop := exec (.lateResponse entry i) s = .next (s.count key 31 0 1)
    (i < 4 → counted 1 (Key.memLate i)) ∧ (∀ e ∈ [2, 6],
      (i < 12 → counted e (Key.l3Late i)) ∧ (i = 12 → counted e Key.hseLate) ∧ (i = 13 → counted e Key.pairLate) ∧
      (i = 14 → counted e Key.cryLate) ∧ (i = 15 → counted e Key.pcieLate) ∧ (16 ≤ i → i < 24 → counted e (Key.rlkLate (i - 16)))) ∧
    (i < 8 → counted 3 (Key.rlkLate i)) ∧
    (i = 0 → counted 4 Key.cryLate ∧ counted 5 Key.pcieLate ∧ counted 7 Key.settLate ∧ counted 10 Key.bdgSlate) ∧
    (i < 48 → counted 9 (Key.bdgHblate i)) ∧
    (i < 768 → exec (.lateResponse 8 i) s = .next (s.modThr i (fun th => { th with wdLate := satAdd 0xFFFFFFFF th.wdLate 1 }))))

/-- A read that a thread waits for is answered with the register's readable bits, tag INT, fields of access RC being cleared, or
with an error response where the page does not exist or is closed to the thread's world; EVR_DROP reads its count and clears. A
write's answer releases the thread, or enters its handler with an error-response fault at step 8 for the operand, saving the
write's address, or the instruction after it when the thread has been displaced since. A register write outside device reset
changes a binding of the Event Router as its mask of fields allows when the binding is open to the writer, and changes nothing
otherwise; only the monitor changes EVR_SECMAP; an address that is no register is left alone; the management port's I3C controller
assigns the device's dynamic address (R4, R5, R16, R17, R18, R111, R226, R250, R255, R499). -/
def Obligations.RegisterAccesses : Prop :=
  (∀ (s : State) (t : Nat) (r : ExtReq), t < 768 → (s.thr t).extReq = some r → s.region r.pa.toNat = .mmio →
    let k := r.pa.toNat / 16 * 16 % 2 ^ 28
    let mask : BitVec 16 := if r.part = 1 then 0x000F else if r.part = 2 then 0x00F0 else 0x00FF
    let answered (u : State) (w : Option TWord) : State :=
      u.modThr t (fun th => { th with extReq := none, extAns := tput th.extAns r.key w })
    (s.pageOpen k r.sec = false → exec (.mmioReadAnswer t) s = .next (answered s none)) ∧
    (s.pageOpen k r.sec = true → (regIdx (Key.guPat 0) 0x100 16 k).isSome = false →
      exec (.mmioReadAnswer t) s = .next (answered (s.mmioAfter k mask) (some { data := (s.mmioValue k).setWidth 128, tag := Tag.int }))) ∧
    (k = Key.evrDrop → r.part = 0 → ∃ u, exec (.mmioReadAnswer t) s = .next u ∧ u.rf Key.evrDrop 31 0 = 0 ∧
      tfind (u.thr t).extAns r.key = some (some { data := BitVec.ofNat 128 (s.rf Key.evrDrop 31 0), tag := Tag.int }))) ∧
  (∀ (s : State) (t : Nat) (w : MmioWait), t < 768 → (s.thr t).mmioW = some w →
    (w.result = some true → exec (.mmioWriteAnswer t) s = .next (s.setThr t { s.thr t with mmioW := none })) ∧
    (w.result = some false → (s.thr t).st ≠ .stopped → w.slot = none → w.after = false →
      exec (.mmioWriteAnswer t) s = .next ((s.setThr t { s.thr t with mmioW := none }).trapEnter t
        { code := 0x0C, step := 8, opnd := w.opnd, half := w.half, wr := true, addr := w.addr } false w.pc none w.pc)) ∧
    (w.result = some false → (s.thr t).st ≠ .stopped → (s.thr t).slot = none → w.after = true →
      exec (.mmioWriteAnswer t) s = .next ((s.setThr t { s.thr t with mmioW := none }).trapEnter t
        { code := 0x0C, step := 8, opnd := w.opnd, half := w.half, wr := true, addr := w.addr } false (s.thr t).pc none (s.thr t).pc))) ∧
  (∀ (s : State) (w : Writer) (n : Nat) (v : W64), s.aon.inReset = false → w.tid ≠ 1024 → w.tid ≠ 1025 →
    let at' (k : Nat) : Addr := BitVec.ofNat 48 (0xF00000000000 + k)
    let map := Key.evrSecmap (n / 64)
    (n < 1024 →
      exec (.registerWrite w (at' (Key.evrBind n)) v) s =
        .next (if w.secure = true ∨ s.rb map (n % 64) = false then
            (s.writeReg (Key.evrBind n) v) else s) ∧
      (∀ j < 64, (w.secure = true ∨ s.rb map (n % 64) = false) →
        ((s.writeReg (Key.evrBind n) v).reg (Key.evrBind n)).getLsbD j = if j < 10 ∨ (16 ≤ j ∧ j < 24) ∨ (j = 39) ∨ (42 ≤ j ∧ j < 45) ∨ (48 ≤ j ∧ j < 58) then v.getLsbD j
          else if 32 ≤ j ∧ j < 36 then (if bits v 35 32 < 4 then v.getLsbD j else (s.reg (Key.evrBind n)).getLsbD j)
          else if 40 ≤ j ∧ j < 42 then (if bits v 41 40 < 3 then v.getLsbD j else (s.reg (Key.evrBind n)).getLsbD j)
          else (s.reg (Key.evrBind n)).getLsbD j)) ∧
    (n < 1024 → exec (.registerWrite w (at' map) v) s =
      .next (if w.secure = true ∧ w.lvl = 3 then s.setReg map v else s)) ∧
    (s.region (at' n).toNat ≠ .mmio → exec (.registerWrite w (at' n) v) s = .next s)) ∧
  (∀ (s : State) (w : Writer) (pa : Addr) (v : W64), s.aon.inReset = false → w.tid = 1025 → s.boot.mgmtSpi = false →
    exec (.registerWrite w pa v) s = .next { s with sett := { s.sett with i3cAddr := some (v.setWidth 7) } })

/-- For a pair link that mirrors nothing and asks for no repair: the oldest entry of a store buffer, when the cluster's L2 owns
its line in a way of its world, is merged into that line, which becomes M, and the cluster's L1I copies go; when the line bypasses
the L2 and no cache holds it, the word in memory is merged; a write to an MMIO page does what the page makes of it or nothing, and
waits where that access lies in a chunk not yet initialised. A data line that a miss register tracks and the L2 holds is installed
in the way given, and a request that waits in the L2 is made; a request that waits there does nothing yet, and one at the home
slice for a line that no cache holds installs it in E with the visible words and records it in the directory; an upgrade of the
only copy makes it E or M; a read snoop leaves a line in S, an ownership snoop takes a clean one with its L1 copies; an evicted
dirty line goes to memory when its L3 slice is disabled, and a clean one is dropped under CLEANPOL 2; a DMA write of a word that
no cache holds changes that word in memory alone, with the tag BITS from TSN and PCIe, and a DMA read of such a word changes
nothing; a DMA access that is refused or past its deadline logs its address and does no more, and one to a chunk not yet
initialised promotes the chunk and waits (R16, R300, R301, R302, R303, R306, R307, R308, R310, R316, R317, R353). -/
def Obligations.CoherenceCommands : Prop :=
  (∀ (s : State) (c : Nat) (e : SbEntry) (r : List SbEntry), c < 48 → (s.core c).sb = e :: r → s.pair.mirrors = false → s.pair.repairs = [] →
    let a := e.pa.toNat
    let k := c / 4
    let s1 := s.modCore c (fun x => { x with sb := r })
    (e.kind = .mem → (s.region a).tagged = true → s.reaches e.sec a = true → s.standbyRefuses a = false →
      (∀ slot l, (s.cluster k).l2Find (lineOf a) = some (slot, l) → l.st = .m ∨ l.st = .e → slotSec (s.cluster k) slot = e.sec →
        let i := a / 16 % 4
        let l' : L2Line := { l with st := .m, ws := l.ws.set i (mergeWord (l.ws.getD i TWord.fresh) e.mask e.data e.tag) }
        exec (.storeBufferDrain c) s = .next ((s1.modCluster k (fun x => { x with l2 := tput x.l2 slot l' })).modClusterCores k
          (fun x => { x with l1i := x.l1i.filter (fun y => y.2 != lineOf a) }))) ∧
      ((∀ j < 12, (s.cluster j).l2Find (lineOf a) = none) → s.l3Find (lineOf a) = none → s.l2Takes c (lineOf a) e.sec = false →
        exec (.storeBufferDrain c) s = .next { s1 with mem := s.mem.setWord (a / 16) (mergeWord (s.mem.word (a / 16)) e.mask e.data e.tag) })) ∧
    (e.kind = .mmio →
      let u : State := match (if e.legal then s1.mmioWrite { secure := e.sec, lvl := e.lvl, tid := e.tid } (a % 2 ^ 28) e.data e.mask else none) with
         | some u => u.modThr e.tid (fun th => th.mmioSent true)
         | none => s1.modThr e.tid (fun th => th.mmioSent false)
      (u.dmaWait = none → s.accepts u = true → exec (.storeBufferDrain c) s = .next u) ∧
      (∀ p, u.dmaWait = some p → s.dmaWait = none → exec (.storeBufferDrain c) s = .next { s with dram := s.dram.promote p }))) ∧
  (∀ (s : State) (c line way : Nat) (m : Mshr), c < 48 → way < 8 → m.icache = false → m.line = line → m.noInstall = false → m ∈ (s.core c).mshr →
    (∀ n ∈ (s.core c).mshr, n.icache = false → n.line = line → n = m) → (s.l2Has (c / 4) line m.sec).isSome = true →
    s.l1On c false = true → bit (s.core c).l1dpart way = m.sec →
    exec (.lineFill c false line way) s = .next (((s.modCore c (fun x =>
      { x with mshr := x.mshr.filter (fun n => !(n.icache == false && n.line == line)) })).l2Admit (c / 4)).modCore c (fun x =>
      { x with l1d := tput (x.l1d.filter (fun e => e.2 != line)) (line % 128 * 8 + way) line }))) ∧
  (∀ (s : State) (k line way core : Nat) (own secure : Bool), k < 12 → core < 4 → way < 16 → (s.cluster k).l2On = true →
    (s.region (line * 64)).tagged = true → s.reaches secure (line * 64) = true → s.chunkReady (line * 64) = true →
    (s.l2Queued k line = true → exec (.homeSliceRequest k line own way core secure) s = .next s) ∧
    (s.l2Queued k line = false → (∀ j < 12, (s.cluster j).l2Find line = none) → s.l3Find line = none → (s.cluster k).heldFind line = none →
      tfind (s.cluster k).l2 (line % 2048 * 16 + way) = none → (s.cluster k).wayOk line way core secure = true →
      (s.dirSet line).length < 16 →
      ∃ u, exec (.homeSliceRequest k line own way core secure) s = .next u ∧ u.mem = s.mem ∧ u.l3 = s.l3 ∧ ((∀ m ∈ s.clusterMshrs k, m.queued = false) → u.cores = s.cores) ∧
        tfind (u.cluster k).l2 (line % 2048 * 16 + way) = some { line := line, st := .e, pin := false, ws := s.visLine line } ∧
        (∃ d, tfind u.dir line = some d ∧ d.presence.getLsbD k = true ∧ d.excl = true) ∧ (∀ j, j ≠ k → u.cluster j = s.cluster j)) ∧
    (s.l2Queued k line = false → ∀ slot l, (s.cluster k).l2Find line = some (slot, l) → l.st = .s → slotSec (s.cluster k) slot = secure → own = true →
      (tfind s.dir line).isSome = true →
      (∀ j < 12, j ≠ k → (s.cluster j).l2Find line = none) →
      (∀ key y, s.l3Find line = some (key, y) → s.rb (Key.l3Part (key / 65536)) (key % 16) = secure) →
      ∃ u, exec (.homeSliceRequest k line own way core secure) s = .next u ∧ s.mem = u.mem ∧
        (∃ st, (st = .e ∨ st = .m) ∧ tfind (u.cluster k).l2 slot = some { l with st := st }) ∧
        ∀ key y, s.l3Find line = some (key, y) → tfind u.l3 key = none)) ∧
  (∀ (s : State) (k line slot : Nat) (l : L2Line), k < 12 → (s.cluster k).l2Find line = some (slot, l) →
    (l.st = .e → ∃ u, exec (.snoop k line false) s = .next u ∧ tfind (u.cluster k).l2 slot = some { l with st := .s } ∧ u.mem = s.mem ∧
      ∀ d, tfind u.dir line = some d → d.excl = false) ∧
    (l.st = .e ∨ l.st = .s → l.pin = false → ∃ u, exec (.snoop k line true) s = .next u ∧ tfind (u.cluster k).l2 slot = none ∧
      u.mem = s.mem ∧ ∀ j, j / 4 = k → ∀ y ∈ (u.core j).l1d ++ (u.core j).l1i, y.2 ≠ l.line)) ∧
  (∀ (s : State) (k set way l3way : Nat) (l : L2Line), k < 12 → set < 2048 → way < 16 → l3way < 16 → (s.cluster k).l2On = true →
    tfind (s.cluster k).l2 (set * 16 + way) = some l → l.st ≠ .held → l.pin = false → bit (s.cluster k).l2lock (16 + way) = false →
    (l.st = .m → s.rb (Key.l3Ctl (homeSlice l.line)) 0 = true →
      ∃ u, exec (.evictionOffer k set way l3way) s = .next u ∧ tfind (u.cluster k).l2 (set * 16 + way) = none ∧
        u.mem = s.mem.setLine l.line l.ws ∧ u.l3 = s.l3) ∧
    (l.st ≠ .m → s.rf (Key.l3Ctl (homeSlice l.line)) 5 4 = 2 →
      ∃ u, exec (.evictionOffer k set way l3way) s = .next u ∧ tfind (u.cluster k).l2 (set * 16 + way) = none ∧ u.mem = s.mem ∧ u.l3 = s.l3)) ∧
  (∀ (s : State) (g : DmaAgent) (pa : Addr) (w : TWord) (mask : BitVec 16),
    let a := pa.toNat
    g.unitOk = true → (s.region a).tagged = true → s.reaches g.secure a = true → s.chunkReady a = true → s.standbyRefuses a = false →
    s.pair.mirrors = false → s.pair.repairs = [] → (∀ j, (s.cluster j).l2Find (lineOf a) = none) → s.l3Find (lineOf a) = none →
    s.sett.c4 = false → (g, a / 16) ∉ s.dmaLate →
    exec (.dmaRead g pa) s = .next { s with dmaWait := none } ∧
    exec (.dmaWrite g pa w mask) s = .next { s with dmaWait := none, mem := s.mem.setWord (a / 16) (mergeWord (s.mem.word (a / 16)) mask w.data
      (match g with | .tsn _ => Tag.bits | .pcie => Tag.bits | _ => w.tag)) }) ∧
  (∀ (s : State) (g : DmaAgent) (pa : Addr) (w : TWord) (mask : BitVec 16),
    let a := pa.toNat
    let logged : State := { s with dmaWait := none, ioLog := s.ioLog ++ [(g, pa)], dmaLate := s.dmaLate.erase (g, a / 16) }
    g.unitOk = true →
    ((s.region a).tagged = false ∨ s.reaches g.secure a = false ∨ (g, a / 16) ∈ s.dmaLate →
      exec (.dmaRead g pa) s = .next logged ∧ exec (.dmaWrite g pa w mask) s = .next logged) ∧
    (s.region a = .dram → s.dram.ready a = false → s.reaches g.secure a = true → s.standbyRefuses a = false → s.sett.c4 = false →
      (g, a / 16) ∉ s.dmaLate →
      let promoted : State := { s with dmaWait := none, dram := s.dram.promote a }
      exec (.dmaRead g pa) s = .next promoted ∧ exec (.dmaWrite g pa w mask) s = .next promoted))

/-- A secure write of L3_PART within the fused limit, no line standing in a way that moves, sets SECWAYS, and one beyond it
changes nothing; a SYSWR of L1DPART beyond its limit raises a system-access fault and one within it drops the lines of the ways
that move; setting DIS of an L3 slice or an L1D sets STALE with it, and clearing it while STALE is 1 does nothing; L3_SCRCFG takes
UNITS and SECUNITS and sets BUSY when UNITS changes, a reserved UNITS or SECUNITS leaving its own field (the model's reading of
R5, log 68), is ignored while BUSY, and the end of the conversion clears BUSY and makes the units reachable; a secure write of
L3_WAYRET retires ways that are not scratch, four at most, with BUSY until the ways are empty. An error in an array, whose time
the model leaves free (log 69), poisons a Den word, invalidates an L1 line and counts it in L1ERR, removes a TLB or walk-cache
entry, drops an L2 line, or is counted in L3_ERRCNT, the word being POISON in its own array alone or the line gone where it is not
corrected, and a dirty line that is lost awaits its report (R5, R44, R286, R314, R315, R318, R325, R326, R327, R331, R333, R607).
-/
def Obligations.CacheConfiguration : Prop :=
  (∀ (s : State) (w : Writer) (h : Nat) (v : W64), h < 12 → w.secure = true →
    let key := Key.l3Part h
    let limit := if s.keyw.l3sec = 0 then 8 else s.keyw.l3sec
    let count := ((List.range 16).filter (fun i => v.getLsbD i)).length
    (limit < count → exec (.partitionWrite (.mmio w h v)) s = .next s) ∧
    (count ≤ limit → (∀ e ∈ s.l3, e.1 / 65536 = h → v.getLsbD (e.1 % 16) = (s.reg key).getLsbD (e.1 % 16)) →
      exec (.partitionWrite (.mmio w h v)) s = .next (s.setReg key (v &&& 0xFFFF))) ∧
    (∃ u, exec (.cacheDisable (.mmio w h v)) s = .next u ∧
      u.rb (Key.l3Ctl h) 0 = (v.getLsbD 0 || (s.rb (Key.l3Ctl h) 0 && s.rb (Key.l3Ctl h) 1)) ∧
      u.rb (Key.l3Ctl h) 1 = (v.getLsbD 0 || s.rb (Key.l3Ctl h) 1) ∧
      u.rf (Key.l3Ctl h) 5 4 = (if bits v 5 4 = 3 then s.rf (Key.l3Ctl h) 5 4 else bits v 5 4) ∧ u.l3 = s.l3 ∧ u.mem = s.mem)) ∧
  (∀ (s : State) (t : Nat) (a b : BitVec 8),
    let i : Ins := .full (denEnc2 a b)
    let th := s.thr t
    let c := t / 16
    let v : W64 := (s.denData t b).setWidth 64
    let n := (s.denData t a).toNat % 2 ^ 64
    s.Ready t i.bytes → th.lvl = 3 → (s.denTag t a = Tag.int ∨ s.denTag t a = Tag.bits) → (s.denTag t b = Tag.int ∨ s.denTag t b = Tag.bits) →
    (n = 0x181 →
      if (if s.keyw.l1dsec = 0 then 4 else s.keyw.l1dsec) < ((List.range 8).filter (fun j => v.getLsbD j)).length then
        s.Traps t (.partitionWrite (.sys t i)) i.bytes { code := 0x1A, step := 7, opnd := 1 }
      else
        let moved (x : Core) : Core :=
          { x with l1dpart := v &&& 0xFF, l1d := x.l1d.filter (fun e => v.getLsbD (e.1 % 8) == x.l1dpart.getLsbD (e.1 % 8)) }
        exec (.partitionWrite (.sys t i)) s = .next ((s.modCore c moved).after t th i.bytes)) ∧
    (n = 0x180 → ∃ w : W64, exec (.cacheDisable (.sys t i)) s = .next ((s.modCore c (fun x => { x with l1ctl := w })).after t th i.bytes) ∧
      ∀ j < 2, w.getLsbD j = (v.getLsbD j || ((s.core c).l1ctl.getLsbD j && (s.core c).l1ctl.getLsbD (j + 4))) ∧
        w.getLsbD (j + 4) = (v.getLsbD j || (s.core c).l1ctl.getLsbD (j + 4)))) ∧
  (∀ (s : State) (w : Writer) (v : W64), w.secure = true →
    let key := Key.l3Scrcfg
    let old := s.rf key 7 0
    let u := if 128 < bits v 7 0 then old else bits v 7 0
    let sec := if u < bits v 15 8 then s.rf key 15 8 else bits v 15 8
    (s.rb key 63 = true → exec (.scratchConfig w v) s = .next s) ∧
    (s.rb key 63 = false → old ≤ u → (∀ h < 12, s.rf (Key.l3Wayret h) 15 0 = 0) →
      exec (.scratchConfig w v) s = .next (s.setReg key (BitVec.ofNat 64 ((if u = old then 0 else 2 ^ 63) + sec * 256 + u)))) ∧
    (s.rb key 63 = true → ∃ x, exec .scratchConversionDone s = .next x ∧ x.rb key 63 = false ∧ x.rf key 15 0 = s.rf key 15 0 ∧
      x.scrReady = old ∧ ∀ n, s.scrReady ≤ n → n < old → old ≤ 128 → s.rb (Key.l3Ctl (n % 12)) 0 = false → s.dram.top ≤ 2 ^ 46 →
        x.region (0x7F4000000000 + n * 0x40000) = .scratch ∧
        x.mem.word ((0x7F4000000000 + n * 0x40000) / 16) = { data := 0, tag := Tag.uninit })) ∧
  (∀ (s : State) (w : Writer) (h : Nat) (v : W64), h < 12 → w.secure = true →
    let key := Key.l3Wayret h
    let ret : W64 := s.reg key ||| (v &&& 0xFFFF)
    (4 < ((List.range 16).filter (fun j => ret.getLsbD j)).length ∨ (∃ j < 16, v.getLsbD j = true ∧ s.scratchWay h j = true) →
      exec (.wayRetire w h v) s = .next s) ∧
    (((List.range 16).filter (fun j => ret.getLsbD j)).length ≤ 4 → (∀ j < 16, v.getLsbD j = true → s.scratchWay h j = false) →
      bits ret 15 0 ≠ s.rf key 15 0 → exec (.wayRetire w h v) s = .next (s.setReg key (setBits ret 63 63 1))) ∧
    (s.rb key 63 = true → ∃ u, exec (.wayRetireDone h) s = .next u ∧ u.rb key 63 = false ∧ u.rf key 15 0 = s.rf key 15 0 ∧
      ∀ e ∈ u.l3, e.1 / 65536 = h → s.rb key (e.1 % 16) = false)) ∧
  (∀ (s : State) (t n c which slot line h i key : Nat) (l2 : L2Line) (l3 : L3Line), t < 768 → n < 256 → c < 48 → h < 12 →
    (let u := s.applyUpset (.den t n)
     ((u.thr t).denWord n).tag = Tag.poison ∧ (∀ j, j ≠ n → (u.thr t).denWord j = (s.thr t).denWord j) ∧
       (∀ k, k ≠ t → u.thr k = s.thr k) ∧ u.mem = s.mem ∧ u.regs = s.regs) ∧
    (tfind (s.core c).l1d slot = some line →
      let x := (s.applyUpset (.l1 c false slot)).core c
      tfind x.l1d slot = none ∧ bits x.l1err 15 0 = satAdd 0xFFFF (bits (s.core c).l1err 15 0) 1 ∧ x.dpars = (s.core c).dpars + 1 ∧ x.l1i = (s.core c).l1i) ∧
    (tfind (s.core c).l1i slot = some line →
      let x := (s.applyUpset (.l1 c true slot)).core c
      tfind x.l1i slot = none ∧ bits x.l1err 31 16 = satAdd 0xFFFF (bits (s.core c).l1err 31 16) 1 ∧ x.ipars = (s.core c).ipars + 1 ∧ x.l1d = (s.core c).l1d) ∧
    (let x := s.core c
     let counted (len : Nat) : Nat := x.tlbPars + (if n < len then 1 else 0)
     s.applyUpset (.denCorrected c) = s.setCore c { x with denCorrs := x.denCorrs + 1 } ∧
     (s.applyUpset (.tlb c which n)).core c = (match which with
      | 0 => { x with itlb := x.itlb.eraseIdx n, tlbPars := counted x.itlb.length }
      | 1 => { x with dtlb := x.dtlb.eraseIdx n, tlbPars := counted x.dtlb.length }
      | 2 => { x with l2tlb := x.l2tlb.eraseIdx n, tlbPars := counted x.l2tlb.length }
      | _ => { x with wcache := x.wcache.eraseIdx n, tlbPars := counted x.wcache.length })) ∧
    (tfind (s.cluster h).l2 slot = some l2 → l2.st ≠ .held → l2.pin = false →
      let u := s.applyUpset (.l2Line h slot)
      tfind (u.cluster h).l2 slot = none ∧ u.mem = s.mem ∧
        u.bdg.cacheErr = s.bdg.cacheErr ++ (if l2.st = .m then [h] else [])) ∧
    (tfind (s.cluster h).l2 slot = some l2 → l2.st ≠ .held → i < 4 → l2.ws.length = 4 →
      let u := s.applyUpset (.l2Word h slot i)
      (∃ l, tfind (u.cluster h).l2 slot = some l ∧ l.line = l2.line ∧ l.st = l2.st ∧ ∀ j < 4,
        if j = i then (l.ws.getD j TWord.fresh).tag = Tag.poison else l.ws.getD j TWord.fresh = l2.ws.getD j TWord.fresh) ∧
        u.mem = s.mem ∧ u.l3 = s.l3 ∧ ∀ k, k ≠ h → u.cluster k = s.cluster k) ∧
    (tfind s.l3 key = some l3 → i < 4 →
      let cnt := Key.l3Errcnt (key / 65536)
      s.applyUpset (.l3Word key i true) = s.count cnt 31 0 1 ∧
      (let u := s.applyUpset (.l3Word key i false)
       u.rf cnt 63 32 = satAdd 0xFFFFFFFF (s.rf cnt 63 32) 1 ∧ u.mem = s.mem ∧ u.clusters = s.clusters ∧
         (l3.ws.length = 4 → ∃ l, tfind u.l3 key = some l ∧ l.line = l3.line ∧ (l.ws.getD i TWord.fresh).tag = Tag.poison)) ∧
      (let u := s.applyUpset (.l3Line key)
       tfind u.l3 key = none ∧ u.rf cnt 63 32 = satAdd 0xFFFFFFFF (s.rf cnt 63 32) 1 ∧ u.mem = s.mem ∧
         u.bdg.cacheErr = s.bdg.cacheErr ++ (if l3.dirty then [key / 65536] else []))))

/-- A command to a DRAM word whose chunk is not initialised promotes the chunk and does no more. Otherwise a read without error
leaves memory and counters alone; an error in one symbol, with no device marked or in the marked one, is counted in CORR and for
its device; one in the two symbols of a x4 device that can be marked marks it too; one in two symbols otherwise, one beside the
marked device and a wrong address are uncorrectable, which leaves the word data 0 with tag POISON, counts in UNCORR, fills an
empty log with its address and raises source 388 + channel; a whole-word write replaces the word and its tag, and a partial one
writes nothing and is counted in MEM_NARROW; a command that fails is retried once, with source 401 at each expiry, and a read that
fails again is poisoned and counted, a write that fails again is counted. The end of a scrub pass counts it and raises source 395,
and a scrubbed POISON word is counted, which is reported to the Badger island, and left. A chunk's initialisation leaves every
word of it data 0 with tag UNINIT; MEM_RETIRE.START is taken under R357 alone, STATE being 3 otherwise; the copy's end sets STATE
2, retires the channel and raises source 393; a report puts the corrections since the last on the supervision bus and starts them
anew (R340, R341, R343, R344, R345, R346, R349, R351, R353, R357, R358, R360). -/
def Obligations.DramCommands : Prop :=
  (∀ (s : State) (pa : Addr) (w : TWord) (mask : BitVec 16) (rk : Bool) (x y m : Nat),
    let a := pa.toNat
    let ch := channelOf a
    let done (wr : Bool) : State := { s with dram := { s.dram with retry := s.dram.retry.filter (fun e => e != (a / 16, wr)) } }
    let once (wr : Bool) (u : State) : State := { u with dram := { s.dram with retry := s.dram.retry ++ [(a / 16, wr)] } }
    let unit := 20 * b2n rk + 10 * (subIndex a % 2)
    let n := unit + s.deviceOf x
    let counted (u : State) : Prop := u.mem = s.mem ∧
      u.rf (Key.memEcccnt ch) 31 0 = satAdd 0xFFFFFFFF (s.rf (Key.memEcccnt ch) 31 0) 1 ∧
      u.rf (Key.memDevce ch n) 15 0 = satAdd 0xFFFF (s.rf (Key.memDevce ch n) 15 0) 1
    let poisoned (u : State) : Prop :=
      u.mem = s.mem.setWord (a / 16) { data := 0, tag := Tag.poison } ∧
      u.rf (Key.memEcccnt ch) 63 32 = satAdd 0xFFFFFFFF (s.rf (Key.memEcccnt ch) 63 32) 1 ∧
      (s.rf (Key.evrBind (388 + ch)) 35 32 ≠ 0 → (tfind u.evPend (388 + ch)).isSome = true) ∧
      (s.rb (Key.memErrlog ch) 63 = false → u.rb (Key.memErrlog ch) 63 = true ∧ u.rf (Key.memErrlog ch) 47 4 = a / 16 % 2 ^ 44)
    s.region a = .dram → s.relocated a = false → x < 20 → y < 20 →
    if s.dram.ready a = false then
      exec (.dramRead pa .none) s = .next { s with dram := s.dram.promote a } ∧
      exec (.dramWrite pa w mask) s = .next { s with dram := s.dram.promote a }
    else
      exec (.dramRead pa .none) s = .next (done false) ∧
      (s.marked ch unit = none →
        (∃ u, exec (.dramRead pa (.symbols rk [x])) s = .next u ∧ counted u) ∧
        (x ≠ y → s.deviceOf x ≠ s.deviceOf y ∨ s.canMark ch n = false → ∃ u, exec (.dramRead pa (.symbols rk [x, y])) s = .next u ∧ poisoned u) ∧
        (x ≠ y → s.deviceOf x = s.deviceOf y → s.canMark ch n = true → ∃ u, exec (.dramRead pa (.symbols rk [x, y])) s = .next u ∧ counted u ∧
          u.marked ch unit = some (s.deviceOf x))) ∧
      (s.marked ch unit = some m → m < 10 →
        (s.deviceOf x = m → ∃ u, exec (.dramRead pa (.symbols rk [x])) s = .next u ∧ counted u) ∧
        (s.deviceOf x ≠ m → ∃ u, exec (.dramRead pa (.symbols rk [x])) s = .next u ∧ poisoned u)) ∧
      (∃ u, exec (.dramRead pa .address) s = .next u ∧ poisoned u) ∧
      exec (.dramWrite pa w mask) s = .next (if mask = 0xFFFF then { done true with mem := s.mem.setWord (a / 16) w }
        else s.count (Key.memNarrow ch) 31 0 1) ∧
      ((a / 16, true) ∉ s.dram.retry → exec (.dramAlert pa) s = .next (once true s) ∧ exec (.dramCommandTimeout pa true) s = .next (once true (s.raise 401 0))) ∧
      ((a / 16, false) ∉ s.dram.retry → exec (.dramCommandTimeout pa false) s = .next (once false (s.raise 401 0))) ∧
      ((a / 16, false) ∈ s.dram.retry → ∃ u, exec (.dramCommandTimeout pa false) s = .next u ∧ poisoned u) ∧
      ((a / 16, true) ∈ s.dram.retry → ∀ c ∈ [.dramAlert pa, .dramCommandTimeout pa true], ∃ u x, exec c s = .next u ∧
        u.mem = s.mem.setWord (a / 16) x ∧ u.rf (Key.memEcccnt ch) 63 32 = satAdd 0xFFFFFFFF (s.rf (Key.memEcccnt ch) 63 32) 1) ∧
      (s.rb (Key.memScrub ch) 63 = true → s.dram.selfRefresh = false → s.dram.retiring ≠ some ch →
        (s.mem.tag (a / 16) ≠ Tag.poison → exec (.scrubRead ch pa .none false) s = .next s) ∧
        (s.mem.tag (a / 16) = Tag.poison → exec (.scrubRead ch pa .none false) s = .next ((s.count (Key.memEcccnt ch) 63 32 1).toBadger ch
          (fun r => { r with uncorr := r.uncorr + 1 }))) ∧
        ∃ u, exec (.scrubRead ch pa .none true) s = .next u ∧ u.mem = s.mem ∧
          u.rf (Key.memScrub ch) 31 0 = satAdd 0xFFFFFFFF (s.rf (Key.memScrub ch) 31 0) 1 ∧
          (s.rf (Key.evrBind 395) 35 32 ≠ 0 → (tfind u.evPend 395).isSome = true))) ∧
  (∀ (s : State), s.dram.up = true → s.dram.complete = false →
    ∃ u, exec .chunkInitComplete s = .next u ∧
      (s.dram.cur * 0x40000 < s.dram.installed → ∀ n, s.dram.cur * 0x4000 ≤ n → n < (s.dram.cur + 1) * 0x4000 →
        u.mem.word n = { data := 0, tag := Tag.uninit }) ∧
      (∀ n, n < s.dram.cur * 0x4000 ∨ (s.dram.cur + 1) * 0x4000 ≤ n → u.mem.word n = s.mem.word n) ∧
      u.dram.ready (s.dram.cur * 0x40000) = true) ∧
  (∀ (s : State) (w : Writer) (v : W64) (l : List Addr) (ch : Nat), w.secure = true →
    (v.getLsbD 3 = true →
      let ok : Bool := s.dram.reserve && s.dram.complete && s.dram.retired.isNone && s.dram.retiring.isNone
      ∃ u, exec (.channelRetire w v) s = .next u ∧ u.rf Key.memRetire 63 62 = (if ok then 1 else 3) ∧ u.mem = s.mem ∧
        u.dram = (if ok then { s.dram with retiring := some (bits v 1 0), copied := 0 } else s.dram)) ∧
    (s.dram.retiring = some ch →
      ∃ u, exec (.channelRetireDone l) s = .next u ∧ u.rf Key.memRetire 63 62 = 2 ∧ u.dram.retiring = none ∧ u.dram.retired = some ch ∧
        (l = [] → u.mem = s.mem) ∧ (s.rf (Key.evrBind 393) 35 32 ≠ 0 → (tfind u.evPend 393).isSome = true)) ∧
    (ch < 4 → ∃ u, exec (.memReportSend ch) s = .next u ∧ tget 0 u.dram.unsentCorr ch = 0 ∧
      (tget {} u.dram.bus ch).corr = (tget {} s.dram.bus ch).corr + tget 0 s.dram.unsentCorr ch ∧
      u = { s with dram := { s.dram with unsentCorr := u.dram.unsentCorr, bus := u.dram.bus } }))

/-- A read of NOW latches its fraction. Unless a locked standby's (R477) timebase is written, ADJ takes a value within 500,000 ppb
and a reserved one changes nothing; a write of CIO_TB_SLEW starts its offset afresh with BUSY; a step is added to NOW in one tick,
and is refused with STEPREF and source 159 bit 16 while a gate unit is RUN or ARMED or when it is negative. A tick absorbs the
rest of an offset that lies within 100 ppm of its increment, and the end of a slew, once nothing is left of its offset, clears
BUSY (log 44). A write of AT or of ARM rearms a compare unit; one fires when ARM is 1 and NOW has reached AT, or the tick after an
arming at which AT had passed: source 160 + n with the NOW of that tick, PAST when AT had passed at the arming, ARM cleared or AT
moved by PER. Setting EN of the ADC starts calibration; the sequences that a write of ADC_SWTRIG names run, the lower first, and
one that is running, queued or met by calibration is lost and counted. A queued sequence starts when the converter is idle, and
the end of one delivers its codes less 32,768 on source 32 + the channel of slot 0, the upper lanes 0 (R365, R366, R368, R369,
R378, R379, R380, R391). -/
def Obligations.TimebaseAndAdc : Prop :=
  (∀ (s : State) (v : W64),
    let locked : Bool := s.pair.role == 2 && s.rb Key.pairCtl 63 && s.rb Key.pairCtl 62
    let busy : Prop := ∃ u < 16, (s.gu u).run = true ∨ (s.gu u).armed = true
    let ofs : Int := (v.setWidth 40).toInt
    exec .tbNowRead s = .next (s.setReg Key.cioTbFrac (BitVec.ofNat 64 (s.cio.now % 2 ^ 32))) ∧
    (locked = true → ∀ c ∈ [.tbRateWrite v, .tbSlewWrite v, .tbStepWrite v], exec c s = .next s) ∧
    (locked = false →
      exec (.tbRateWrite v) s = .next (if -500000 ≤ (v.setWidth 32).toInt ∧ (v.setWidth 32).toInt ≤ 500000 then
        s.setRf Key.cioTbRate 31 0 (bits v 31 0) else s) ∧
      (∃ u, exec (.tbSlewWrite v) s = .next u ∧ u.rf Key.cioTbSlew 39 0 = bits v 39 0 ∧ u.rb Key.cioTbSlew 63 = decide (ofs ≠ 0) ∧
        u = { s.setReg Key.cioTbSlew (u.reg Key.cioTbSlew) with cio := { s.cio with slew := ofs * 2 ^ 32 } }) ∧
      (busy ∨ v.msb = true → exec (.tbStepWrite v) s = .next ((s.setRf Key.cioTbStat 0 0 1).raise 159 0x10000)) ∧
      (¬ busy → v.msb = false → exec (.tbStepWrite v) s =
        .next { s with cio := { s.cio with now := (s.cio.now + v.toNat * 2 ^ 32) % 2 ^ 96 } })) ∧
    exec .slewComplete s = .next (if s.cio.slew = 0 then s.setRf Key.cioTbSlew 63 63 0 else s) ∧
    (∀ d : Int, tickInc s.adj (-100) ≤ d → d ≤ tickInc s.adj 100 → 0 ≤ d → d ≠ tickInc s.adj 0 → s.cio.slew = d - tickInc s.adj 0 →
      s.cio.tick s.adj = { s.cio with now := (s.cio.now + d.toNat) % 2 ^ 96, slew := 0 })) ∧
  (∀ (s : State) (n : Nat) (v : W64), n < 32 →
    let at' := Key.cioTbCmp n
    let ctl := Key.cioTbCmpctl n
    let now := s.cio.now / 2 ^ 32 % 2 ^ 64
    let passed (x : W64) : Bool := decide (x.toNat ≤ now)
    let others (u : State) : Prop := ∀ m, m ≠ n → tfind u.cio.past m = tfind s.cio.past m
    let next := (s.cio.tick s.adj).now
    (∃ u, exec (.compareWrite n false v) s = .next u ∧ u.reg at' = v ∧ u.reg ctl = s.reg ctl ∧ others u ∧
      tfind u.cio.past n = (if s.rb ctl 0 = true ∧ passed v = true then some next else none)) ∧
    (∃ u, exec (.compareWrite n true v) s = .next u ∧ u.reg at' = s.reg at' ∧ u.rb ctl 0 = v.getLsbD 0 ∧
      u.rb ctl 1 = (s.rb ctl 1 && !v.getLsbD 1) ∧ others u ∧
      u.rf ctl 63 32 = (if 1 ≤ bits v 63 32 ∧ bits v 63 32 ≤ 999 then s.rf ctl 63 32 else bits v 63 32) ∧
      tfind u.cio.past n = (if v.getLsbD 0 = s.rb ctl 0 then tfind s.cio.past n
        else if v.getLsbD 0 = true ∧ passed (s.reg at') = true then some next else none)) ∧
    (let inst := (tfind s.cio.past n).getD ((s.reg at').toNat * 2 ^ 32)
     s.rb ctl 0 = true → inst ≤ s.cio.now →
      let s1 := s.raise (160 + n) (BitVec.ofNat 128 (inst / 2 ^ 32 % 2 ^ 64))
      let s2 := if (tfind s.cio.past n).isSome then
        { s1.setRf ctl 1 1 1 with cio := { s.cio with past := tdel s.cio.past n } } else s1
      exec (.compareFire n) s = .next ((if s.rf ctl 63 32 = 0 then s2.setRf ctl 0 0 0
        else s2.setReg at' (s.reg at' + BitVec.ofNat 64 (s.rf ctl 63 32))).trigger 3 n inst))) ∧
  (∀ (s : State) (v : W64) (q : Nat) (r : List Nat) (codes : List (BitVec 16)),
    let en := s.rb Key.adcCtl 63
    (v.msb = true → exec (.adcEnable v) s = .next (if en = true then s.setRf Key.adcCtl 63 63 1
      else (s.setRf Key.adcCtl 63 63 1).setRf Key.adcCtl 62 62 1)) ∧
    (v.msb = false → ∃ u, exec (.adcEnable v) s = .next u ∧ u.rb Key.adcCtl 63 = false ∧ u.rb Key.adcCtl 62 = false ∧
      u.cio.adcRun = none ∧ u.cio.adcQueue = []) ∧
    exec .adcCalibrationDone s = .next (s.setRf Key.adcCtl 62 62 0) ∧
    (q < 4 → en = true → (s.rb Key.adcCtl 62 = true ∨ s.cio.adcRun = some q ∨ q ∈ s.cio.adcQueue) →
      exec (.adcSwtrig (1#64 <<< q)) s = .next (s.count Key.adcStat 63 48 1)) ∧
    (en = true → s.rb Key.adcCtl 62 = false → (∀ i < 4, s.cio.adcRun ≠ some i ∧ i ∉ s.cio.adcQueue) →
      let named := s.cio.adcQueue ++ (List.range 4).filter (fun i => v.getLsbD i)
      exec (.adcSwtrig v) s = .next { s with cio := match s.cio.adcRun, s.cio.adcQueue with
        | none, [] => { s.cio with adcRun := named.head?, adcQueue := named.tail }
        | _, _ => { s.cio with adcQueue := named } }) ∧
    (s.cio.adcRun = none → s.cio.adcQueue = q :: r →
      exec .adcSequenceStart s = .next { s with cio := { s.cio with adcRun := some q, adcQueue := r } }) ∧
    (s.cio.adcRun = some q → s.rf (Key.adcSeq q) 63 60 ≤ 8 → s.rf (Key.adcSeq q) 63 60 ≤ codes.length →
      ∃ w : Data, exec (.adcSequenceEnd codes) s =
          .next ({ s with cio := { s.cio with adcRun := none } }.raise (32 + s.rf (Key.adcSeq q) 3 0) w) ∧
        ∀ i < 8, (w >>> (16 * i)).setWidth 16 = (if i < s.rf (Key.adcSeq q) 63 60 then codes.getD i 0 - 0x8000#16 else 0#16)))

/-- While EN is 1 a write of SD_CFG changes only EN, and a change of EN leaves the filter empty; a reserved OSR leaves OSR. A
decimation boundary, whose window has the bits that its lead's alignment gives it and whose edge NOW has reached, takes the
window's bits, leaves the settling state once order × OSR bits have entered, and gives a settled input its sample: a stream of
ones gives OSR to the power of the order, scaled, rounded and saturated. A lead without SYNC delivers its group's word at every
DELIV-th boundary at which all contributors have settled, a group of one in its lane. Clock loss restarts every enabled member
that the ball clocks and raises source 158; a stuck ball sets STUCK and leaves the filter. The fast comparator of full scale
saturates at 32,767 and -32,768; over range sets CTRIP and trips UNIT with TRIP set, and in range ends the cause. A step of A or B
alone moves the count by one, 00, 10, 11, 01 being one way; both together set QERR. An index copies the count, and clears it under
ZCLR. An SSI frame delivers its value, Gray-decoded in MODE 2, with its trigger's timestamp, or on a line error the last good
frame and LINEERR with source 158. A resolver's period ends once NOW has reached its end; it settles after 16 good periods,
delivers every DELIV-th period, lane 2 being the amplitude, whose rounding is open (log 33), and sets LOS outside its thresholds
(R370, R371, R372, R373, R374, R375, R376, R382, R383, R384, R386, R387). -/
def Obligations.MeasurementInputs : Prop :=
  (∀ (s : State) (n : Nat) (v : W64) (win : List Bool) (level : Bool), n < 32 →
    let key := Key.sdCfg n
    let x := s.sdIn n
    (s.rb key 63 = true → exec (.sdCfgWrite n v) s = .next (if v.msb = true then s else ((s.syncResolve n).setRf key 63 63 0).setSd n {})) ∧
    (s.rb key 63 = false → ∃ u, exec (.sdCfgWrite n v) s = .next u ∧ u.rb key 63 = v.msb ∧ u.rf key 62 61 = bits v 62 61 ∧
      u.rf key 57 48 = (if 16 ≤ bits v 57 48 ∧ bits v 57 48 ≤ 512 then bits v 57 48 else s.rf key 57 48) ∧
      u.rf key 60 58 = (if bits v 60 58 ≤ 4 then bits v 60 58 else s.rf key 60 58) ∧
      u.rf key 39 32 = bits v 39 32 ∧ u.rf key 25 24 = bits v 25 24 ∧ u.rf key 20 16 = bits v 20 16 ∧
      u.rf key 47 40 = (if bits v 47 40 = 0 then s.rf key 47 40 else bits v 47 40) ∧
      u.sdIn n = (if v.msb = true then { last := s.cio.now } else x) ∧ ∀ m, m ≠ n → u.sdIn m = s.sdIn m) ∧
    (s.rb key 63 = true → 4 ≤ s.rf key 60 58 ∨ s.rb (Key.cioSdClk (s.rf key 60 58)) 63 = true → s.windowOk n win.length (s.sdInstant n win.length) = true →
      s.sdInstant n win.length ≤ s.cio.now → 16 ≤ s.rf key 57 48 → s.rf key 57 48 ≤ 512 →
      let inst := s.sdInstant n win.length
      let osr := s.rf key 57 48
      let order := if s.rb key 62 = true then 4 else 3
      let sk := Key.sdScale n
      ∃ y : SdIn, ∃ u, exec (.decimationBoundary n win) s = .next u ∧ u = (if s.rf key 20 16 = n then (s.setSd n y).leadBoundary n inst else s.setSd n y) ∧
        y.entered = x.entered + win.length ∧ y.settled = (x.settled || decide (order * osr ≤ x.entered + win.length)) ∧ y.last = inst ∧
        y.lastB = some inst ∧ y.part = 0 ∧ (s.rf (Key.sdCfg (s.rf key 20 16)) 38 37 = 0 → win.length = osr) ∧
        y.hist = (win.reverse ++ x.hist).take 2048 ∧
        (y.settled = false → y.sample = x.sample) ∧
        (∀ b : Bool, y.settled = true → (∀ c ∈ y.hist, c = b) → order * (osr - 1) + 1 ≤ y.hist.length →
          let r : Int := if b = true then (osr : Int) ^ order else -(osr : Int) ^ order
          let p : Int := 2 ^ s.rf sk 29 24
          let z : Int := (2 * (r * s.rf sk 23 0) + p) / (2 * p) - (BitVec.ofNat 32 (s.rf sk 63 32)).toInt
          y.sample.toInt = max (-2 ^ 31) (min (2 ^ 31 - 1) z)) ∧
        (s.rf key 20 16 = n → s.rf key 38 37 = 0 → s.rb key 39 = false → (∀ m < 32, m ≠ n → s.rf (Key.sdCfg m) 20 16 ≠ n) →
          u = (if y.settled = false then s.setSd n y
            else if x.deliv + 1 < s.rf key 47 40 then s.setSd n { y with deliv := x.deliv + 1 }
            else ((s.setSd n y).setSd n { y with deliv := 0 }).raise n (y.sample.setWidth 128 <<< (32 * s.rf key 25 24))))) ∧
    (s.cio.now < s.sdInstant n win.length → exec (.decimationBoundary n win) s = .next s) ∧
    (exec (.sdStuck n level) s = .next (if s.rb key 63 = true then (s.setRf (Key.sdStat n) 3 3 1).raise 158 (BitVec.ofNat 128 (2 ^ n)) else s)) ∧
    (let lost (m : Nat) : Bool := s.rf (Key.sdCfg m) 20 16 == n && s.rb (Key.sdCfg m) 63 && s.rf (Key.sdCfg m) 60 58 == 4
     ∃ u, exec (.sdClockLoss n) s = .next u ∧
      (∀ m < 32, u.sdIn m = (if lost m = true then { s.sdIn m with hist := [], entered := 0, settled := false } else s.sdIn m) ∧
        u.rb (Key.sdStat m) 1 = (s.rb (Key.sdStat m) 1 || lost m)) ∧
      ((∃ m < 32, lost m = true) → s.rf (Key.evrBind 158) 35 32 ≠ 0 → ∃ d, tfind u.evPend 158 = some d ∧ ∀ m < 32, d.getLsbD m = lost m) ∧
      ((∀ m < 32, lost m = false) → u = s)) ∧
    (let ck := Key.sdCmp n
     let active := s.rb key 63 && s.rb ck 63 && (decide (4 ≤ s.rf key 60 58) || s.rb (Key.cioSdClk (s.rf key 60 58)) 63)
     let lo := (BitVec.ofNat 16 (s.rf ck 15 0)).toInt
     let hi := (BitVec.ofNat 16 (s.rf ck 31 16)).toInt
     let out := { s.setRf (Key.sdStat n) 5 5 1 with cio := (s.setSd n { x with overRange := true }).cio }
     2 * s.cosr n ≤ win.length → active = true →
     (hi < s.cmpOut n win ∨ s.cmpOut n win < lo → exec (.comparatorOverRange n win) s =
       .next (if s.rb ck 62 = true then out.trip (1#16 <<< s.rf ck 59 56) else out)) ∧
     (lo ≤ s.cmpOut n win → s.cmpOut n win ≤ hi →
       exec (.comparatorInRange n win) s = .next (s.setSd n { x with overRange := false })) ∧
     ((∀ b ∈ win, b = true) → s.cmpOut n win = 32767) ∧ ((∀ b ∈ win, b = false) → s.cmpOut n win = -32768))) ∧
  (∀ (s : State) (n : Nat) (a b : Bool), n < 8 →
    let e := s.enc n
    let key := Key.encCfg n
    let pos := s.reg (Key.encPos n)
    let moved (d : W64) : State := (s.setEnc n { e with a := a, b := b }).setReg (Key.encPos n) (pos + d)
    let forward : Bool := if a != e.a then a != b else a == b
    s.rb key 63 = true → s.rf key 62 61 = 0 →
    (a ≠ e.a → b ≠ e.b → exec (.encoderEdge n a b) s =
      .next ((s.setEnc n { e with a := a, b := b, qSince := true }).setRf (Key.encStat n) 0 0 1)) ∧
    ((a != e.a) ≠ (b != e.b) →
      exec (.encoderEdge n a b) s = .next (moved (if forward = Config.encoderALeadsUp then 1 else -1))) ∧
    (a = e.a → b = e.b → exec (.encoderEdge n a b) s = .next (s.setEnc n { e with a := a, b := b })) ∧
    (∃ u, exec (.encoderIndex n) s = .next u ∧ u.reg (Key.encZpos n) = pos ∧ u.rb (Key.encStat n) 2 = true ∧
      u.enc n = { e with zSince := true } ∧ u.reg (Key.encPos n) = if s.rb key 60 = true then 0 else pos)) ∧
  (∀ (s : State) (n t0 : Nat) (raw : BitVec 32) (low tail : Bool), n < 8 → (s.enc n).frame = some t0 →
    let e := s.enc n
    let key := Key.encCfg n
    let stop := t0 + (s.rf key 39 32 + 1) * s.rf key 31 16 * 10
    let e1 := { e with frame := none, monoUntil := stop + s.rf key 15 0 * 10 }
    let since : Data := BitVec.ofNat 128 ((if e.zSince = true then 2 ^ 96 else 0) + (if e.qSince = true then 2 ^ 97 else 0))
    let word (p : W64) (ts : BitVec 32) : Data := (p.setWidth 128 ||| ts.setWidth 128 <<< 64) + since
    (low = true ∨ tail = true → exec (.ssiFrameEnd n raw low tail) s =
      .next ((((s.setEnc n e1).setRf (Key.encStat n) 1 1 1).raise 158 (BitVec.ofNat 128 (2 ^ (32 + n)))).setEnc n
        { e1 with zSince := false, qSince := false } |>.raise (48 + n) (word e.pos e.ts + (1#128 <<< 98)))) ∧
    (low = false → tail = false → 8 ≤ s.rf key 39 32 → s.rf key 39 32 ≤ 32 →
      let r : W64 := BitVec.ofNat 64 (raw.toNat % 2 ^ s.rf key 39 32)
      ∃ p : W64, (if s.rf key 62 61 = 2 then p ^^^ (p >>> 1) = r else p = r) ∧
        exec (.ssiFrameEnd n raw low tail) s = .next (((s.setEnc n { e1 with pos := p, ts := BitVec.ofNat 32 t0 }).setEnc n
          { e1 with pos := p, ts := BitVec.ofNat 32 t0, zSince := false, qSince := false }).raise (48 + n) (word p (BitVec.ofNat 32 t0))))) ∧
  (∀ (s : State) (n : Nat) (sin cos : Int) (tracking : Bool), n < 4 →
    let key := Key.resCfg n
    let i := s.rf key 60 56
    let j := s.rf key 55 51
    let r := { s.resCh n with few := s.resFew n, snapSin := (s.sdIn i).bounds, snapCos := (s.sdIn j).bounds }
    let fits (m : Nat) : Prop := s.rb (Key.sdCfg m) 63 = true ∧ s.rf (Key.sdCfg m) 20 16 = m ∧ s.rf (Key.sdCfg m) 38 37 = 0 ∧
      (s.rf (Key.sdCfg m) 60 58 < 4 → s.rb (Key.cioSdClk (s.rf (Key.sdCfg m) 60 58)) 63 = true ∧
        16 * s.rf (Key.sdCfg m) 57 48 * s.rf (Key.cioSdClk (s.rf (Key.sdCfg m) 60 58)) 8 0 * 5 ≤ 8 * s.rf key 18 0)
    ((s.resCh n).endAt > s.cio.now → exec (.resolverPeriodEnd n sin cos tracking) s = .next s) ∧
    ((s.resCh n).endAt ≤ s.cio.now → s.rb key 63 = true → ¬ (fits i ∧ fits j ∧ r.few = false ∧ (s.sdIn i).settled = true ∧ (s.sdIn j).settled = true) →
      ∃ u, exec (.resolverPeriodEnd n sin cos tracking) s = .next u ∧ (u.resCh n).settled = false ∧ (u.resCh n).good = 0 ∧
        u.evPend = s.evPend) ∧
    ((s.resCh n).endAt ≤ s.cio.now → s.rb key 63 = true → fits i → fits j → r.few = false → (s.sdIn i).settled = true → (s.sdIn j).settled = true →
      ∃ u, exec (.resolverPeriodEnd n sin cos tracking) s = .next u ∧
      (r.settled = false → (u.resCh n).good = (if tracking = true then r.good + 1 else 0) ∧
        (u.resCh n).settled = decide (16 ≤ (u.resCh n).good) ∧ u.evPend = s.evPend) ∧
      (r.settled = true → (u.resCh n).settled = true ∧ ∃ amp : Nat,
        let q := sin ^ 2 + cos ^ 2
        let hi := (BitVec.ofNat 16 (s.rf (Key.resThr n) 31 16)).toInt * 65536
        let lo := (BitVec.ofNat 16 (s.rf (Key.resThr n) 15 0)).toInt * 65536
        let due := r.deliv + 1
        ((amp : Int) ^ 2 ≤ q ∧ q < ((amp : Int) + 1) ^ 2 ∨ ((amp : Int) - 1) ^ 2 < q ∧ q ≤ (amp : Int) ^ 2) ∧
        u.rb (Key.resStat n) 1 = (s.rb (Key.resStat n) 1 || decide (hi < amp) || decide ((amp : Int) < lo)) ∧
        (hi < amp ∨ (amp : Int) < lo → s.rf (Key.evrBind 158) 35 32 ≠ 0 →
          tfind u.evPend 158 = some (BitVec.ofNat 128 (2 ^ (40 + n)))) ∧
        (due < s.rf key 47 40 → (u.resCh n).deliv = due ∧ tfind u.evPend (56 + n) = tfind s.evPend (56 + n)) ∧
        (s.rf key 47 40 ≤ due → (u.resCh n).deliv = 0 ∧ (s.rf (Key.evrBind (56 + n)) 35 32 ≠ 0 →
          ∃ w : Data, tfind u.evPend (56 + n) = some w ∧ (w >>> 96).toNat = (s.resCh n).endAt / 2 ^ 32 % 2 ^ 32 ∧
            (amp < 2 ^ 31 → bits w 95 64 = amp))))))

/-- A unit's balls are in high impedance until a write gives GU_CFG a MODE other than 0, then at the channels' levels under POL. A
write of GU_START to a busy unit sets CFGREF and raises source 159; otherwise it arms the unit, or runs it at once in the phase of
AT when AT has passed; a unit that starts under a cause of inhibit is held. At AT an armed unit runs and applies the last pattern
staged, the others counted in SUPERSEDE. STOP takes effect at the next boundary of a running unit, where every channel turns off,
with the events of those that were on, and its patterns go, and at once on an armed one. A store to the pattern window stages the
clamped compare values in COMP3 mode alone, a commit the edges in EDGE mode alone. At a boundary of a unit whose outputs are free,
the last pattern stored before the unit ran, or with UPD = 0 sent 40 ns before it, is applied, and with UPD = 1 each later one at
its own time, 40 ns after it was sent; then a channel is on only where its pattern wants it and its partner is off. A unit that
was held with no cause left resumes with the latest pattern; one still inhibited switches nothing. Boundaries and centres raise
the sources of the channels that select them. A channel's edge follows its pattern, dead time in COMP3 and the interlock in EDGE
mode, whose overlap sets SHOOT (R392, R393, R394, R395, R396, R397, R398, R399, R401, R403, R620). -/
def Obligations.GateUnits : Prop :=
  (∀ (s : State) (u : Nat) (v : W64) (d : Data), u < 16 →
    let g := s.gu u
    let stat := Key.guStat u
    let half := s.rf (Key.guHalf u) 23 0
    let ns := s.cio.now / 2 ^ 32 % 2 ^ 64
    let off := s.cio.inhBdg || s.cio.inhPin || s.cio.inhSw || s.cio.pairHold || s.cio.utrip.getLsbD u
    let fresh : GateUnit := { g with armed := false, run := true, stopping := false, pat := none, next := 0, hold := off }
    (s.cio.driven.getLsbD u = false → s.gateBalls u = none) ∧
    (g.run = false → g.armed = false → s.aon.inReset = false → bits v 63 62 = 1 ∨ bits v 63 62 = 2 →
      ∀ b, (s.guCfgWrite u v).gateBalls u = some b → ∀ c < 6, b.getLsbD c = (g.on.getLsbD c != ((s.guCfgWrite u v).reg (Key.guCfg u)).getLsbD (48 + c))) ∧
    (g.run = false → g.armed = false → s.aon.inReset = false → bits v 63 62 = 1 ∨ bits v 63 62 = 2 → ((s.guCfgWrite u v).gateBalls u).isSome = true) ∧
    (g.run = true ∨ g.armed = true → exec (.gateStartWrite u v) s = .next ((s.setRf stat 2 2 1).raise 159 (BitVec.ofNat 128 (2 ^ u)))) ∧
    (g.run = false → g.armed = false → ns < v.toNat →
      exec (.gateStartWrite u v) s = .next ((s.setReg (Key.guStart u) v).setGu u { g with armed := true })) ∧
    (g.run = false → g.armed = false → v.toNat ≤ ns → 0 < half → ∃ k,
      exec (.gateStartWrite u v) s =
        .next ((s.setReg (Key.guStart u) v).setGu u { g with run := true, stopping := false, pat := none, next := k, hold := off }) ∧
      s.cio.now < v.toNat * 2 ^ 32 + k * half * 2 ^ 30 ∧ (k = 0 ∨ v.toNat * 2 ^ 32 + (k - 1) * half * 2 ^ 30 ≤ s.cio.now)) ∧
    (g.armed = true → (s.reg (Key.guStart u)).toNat ≤ ns →
      (g.staged = [] → exec (.gateRunStart u) s = .next (s.setGu u fresh)) ∧
      ∀ x q, g.staged = q ++ [x] → ∃ y, exec (.gateRunStart u) s = .next y ∧ y.gu u = { fresh with pat := some x.pat, staged := [] } ∧
        y.rf stat 63 48 = satAdd 0xFFFF (s.rf stat 63 48) q.length ∧
        ∀ c < 6, s.rf (Key.guEv u) (3 * c + 2) (3 * c) = 3 → s.rf (Key.evrBind (60 + 6 * u + c)) 35 32 ≠ 0 →
          tfind y.evPend (60 + 6 * u + c) = some ((s.reg (Key.guStart u)).setWidth 128)) ∧
    exec (.gateStop u) s = .next (if g.run = true then s.setGu u { g with stopping := true }
      else if g.armed = true then s.setGu u { g with armed := false, staged := [], pat := none } else s) ∧
    (let clamp (i : Nat) : Nat := (max 0 (min (half : Int) (((d >>> (32 * i)).setWidth 32).toInt))).toNat
     exec (.patternStore u d) s = .next (if s.rf (Key.guCfg u) 63 62 = 1 then
       s.setGu u { g with staged := g.staged ++ [{ pat := .comp (clamp 0) (clamp 1) (clamp 2), sent := s.cio.now - 16 * 2 ^ 32, early := !g.run }] } else s)) ∧
    exec (.edgeCommit u) s = .next (if s.rf (Key.guCfg u) 63 62 = 2 then
      s.setGu u { g with staged := g.staged ++ [{ pat := .edges ((List.range 6).map (fun c =>
        (s.rf (Key.guEdge u c) 31 0, s.rf (Key.guEdge u c) 63 32))), sent := s.cio.now - 16 * 2 ^ 32, early := !g.run }] } else s)) ∧
  (∀ (s : State) (u pos : Nat), u < 16 →
    let g := s.gu u
    let half := s.rf (Key.guHalf u) 23 0
    let upd := s.rb (Key.guCfg u) 61
    let inst := (s.reg (Key.guStart u)).toNat * 2 ^ 32 + g.next * half * 2 ^ 30
    let ns := inst / 2 ^ 32
    let off := s.cio.inhBdg || s.cio.inhPin || s.cio.inhSw || s.cio.pairHold || s.cio.utrip.getLsbD u
    let wants (p : Pattern) (c pos : Nat) : Bool := match p with
      | .comp c0 c1 c2 => (decide (half - [c0, c1, c2].getD (c / 2) 0 ≤ pos) && decide (pos < half + [c0, c1, c2].getD (c / 2) 0)) == (c % 2 == 0)
      | .edges rf => match rf[c]? with | some (r, f) => decide (r ≤ pos) && decide (pos < f) | none => false
    let placed (y : State) (p : Pattern) (pos : Nat) : Prop := ∀ c < 6, (y.gu u).on.getLsbD c = true →
      wants p c pos = true ∧ (y.gu u).on.getLsbD (if c % 2 = 0 then c + 1 else c - 1) = false
    let raised (y : State) (e : Nat) : Prop := ∀ c < 6, s.rf (Key.guEv u) (3 * c + 2) (3 * c) = e →
      s.rf (Key.evrBind (60 + 6 * u + c)) 35 32 ≠ 0 → tfind y.evPend (60 + 6 * u + c) = some (BitVec.ofNat 128 ns)
    (g.run = true → g.next % 2 = 0 → inst ≤ s.cio.now →
      ∃ y, exec (.gatePeriodBoundary u) s = .next y ∧ raised y 1 ∧
      (g.stopping = true → y.gu u = { (y.gu u) with run := false, stopping := false, pat := none, staged := [], on := 0, hold := off } ∧
        ∀ c < 6, g.on.getLsbD c = true → s.rf (Key.guEv u) (3 * c + 2) (3 * c) = 4 → s.rf (Key.evrBind (60 + 6 * u + c)) 35 32 ≠ 0 →
          tfind y.evPend (60 + 6 * u + c) = some (BitVec.ofNat 128 ns)) ∧
      (g.stopping = false →
        let q := g.staged.filter (fun x => x.early || (!upd && decide (x.sent + 40 * 2 ^ 32 ≤ inst)))
        let rest := g.staged.filter (fun x => !(x.early || (!upd && decide (x.sent + 40 * 2 ^ 32 ≤ inst))))
        (y.gu u).run = true ∧ (y.gu u).next = g.next + 1 ∧
        (off = true → (y.gu u).on = g.on ∧ (y.gu u).hold = g.hold) ∧
        (off = false → (y.gu u).hold = false ∧ ∀ p, (y.gu u).pat = some p → placed y p 0) ∧
        (off = true ∨ g.hold = false →
          (y.gu u).pat = (match q.getLast? with | some x => some x.pat | none => g.pat) ∧ (y.gu u).staged = rest ∧
          y.rf (Key.guStat u) 63 48 = satAdd 0xFFFF (s.rf (Key.guStat u) 63 48) (q.length - 1)) ∧
        (off = false → g.hold = true → (y.gu u).staged = [] ∧
          (rest = [] → (y.gu u).pat = (match q.getLast? with | some x => some x.pat | none => g.pat)) ∧
          ∀ x r, rest = r ++ [x] → (y.gu u).pat = some x.pat))) ∧
    (g.run = true → g.next % 2 = 1 → inst ≤ s.cio.now →
      ∃ y, exec (.gatePeriodCentre u) s = .next y ∧ y.gu u = { g with next := g.next + 1 } ∧ raised y 2) ∧
    (∀ x r, g.run = true → upd = true → g.staged = x :: r → x.early = false → x.sent + 40 * 2 ^ 32 ≤ s.cio.now →
      pos = ((x.sent + 40 * 2 ^ 32) / 2 ^ 30 - 4 * (s.reg (Key.guStart u)).toNat) % (2 * half) →
      ∃ y, exec (.patternApply u pos) s = .next y ∧ (y.gu u).pat = some x.pat ∧ (y.gu u).staged = r ∧
        (g.hold = false → off = false → placed y x.pat pos) ∧ (g.hold = true ∨ off = true → (y.gu u).on = g.on)) ∧
    (∀ c < 6, ∀ p, g.run = true → g.pat = some p → pos < 2 * half → g.hold = false → off = false →
      let now := (s.reg (Key.guStart u)).toNat * 4 + (g.next - 1) / 2 * (2 * half) + pos
      now ≤ s.cio.now / 2 ^ 30 →
      let other := if c % 2 = 0 then c + 1 else c - 1
      let on := g.on.getLsbD c
      ∃ y, exec (.gateEdge u c pos) s = .next y ∧
      (s.rf (Key.guEv u) (3 * c + 2) (3 * c) = 4 → (y.gu u).on.getLsbD c ≠ on → s.rf (Key.evrBind (60 + 6 * u + c)) 35 32 ≠ 0 →
        tfind y.evPend (60 + 6 * u + c) = some (BitVec.ofNat 128 (now / 4))) ∧
      (∀ k < 6, k ≠ c → k ≠ other → (y.gu u).on.getLsbD k = g.on.getLsbD k) ∧
      match p with
      | .comp _ _ _ =>
        let dt := s.rf (Key.guCfg u) 11 0
        let dead := !(g.on.getLsbD other) && (match tfind g.offAt other with | none => true | some a => decide (a + dt ≤ now))
        (y.gu u).on.getLsbD other = g.on.getLsbD other ∧
        (y.gu u).on.getLsbD c = (if on = true then wants p c pos else wants p c pos && dead) ∧
        (on = true → wants p c pos = false → tfind (y.gu u).offAt c = some now)
      | .edges _ =>
        if wants p c pos = true ∧ wants p other pos = true then
          (y.gu u).on.getLsbD c = false ∧ (y.gu u).on.getLsbD other = false ∧
          (g.overlap.getLsbD (c / 2) = false → y.rb (Key.guStat u) 3 = true)
        else (y.gu u).on.getLsbD c = wants p c pos ∧ (y.gu u).on.getLsbD other = g.on.getLsbD other))

/-- GATE_INHIBIT_N low with PINEN asserts the latched ball cause, and a software inhibit its own: every channel of every unit is
off and held, and source 156 is raised with every cause active, once for a cause that newly asserts. A fault ball that is enabled,
or a unit trip, turns off and holds the units newly tripped and raises source 157 with them; a ball that is not enabled only has
its level kept. The release of a ball leaves the latch. A trip clears when no trip cause of the unit is active, the ball inhibit
when the ball is high, the software inhibit at once; a unit that is RUN stays held until its boundary, and one that is not is held
no longer when no cause is left. With LOCK = 1 a write of INH_CFG does nothing, as does a normal one; otherwise it takes PINEN,
FLTEN and LOCK, and a ball that is low while it becomes enabled acts (R391, R400, R401, R402, R403, R404). -/
def Obligations.InhibitsAndTrips : Prop :=
  (∀ (s : State),
    let allOff (y : State) : Prop := ∀ u < 16, (y.gu u).on = 0 ∧ (y.gu u).hold = true ∧ (y.gu u).run = (s.gu u).run ∧
      (y.gu u).staged = (s.gu u).staged ∧ (y.gu u).next = (s.gu u).next
    let reported (y : State) (bdg pin sw : Bool) : Prop := s.rf (Key.evrBind 156) 35 32 ≠ 0 →
      tfind y.evPend 156 = some (((BitVec.ofBool sw ++ BitVec.ofBool pin) ++ BitVec.ofBool bdg).setWidth 128)
    (s.cio.inhSw = true → exec .softwareInhibit s = .next s) ∧
    (s.cio.inhSw = false → ∃ y, exec .softwareInhibit s = .next y ∧ y.cio.inhSw = true ∧ allOff y ∧
      reported y s.cio.inhBdg s.cio.inhPin true ∧ y.cio.utrip = s.cio.utrip ∧ y.cio.inhPin = s.cio.inhPin) ∧
    (s.cio.inhPin = true ∨ s.rb Key.inhCfg 0 = false →
      exec .inhibitPinAssert s = .next { s with cio := { s.cio with pinLow := true } }) ∧
    (s.cio.inhPin = false → s.rb Key.inhCfg 0 = true → ∃ y, exec .inhibitPinAssert s = .next y ∧ y.cio.inhPin = true ∧
      y.cio.pinLow = true ∧ allOff y ∧ reported y s.cio.inhBdg true s.cio.inhSw) ∧
    exec .inhibitPinRelease s = .next { s with cio := { s.cio with pinLow := false } }) ∧
  (∀ (s : State) (u : Nat) (units : BitVec 16), u < 16 →
    let newly := units &&& ~~~s.cio.utrip
    let low : BitVec 16 := s.cio.fltLow ||| (1#16 <<< u)
    let tripped (y : State) (m : BitVec 16) : Prop := y.cio.utrip = s.cio.utrip ||| m ∧
      (s.rf (Key.evrBind 157) 35 32 ≠ 0 → tfind y.evPend 157 = some (m.setWidth 128)) ∧
      ∀ k < 16, if m.getLsbD k = true then (y.gu k).on = 0 ∧ (y.gu k).hold = true ∧ (y.gu k).run = (s.gu k).run else y.gu k = s.gu k
    (newly = 0 → exec (.unitTrip units) s = .next s) ∧
    (newly ≠ 0 → ∃ y, exec (.unitTrip units) s = .next y ∧ tripped y newly ∧ y.cio.fltLow = s.cio.fltLow) ∧
    (s.rb Key.inhCfg (16 + u) = false ∨ s.cio.utrip.getLsbD u = true →
      exec (.gateFaultPin u) s = .next { s with cio := { s.cio with fltLow := low } }) ∧
    (s.rb Key.inhCfg (16 + u) = true → s.cio.utrip.getLsbD u = false → ∃ y, exec (.gateFaultPin u) s = .next y ∧
      tripped y (1#16 <<< u) ∧ y.cio.fltLow = low) ∧
    exec (.gateFaultPinRelease u) s = .next { s with cio := { s.cio with fltLow := s.cio.fltLow &&& ~~~(1#16 <<< u) } }) ∧
  (∀ (s : State) (units : BitVec 16),
    let global (c : Cio) : Bool := c.inhBdg || c.inhPin || c.inhSw || c.pairHold
    let held (y : State) : Prop := ∀ k < 16,
      y.gu k = (if (s.gu k).run = false ∧ global y.cio = false ∧ y.cio.utrip.getLsbD k = false then { s.gu k with hold := false } else s.gu k)
    let active (k : Nat) : Bool := (s.cio.fltLow.getLsbD k && s.rb Key.inhCfg (16 + k)) ||
      (List.range 32).any (fun n => ((s.sdIn n).overRange && s.rb (Key.sdCmp n) 63 && s.rb (Key.sdCfg n) 63 &&
        s.rb (Key.sdCmp n) 62 && s.rf (Key.sdCmp n) 59 56 == k) ||
        (s.rb (Key.bdgChstat n) 63 && s.rb (Key.bdgChcfg n) 62 && s.rb (Key.bdgChcfg n) (32 + k)))
    (∃ y, exec (.unitTripClear units) s = .next y ∧ held y ∧ y.regs = s.regs ∧ y.evPend = s.evPend ∧
      ∀ k < 16, y.cio.utrip.getLsbD k = (s.cio.utrip.getLsbD k && (!units.getLsbD k || active k))) ∧
    (∃ y, exec .pinInhibitClear s = .next y ∧ (s.cio.pinLow = true → y = s) ∧
      (s.cio.pinLow = false → held y ∧ y.cio.inhPin = false ∧ y.cio.utrip = s.cio.utrip ∧ y.cio.inhSw = s.cio.inhSw)) ∧
    (∃ y, exec .softwareInhibitClear s = .next y ∧ held y ∧ y.cio.inhSw = false ∧ y.cio.inhPin = s.cio.inhPin ∧
      y.cio.utrip = s.cio.utrip)) ∧
  (∀ (s : State) (w : Writer) (v : W64),
    (w.secure = false ∨ s.rb Key.inhCfg 63 = true → exec (.inhibitLock w v) s = .next s) ∧
    (w.secure = true → s.rb Key.inhCfg 63 = false → ∃ y, exec (.inhibitLock w v) s = .next y ∧ y.rb Key.inhCfg 63 = v.msb ∧
      y.rf Key.inhCfg 31 16 = bits v 31 16 ∧ y.rb Key.inhCfg 0 = v.getLsbD 0 ∧
      y.cio.inhPin = (s.cio.inhPin || (s.cio.pinLow && v.getLsbD 0)) ∧
      y.cio.utrip = s.cio.utrip ||| (s.cio.fltLow &&& BitVec.ofNat 16 (bits v 31 16))))

/-- Where no DMA access has to wait for a chunk of DRAM or for room in the pair's send queue: a frame whose header has a reserved
TYPE or a set RSV bit is counted in RLK_FCS and does nothing more. On a port that sends (no standby, no demoted member): a cycle
starts at its instant CYCBASE + k x T and not before; one that starts while a phase of the last one runs waits, is counted in its
class's overrun field and raises the fault event; otherwise NOGO counts a cycle without outputs and a POLL goes to every
concentrator that takes part, in ascending address. An IN that is awaited writes each present endpoint's words with tag FULL and
its status word, makes an ABSENT node PRESENT again, and makes what its presence word leaves out ABSENT; another one, like an
unawaited ACK, is counted as late. The last ACK ends the output phase with its event. A missed deadline is counted, raises source
403 and makes the concentrator ABSENT; a LOSS of one endpoint sets its STATE to 2 and clears OUTEN. RLK_OUTGO, or a nonzero offset
that has passed, starts the outputs once the inputs are complete: one OUT to each concentrator that took part and is not ABSENT,
with the sections of the PRESENT endpoints with OUTEN, or HOLD without payload where a word carries POISON or cannot be read (log
47). A link that comes up starts discovery with DISC for address 1; one that goes down makes every concentrator ABSENT (R410,
R412, R415, R417, R418, R419, R420, R421, R422, R436, R259). -/
def Obligations.RinolinkCycles : Prop :=
  (∀ (s : State) (p : Nat) (f : RFrame), p < 8 → s.Initialised →
    let ty := bits f.hdr 7 0
    (ty = 0 ∨ 14 < ty ∨ bits f.hdr 15 12 ≠ 0 ∨ bits f.hdr 31 31 ≠ 0 ∨ bits f.hdr 47 41 ≠ 0 ∨ bits f.hdr 63 57 ≠ 0) →
    ∀ c ∈ [.rinolinkFrameDiscard p, .inFrame p f, .ack p f, .loss p f, .srq p f, .discR p f 0, .enumD p f, .dirrep p f, .token p f],
      exec c s = .next (s.count (Key.rlkFcs p) 31 0 1)) ∧
  (∀ (s : State) (p n : Nat), p < 8 → n < 3 → s.pair.role ≠ 2 → s.pair.role ≠ 3 → s.Initialised → (s.port p).st = 5 → (s.port p).service = true →
    let x := s.port p
    let k := x.class n
    let now := s.cio.now / 2 ^ 32 % 2 ^ 64
    let base := (s.reg (Key.rlkCycbase p)).toNat
    let per := [250000, 10000000, 1000000000].getD n 0
    let seq := (now - base) / per
    let stamp := (base + seq * per) % 2 ^ 32
    let u := if k.phase = .between then s.count (Key.rlkDrop p) 63 48 1 else s
    let v := ({ u with pair := u.pair.push (.portrec p (.cycleStart n seq stamp)) }).lineTouch p
    let entry (c e : Nat) : Data := (v.rGet p (v.dirAddr (dirIndex p c e))).data
    (now < base ∨ (∃ m, k.nextK = some m ∧ seq < m) → exec (.rinolinkCycleStart p n) s = .next s) ∧
    (base ≤ now → k.nextK.getD 0 ≤ seq → k.phase = .input ∨ k.phase = .output → exec (.rinolinkCycleStart p n) s = .next
      (((s.setCls p n { k with nextK := some (seq + 1), deferred := some seq }).count (Key.rlkOvrn p) (16 * n + 15) (16 * n) 1).raise (207 + 8 * p)
        (BitVec.ofNat 128 (2 ^ n)))) ∧
    (base ≤ now → k.nextK.getD 0 ≤ seq → k.phase = .idle ∨ k.phase = .between →
      ∃ y took, exec (.rinolinkCycleStart p n) s = .next y ∧ took.Pairwise (· < ·) ∧
        (∀ c, c ∈ took ↔ 1 ≤ c ∧ c ≤ x.nconc ∧ (x.conc c).absent = false ∧ (x.conc c).rejected = false ∧
          ∃ e < 126, (bits (entry c e) 63 62 = 1 ∨ bits (entry c e) 63 62 = 2) ∧ bits (entry c e) 61 60 = n) ∧
        y.rf (Key.rlkDrop p) 63 48 = (if k.phase = .between then satAdd 0xFFFF (s.rf (Key.rlkDrop p) 63 48) 1 else s.rf (Key.rlkDrop p) 63 48) ∧
        (took ≠ [] → y.mem = v.mem ∧ y.evPend = s.evPend ∧
          (y.port p).class n = { nextK := some (seq + 1), phase := .input, seq := seq, stamp := stamp, waiting := took, took := took } ∧
          ∃ more, (y.port p).tx = x.tx ++ took.map (fun c => { f := { hdr := rHdr 1 n c 0 0 seq stamp, payload := [] }, cut := false }) ++ more ∧
            (n ≠ 2 → more = [])) ∧
        (took = [] → ((y.port p).class n).phase = .between ∧
          (s.rf (Key.evrBind (200 + 8 * p + n)) 35 32 ≠ 0 → (tfind y.evPend (200 + 8 * p + n)).isSome = true)))) ∧
  (∀ (s : State) (p n c : Nat) (f : RFrame), p < 8 → n < 3 → s.pair.role ≠ 2 → s.pair.role ≠ 3 → s.Initialised → (s.port p).link = true →
    badHdr f.hdr = false → bits f.hdr 9 8 = n → bits f.hdr 23 16 = c →
    let x := s.port p
    let k := x.class n
    let u := { s with pair := s.pair.push (.framecopy p f (s.cio.now / 2 ^ 32 % 2 ^ 64)) }
    let ty := bits f.hdr 7 0
    let mine := c ∈ k.waiting ∧ bits f.hdr 79 64 = k.seq % 65536
    let rest := k.waiting.filter (fun m => m != c)
    let pres := f.payload.headD 0
    let w := u.dirTouch p c
    let d0 := (w.rGet p (w.dirAddr (dirIndex p c 0))).data
    let gone : Prop := bits d0 61 60 = n ∧ (bits d0 63 62 = 1 ∨ bits d0 63 62 = 2) ∧ pres.getLsbD 0 = false
    let part (r : State × Nat) (e : Nat) : State × Nat :=
      let i := dirIndex p c e
      let d := (r.1.rGet p (r.1.dirAddr i)).data
      let st := bits d 63 62
      let past := r.2 + bits d 53 48
      if bits d 61 60 ≠ n then r
      else if st ≠ 1 ∧ st ≠ 2 then (r.1, if pres.getLsbD e = true then past else r.2)
      else if pres.getLsbD e = true then
        let a := r.1.inA p c e
        let ws : List TWord := (List.range (bits d 53 48)).map (fun i => { data := (f.payload.drop 1).getD (r.2 + i) 0, tag := Tag.full })
        let k' := (r.1.port p).class n
        let status : TWord := { data := BitVec.ofNat 128 (k'.stamp + k'.seq % 65536 * 2 ^ 64), tag := Tag.int }
        let v := ((r.1.dmaSetAll (.rinolink p) (a + 16) ws).rSet p a status).modPort p (fun x => { x with good := tput x.good i k'.seq })
        let v1 := if st = 2 then (v.setDir0 p c e (setBits d 63 62 1)).modPort p (fun x => x.noteChange i) else v
        (if e = 0 then v1.modPort p (fun x => x.setConc c { x.conc c with absent := false }) else v1, past)
      else (r.1.nodeAbsent p c e, r.2)
    (ty = 2 → ¬ (k.phase = .input ∧ mine) → exec (.inFrame p f) s = .next (u.count (Key.rlkLate p) 31 0 1)) ∧
    (ty = 2 → k.phase = .input → mine → (gone → exec (.inFrame p f) s = .next ((w.concAbsent p c).answered p n c)) ∧
      (¬ gone → exec (.inFrame p f) s = .next (((List.range 126).foldl part (w, 0)).1.answered p n c))) ∧
    (ty = 4 → ¬ (k.phase = .output ∧ mine) → exec (.ack p f) s = .next (u.count (Key.rlkLate p) 31 0 1)) ∧
    (ty = 4 → k.phase = .output → mine → rest ≠ [] → exec (.ack p f) s = .next (u.setCls p n { k with waiting := rest })) ∧
    (ty = 4 → k.phase = .output → mine → rest = [] →
      let v := (u.setCls p n { k with waiting := [], phase := .idle }).raise (203 + 8 * p) (BitVec.ofNat 128 (n + k.seq % 65536 * 4))
      exec (.ack p f) s = .next (match k.deferred with | some q => v.cycleStart p n q v.stamp | none => v)) ∧
    (ty = 13 → (f.payload.headD 0).getLsbD 0 = true → exec (.loss p f) s = .next (u.concAbsent p c)) ∧
    (∀ e, ty = 13 → 0 < e → e < 126 → (∀ j < 126, (f.payload.headD 0).getLsbD j = decide (j = e)) →
      let i := dirIndex p c e
      let w := u.rTouch p (u.dirAddr i) 1
      let d := (w.rGet p (w.dirAddr i)).data
      let m := bits d 61 60
      let km := x.class m
      (bits d 63 62 ≠ 1 → exec (.loss p f) s = .next w) ∧
      (bits d 63 62 = 1 → x.tx = [] →
        let read : Prop := km.phase = .between ∨ (km.phase = .input ∧ c ∈ km.took ∧ c ∉ km.waiting)
        let v := w.rSet p (w.dirAddr i) { data := setBits (setBits d 63 62 2) 64 64 0, tag := Tag.int }
        exec (.loss p f) s = .next ({ v with pair := v.pair.push (.portrec p (.absent c e)) }.setPort p ((x.setClass m { km with
          lost := if read ∧ d.getLsbD 64 = true then km.lost ++ [(c, e)] else km.lost }).noteChange i))))) ∧
  (∀ (s : State) (p n c : Nat), p < 8 → n < 3 → s.pair.role ≠ 2 → s.pair.role ≠ 3 → s.Initialised →
    let x := s.port p
    let k := x.class n
    let owed := (k.phase = .input ∨ k.phase = .output) ∧ c ∈ k.waiting
    let u := s.count (Key.rlkMiss p) 31 0 1
    (¬ owed → exec (.rinolinkDeadlineMiss p n c) s = .next s) ∧
    (owed → exec (.rinolinkDeadlineMiss p n c) s =
      .next ((({ u with pair := u.pair.push (.portrec p (.missed n c)) }.raise 403 0).concAbsent p c).answered p n c)) ∧
    let dst := k.took.filter (fun m => !(x.conc m).absent)
    let gone := (k.lost.filter (fun q => dst.contains q.1)).length
    let entry (m e : Nat) : Data := (s.rGet p (s.dirAddr (dirIndex p m e))).data
    let sends (m e : Nat) : Bool := bits (entry m e) 63 62 == 1 && bits (entry m e) 61 60 == n && (entry m e).getLsbD 64
    let words (m : Nat) : List TWord := ((List.range 126).filter (sends m)).flatMap (fun e =>
      (List.range (bits (entry m e) 59 54)).map (fun i => s.rGet p (s.outA p m e + 16 * i)))
    (k.phase ≠ .between → exec (.outputGo p (1#64 <<< n)) s = .next s) ∧
    (k.phase = .between → ∃ y, exec (.outputGo p (1#64 <<< n)) s = .next y ∧
      y.rf (Key.rlkDrop p) 31 0 = satAdd 0xFFFFFFFF (s.rf (Key.rlkDrop p) 31 0) gone ∧
      (dst = [] → k.deferred = none → ((y.port p).class n).phase = .idle ∧
        (s.rf (Key.evrBind (203 + 8 * p)) 35 32 ≠ 0 → tfind y.evPend (203 + 8 * p) = some (BitVec.ofNat 128 (n + k.seq % 65536 * 4)))) ∧
      (dst ≠ [] → (y.port p).class n = { k with phase := .output, waiting := dst, lost := [], ofsDone := false } ∧
        (y.port p).tx.length = x.tx.length + dst.length ∧ (∀ i < x.tx.length, (y.port p).tx[i]? = x.tx[i]?) ∧
        ∀ i < dst.length, ∀ m, dst[i]? = some m → m < 256 → ∃ h d, (y.port p).tx[x.tx.length + i]? = some { f := { hdr := h, payload := d }, cut := false } ∧
          bits h 7 0 = 3 ∧ bits h 9 8 = n ∧ bits h 23 16 = m ∧ bits h 79 64 = k.seq % 65536 ∧
          (if (∃ w ∈ words m, w.tag = Tag.poison) ∨ (∃ a ∈ s.outAddrs p n m, s.dmaOk (.rinolink p) a = false) then bits h 11 11 = 1 ∧ d = [] ∧ bits h 40 32 = 0
            else bits h 11 11 = 0 ∧ d.drop 1 = (words m).map (fun w => if w.tag = Tag.uninit then 0 else w.data) ∧ d.length = (words m).length + 1 ∧
              (∀ e < 128, (d.headD 0).getLsbD e = (decide (e < 126) && sends m e)) ∧ (d.length ≤ 256 → bits h 40 32 = d.length)))) ∧
    (let ofs := if n = 0 then s.rf (Key.rlkOutofs p) 7 0 else if n = 1 then s.rf (Key.rlkOutofs p) 29 16 else s.rf (Key.rlkOutofs p) 63 44
     (ofs ≠ 0 → k.phase = .between → exec (.outputOffsetExpiry p n) s = exec (.outputGo p (1#64 <<< n)) s) ∧
     (ofs ≠ 0 → k.phase = .input → exec (.outputOffsetExpiry p n) s = .next (s.setCls p n { k with ofsDone := true })) ∧
     (ofs = 0 ∨ k.phase = .idle ∨ k.phase = .output → exec (.outputOffsetExpiry p n) s = .next s))) ∧
  (∀ (s : State) (p : Nat), p < 8 → s.Initialised →
    let x := s.port p
    let told (y : State) (up : Nat) : Prop := s.rf (Key.evrBind (205 + 8 * p)) 35 32 ≠ 0 →
      tfind y.evPend (205 + 8 * p) = some (BitVec.ofNat 128 up)
    (s.rb (Key.rlkCtl p) 63 = true → x.link = false → s.pair.role ≠ 2 → s.pair.role ≠ 3 →
      (s.rb Key.pairCtl 63 = false ∨ s.pair.role = 1) →
      ∃ y, exec (.rinolinkLinkUp p) s = .next y ∧ told y 1 ∧ y.mem = s.mem ∧
        y.port p = { x with link := true, st := 2, nconc := 0, concs := [], dirq := none, cls := [], service := false, disc := some 1,
                            tx := x.tx ++ [{ f := { hdr := rHdr 7 3 0 0 0 0 1, payload := [] }, cut := false }] }) ∧
    (x.link = true → ∃ y, exec (.rinolinkLinkDown p) s = .next y ∧ told y 0 ∧ (y.port p).link = false ∧ (y.port p).st = 1 ∧
      (y.port p).tx = [] ∧ (y.port p).cls = [] ∧ (y.port p).service = false ∧ (y.port p).srqs = [] ∧
      ∀ c, 1 ≤ c → c ≤ x.nconc → ((y.port p).conc c).absent = true))

/-- Where no DMA access has to wait for a chunk of DRAM or for room in the pair's send queue: a service request is queued with the
descriptor of its CODE, and counted when it comes within 3 us of the last. Its SRA carries STATUS 0 and the answer's words where
the descriptor is usable and in time, 3 where it or a word carries POISON or PLEN is above 31, 1 otherwise, an answer that cannot
be read among them (log 47); a used ONCE descriptor that has not changed loses READY; the request goes into the ring and to the
responder thread through source 192 + p. A write of RLK_SRFIN sends STATUS 2 with the answer, or 3. A DISC_R in discovery records
the concentrator, rejecting it with the fault event when the directory names another, and DISC goes to the next address; without
one, ENUM goes to all. The last ENUM_D starts the upload with DIRQ to the lowest concentrator; at the time limit those that have
not answered are rejected. A DIRREP writes the records into the directory, unless the concentrator keeps its entries, and the next
is asked; when none is left that has areas to give, the port reaches STATE 5, in service with AUTO. AUTO_START and REDISC act as
their bits (R424, R425, R426, R427, R428, R429, R430, R431, R433, R434, R436). -/
def Obligations.RinolinkRequestsAndDiscovery : Prop :=
  (∀ (s : State) (p : Nat) (late : Bool) (v : W64) (f : RFrame), p < 8 → s.pair.role ≠ 2 → s.pair.role ≠ 3 → s.Initialised →
    let x := s.port p
    let now := s.cio.now / 2 ^ 32 % 2 ^ 64
    let table (code : Nat) : Nat := s.rf (Key.rlkAtbase p) 47 12 * 4096 + 16 * code
    let ring (i : Nat) : Nat := s.rf (Key.rlkSrring p) 47 17 * 2 ^ 17 + 512 * i
    let usable (d : TWord) : Prop := (d.tag = Tag.int ∨ d.tag = Tag.bits ∨ d.tag = Tag.ptr) ∧ d.data.getLsbD 56 = true ∧ bits d.data 55 48 ≤ 16
    let words (d : TWord) : List TWord := (List.range (bits d.data 55 48)).map (fun i => s.rGet p (bits d.data 47 4 * 16 + 16 * i))
    let ok (d : TWord) : Prop := ∀ i < bits d.data 55 48, s.dmaOk (.rinolink p) (bits d.data 47 4 * 16 + 16 * i) = true
    let sent (u : State) (h : Data) (status : Nat) (ws : List TWord) (final : Option Addr) : State :=
      let ds : List Data := ws.map (fun w => if w.tag = Tag.uninit then 0 else w.data)
      let sra := rHdr 6 3 (bits h 23 16) (bits h 30 24) ds.length (bits h 79 64) (bits h 103 80 + status * 2 ^ 24)
      let a := u.modPort p (fun x => x.sendSra { hdr := sra, payload := ds })
      let b := if status = 1 then a.count (Key.rlkSrstat p) 47 32 1 else if status = 3 then a.count (Key.rlkSrstat p) 31 16 1 else a
      { b with pair := b.pair.push (.portrec p (.sraStatus (BitVec.ofNat 2 status) final)) }
    let used (u : State) (pa : Nat) (d : TWord) : State :=
      if d.data.getLsbD 57 = true ∧ u.rGet p pa = d then u.rSet p pa { d with data := setBits d.data 56 56 0 } else u
    (badHdr f.hdr = false → x.link = true → bits f.hdr 7 0 = 5 →
      let u := { s with pair := s.pair.push (.framecopy p f now) }
      let near : Bool := match x.prevSrq with | some t => decide (now < t + 3000) | none => false
      exec (.srq p f) s = .next ((if near = true then (u.count (Key.rlkSrstat p) 63 48 1).raise (207 + 8 * p) 8 else u).rTouch p (table (bits f.hdr 87 80)) 1 |>.setPort p
        { x with prevSrq := some now, srqs := x.srqs ++ [{ f := f, stamp := now % 2 ^ 32, desc := s.rGet p (table (bits f.hdr 87 80)) }] })) ∧
    (∀ q r, x.srqs = q :: r →
      let h := q.f.hdr
      let status := if 31 < bits h 40 32 ∨ q.desc.tag = Tag.poison then 3 else if ¬ usable q.desc ∨ late = true then 1
        else if ∃ w ∈ words q.desc, w.tag = Tag.poison then 3 else if ok q.desc then 0 else 1
      let read : State := if usable q.desc ∧ late = false then s.answerRead p q.desc else s
      let a := sent (read.setPort p { x with srqs := r }) h status (if status = 0 then words q.desc else []) none
      let b := if status = 0 then used a (table (bits h 87 80)) q.desc else a
      let c := (b.dmaSetAll (.rinolink p) (ring x.ring) ({ data := h, tag := Tag.int } :: (q.f.payload.take 31).map (fun d =>
        { data := d, tag := Tag.bits }))).modPort p (fun x => { x with ring := (x.ring + 1) % 256 })
      exec (.sraReady p late) s = .next (c.raise (192 + p) (BitVec.ofNat 128 (x.ring + bits h 23 16 * 2 ^ 8 + bits h 30 24 * 2 ^ 16 +
        bits h 87 80 * 2 ^ 24 + bits h 103 88 * 2 ^ 32 + status * 2 ^ 48 + q.stamp * 2 ^ 64)))) ∧
    (let pa := bits v 47 4 * 16
     let r := (s.rTouch p (ring (bits v 63 56)) 1).rTouch p pa 1
     let h := (r.rGet p (ring (bits v 63 56))).data
     let d := r.rGet p pa
     let ws := r.answerWords p d
     let final : Option Addr := some (BitVec.ofNat 48 pa)
     exec (.srFinal p v) s = .next (if v.getLsbD 0 = true ∨ ¬ usable d then sent r h 3 [] final
       else if (∃ w ∈ ws, w.tag = Tag.poison) ∨ r.answerOk p d = false then sent (r.answerRead p d) h 3 [] final
       else used (sent (r.answerRead p d) h 2 ws final) pa d))) ∧
  (∀ (s : State) (p : Nat) (f : RFrame) (rtd : BitVec 16), p < 8 → s.pair.role ≠ 2 → s.pair.role ≠ 3 → s.Initialised → badHdr f.hdr = false →
    let x := s.port p
    let c := bits f.hdr 23 16
    let frame (ty conc param : Nat) : TxFrame := { f := { hdr := rHdr ty 3 conc 0 0 0 param, payload := [] }, cut := false }
    let pending (m : Nat) : Prop := 1 ≤ m ∧ m ≤ x.nconc ∧ (x.conc m).enumed = false ∧ (x.conc m).rejected = false
    let told (y : State) (word : Nat) : Prop := s.rf (Key.evrBind (206 + 8 * p)) 35 32 ≠ 0 → tfind y.evPend (206 + 8 * p) = some (BitVec.ofNat 128 word)
    (∀ a, bits f.hdr 7 0 = 8 → x.disc = some a → x.st = 2 → a < 250 →
      let v := ({ s with pair := s.pair.push (.portrec p (.found a (BitVec.ofNat 32 (bits f.hdr 111 80)) rtd.toNat)) }).rTouch p
        (s.dirAddr (dirIndex p a 0)) 1
      let d := (v.rGet p (v.dirAddr (dirIndex p a 0))).data
      let other : Prop := bits d 63 62 ≠ 0 ∧ bits d 31 0 ≠ bits f.hdr 111 80
      ∃ y, exec (.discR p f rtd) s = .next y ∧ (y.port p).nconc = a ∧ (y.port p).rtd = rtd.toNat ∧ (y.port p).disc = some (a + 1) ∧
        (y.port p).tx = x.tx ++ [frame 7 0 (a + 1)] ∧ ((y.port p).conc a).serial.toNat = bits f.hdr 111 80 ∧
        (¬ other → ((y.port p).conc a).rejected = false ∧ ((y.port p).conc a).keep = decide (bits d 63 62 ≠ 0) ∧ y.mem = v.mem) ∧
        (other → ((y.port p).conc a).rejected = true ∧
          (s.rf (Key.evrBind (207 + 8 * p)) 35 32 ≠ 0 → tfind y.evPend (207 + 8 * p) = some 0x40))) ∧
    (x.disc.isSome = true → x.st = 2 → (∃ m, pending m) → ∃ y, exec (.discTimeout p) s = .next y ∧ (y.port p).disc = none ∧
      (y.port p).st = 3 ∧ (y.port p).tx = x.tx ++ [frame 9 0xFF 0] ∧ told y (x.nconc * 2 ^ 8)) ∧
    (x.disc.isSome = true → x.st = 5 → exec (.discTimeout p) s = .next (s.setPort p { x with disc := none })) ∧
    (bits f.hdr 7 0 = 10 → x.st = 3 ∨ x.st = 5 → pending c →
      let y := s.setPort p (x.setConc c { x.conc c with enumed := true })
      ((∃ m, m ≠ c ∧ pending m) → exec (.enumD p f) s = .next y) ∧
      (∀ m, (¬ ∃ m, m ≠ c ∧ pending m) → 1 ≤ m → m ≤ x.nconc →
        (∀ j, 1 ≤ j → j ≤ x.nconc → (j < m → ((y.port p).conc j).rejected = true ∨ ((y.port p).conc j).enumed = false ∨ ((y.port p).conc j).uploaded = true)) →
        ((y.port p).conc m).enumed = true → ((y.port p).conc m).rejected = false → ((y.port p).conc m).uploaded = false →
        ∃ z, exec (.enumD p f) s = .next z ∧ (z.port p).st = (if x.st = 3 then 4 else 5) ∧ (z.port p).dirq = some m ∧ (z.port p).tx = x.tx ++ [frame 11 m x.rtd] ∧
          told z (1 + x.nconc * 2 ^ 8))) ∧
    (x.st = 3 ∨ x.st = 5 → (∃ m, pending m) → ∃ y, exec (.enumTimeout p) s = .next y ∧ ∀ m, pending m → ((y.port p).conc m).rejected = true) ∧
    (bits f.hdr 7 0 = 12 → x.dirq = some c →
      let u := { s with pair := s.pair.push (.framecopy p f (s.cio.now / 2 ^ 32 % 2 ^ 64)) }
      let record (e : Nat) : BitVec 64 := ((f.payload.getD (e / 2) 0) >>> (64 * (e % 2))).setWidth 64
      let w := if (x.conc c).keep = true then u else (List.range 126).foldl (fun u e => u.rSet p (u.dirAddr (dirIndex p c e))
        { data := (record e &&& 0x7FFFFFFFFFFFFFFF).setWidth 128, tag := Tag.int }) u
      exec (.dirrep p f) s = .next ((w.modPort p (fun x => x.setConc c { x.conc c with enumed := true, uploaded := true })).dirqNext p) ∧
      ((∀ m, 1 ≤ m → m ≤ x.nconc → (x.conc m).rejected = true ∨ (x.conc m).keep = true ∧ (m = c ∨ (x.conc m).enumed = false ∨ (x.conc m).uploaded = true)) →
        (x.conc c).keep = true →
        ∃ y, exec (.dirrep p f) s = .next y ∧ (y.port p).st = 5 ∧ (y.port p).dirq = none ∧ told y (2 + x.nconc * 2 ^ 8) ∧
          (y.port p).service = (x.service || s.rb (Key.rlkCtl p) 61)))) ∧
  (∀ (s : State) (p : Nat), p < 8 → s.Initialised →
    let x := s.port p
    exec (.autoStart p) s = .next (if x.st = 5 then (s.setRf (Key.rlkCtl p) 61 61 1).setPort p { x with service := true }
      else s.setRf (Key.rlkCtl p) 61 61 1) ∧
    (x.link = false → exec (.rediscovery p) s = .next s) ∧
    (x.link = true → s.pair.role ≠ 2 → s.pair.role ≠ 3 → (s.rb Key.pairCtl 63 = false ∨ s.pair.role = 1) →
      ∃ y, exec (.rediscovery p) s = .next y ∧ (y.port p).st = 2 ∧ (y.port p).nconc = 0 ∧ (y.port p).service = false ∧
        (y.port p).disc = some 1 ∧ (y.port p).tx = x.tx ++ [{ f := { hdr := rHdr 7 3 0 0 0 0 1, payload := [] }, cut := false }]))

/-- Where no DMA access has to wait for a chunk of DRAM or for room in the pair's send queue: an enabled TSN port with its link up
sends of its open classes with a FULL descriptor whose frame ends before the gate closes the highest: the descriptor's word 1 is
written, word 0 becomes EMPTY, the ring moves on and event 4 names the class beside those it already names; STATUS is 3 for a bad
LEN, 2 for an SA that is unusable or spent, 1 for a POISON word, each counted with its fault event, else 0. A good frame of 60 to
9,212 bytes (the size being the model's reading, log 97) that MACsec accepts, deciphered where an SA verified it, goes with the
ring's tag into an EMPTY descriptor's buffer, truncated to SIZE, and word 0 becomes FULL; a descriptor that is not EMPTY drops it
with the overflow fault, and one that gives an error response or whose buffer refuses a word is passed over with the address
logged (log 67); a bad FCS, or no valid SecTAG with SECY, is counted. Link changes, gate-control cycles at AT + k x CT and entries
at the end of their intervals act as R443 and R444 give them. A good completion answers the waiting thread with tag BITS; UR, CA,
poison and a timeout are logged with their kind, raise source 343 (a timeout 405 too) and answer with an error, or all ones for
ECAM; an ECAM write leaves for the link and ends without error, a failure of it logged all the same; a posted write is discarded
and logged while the link is down; a completion of a read nobody waits for any more ends that read, and any other that nobody
waits for is counted as late. An MSI of data up to 27 raises its source; an inbound request outside an enabled window is refused
and counted, a read of POISON counts in EP, and a write merges its words with the window's tag, to the first that is refused; the
link trains within PCIE_CTL's rate and width, and in the recovery wait it is the endpoint's (R440, R441, R442, R443, R444, R446,
R447, R450, R451, R452, R453, R454). -/
def Obligations.PlantNetworkAndPcie : Prop :=
  (∀ (s : State) (p c : Nat), p < 6 → c < 8 →
    let x := s.tsnPort p
    let now := s.cio.now / 2 ^ 32 % 2 ^ 64
    let ring := Key.tsnTxring p c
    let size := 2 ^ s.rf ring 63 60
    let a := s.rf ring 47 5 * 32 + 32 * (tget 0 x.tx c % size)
    let w0 := (s.dmaGet (.tsn p) a).getD { data := 0, tag := Tag.empty }
    let len := bits w0.data 61 48
    let sa := bits w0.data 67 64
    let sec := w0.data.getLsbD 63
    let pn := (s.reg (Key.saPn p sa)).toNat
    let most := if s.rb (Key.saCfg p sa) 61 = true then 2 ^ 64 - 1 else 2 ^ 32 - 1
    let spent := sa ∈ x.exhausted ∨ most < pn
    let spend (u : State) : State :=
      u.modTsn p (fun y => { y with exhausted := if sa ∈ y.exhausted then y.exhausted else y.exhausted ++ [sa] })
    let rd := (s.dmaRead (.tsn p) a).2
    let done (u : State) (status : Nat) : State :=
      let w1 : Data := BitVec.ofNat 128 ((if w0.data.getLsbD 62 = true then now else 0) + status * 2 ^ 64)
      let v := (u.dmaSet (.tsn p) (a + 16) { data := w1, tag := Tag.bits }).dmaSet (.tsn p) a { w0 with tag := Tag.empty }
      let v1 := v.modTsn p (fun y => { y with tx := tset 0 y.tx c ((tget 0 y.tx c + 1) % size) })
      let v2 := if status = 0 then v1 else v1.count (Key.tsnTxdrop p) 31 0 1
      v2.raise (268 + 8 * p) ((tfind v2.evPend (268 + 8 * p)).getD 0 ||| BitVec.ofNat 128 (2 ^ c))
    let passed (u : State) : State := u.modTsn p (fun y => { y with tx := tset 0 y.tx c ((tget 0 y.tx c + 1) % size) })
    let holds (i : Nat) : Nat := if s.rf (Key.tsnGcl p i) 63 32 = 0 then 1000 else s.rf (Key.tsnGcl p i) 63 32
    let opens (i d : Nat) : Prop := s.rf (Key.tsnGcl p i) 63 32 ≠ 0 ∧ (s.rf (Key.tsnGcl p i) 7 0).testBit d = true
    let entries := s.rf (Key.tsnGclctl p) 8 0
    let start := (s.reg (Key.tsnGclbase p)).toNat
    let sum (l : List Nat) : Nat := (l.map holds).sum
    let cycle := sum (List.range entries)
    let fits (d : Nat) : Prop := ∀ i w j, x.gcl = some i → rd.dmaGet (.tsn p) (rd.txDesc p d) = some w →
      60 ≤ bits w.data 61 48 → bits w.data 61 48 ≤ 9212 → 0 < j → j ≤ entries → (∀ m, 0 < m → m < j → opens ((i + m) % entries) d) →
      ¬ opens ((i + j) % entries) d →
      10 * now + (if p < 2 then 8 else 80) * (bits w.data 61 48 + 24 + 32 * bits w.data 63 63) <
        10 * (start + (now - start) / cycle * cycle + sum (List.range (i + 1)) + sum ((List.range (j - 1)).map (fun m => (i + 1 + m) % entries)))
    let ready (d : Nat) : Prop := (s.gatesOpen p).getLsbD d = true ∧ rd.txFull p d = true ∧ fits d
    s.rb (Key.tsnCtl p) 63 = true → x.link = true → s.Initialised → (DmaAgent.tsn p, a / 16) ∉ s.dmaLate → w0.tag = Tag.full →
    ((s.gatesOpen p).getLsbD c = false → exec (.tsnTransmit p c) s = .next s) ∧
    ((s.gatesOpen p).getLsbD c = true → ¬ ready c ∨ (∃ d < 8, c < d ∧ ready d) → exec (.tsnTransmit p c) s = .next rd) ∧
    (ready c → (∀ d < 8, c < d → ¬ ready d) →
      (len < 60 ∨ 9212 < len → exec (.tsnTransmit p c) s = .next (done rd 3)) ∧
      (60 ≤ len → len ≤ 9212 → sec = true → s.rf (Key.saCfg p sa) 63 62 ≠ 3 →
        exec (.tsnTransmit p c) s = .next ((done rd 2).raise (270 + 8 * p) 2)) ∧
      (60 ≤ len → len ≤ 9212 → sec = true → s.rf (Key.saCfg p sa) 63 62 = 3 → spent → exec (.tsnTransmit p c) s = .next
        ((done (spend rd) 2).raise (270 + 8 * p) 4)) ∧
      (∀ v, 60 ≤ len → len ≤ 9212 → (sec = true → s.rf (Key.saCfg p sa) 63 62 = 3 ∧ ¬ spent) →
        rd.dmaSpan (.tsn p) (bits w0.data 47 0) len = (none, v) → exec (.tsnTransmit p c) s = .next (passed v)) ∧
      (∀ ws v, 60 ≤ len → len ≤ 9212 → (sec = true → s.rf (Key.saCfg p sa) 63 62 = 3 ∧ ¬ spent) →
        rd.dmaSpan (.tsn p) (bits w0.data 47 0) len = (some ws, v) →
        ((∃ w ∈ ws, w.tag = Tag.poison) → ∃ i w, ws[i]? = some w ∧ w.tag = Tag.poison ∧ exec (.tsnTransmit p c) s =
          .next ((done (v.dmaLog (.tsn p) (bits w0.data 47 0 / 16 * 16 + 16 * i)) 1).raise (270 + 8 * p) 1)) ∧
        ((∀ w ∈ ws, w.tag ≠ Tag.poison) → exec (.tsnTransmit p c) s = .next (done
          (if sec = false then v
            else
              let v1 := if pn = 2 ^ 64 - 1 then v else v.setReg (Key.saPn p sa) (v.reg (Key.saPn p sa) + 1)
              if most ≤ pn then spend v1 else v1) 0))))) ∧
  (∀ (s : State) (p : Nat) (f : EthFrame), p < 6 → s.rb (Key.tsnCtl p) 63 = true → (s.tsnPort p).link = true → s.Initialised →
    let x := s.tsnPort p
    let q := match f.pcp with | none => 0 | some k => s.rf (Key.tsnRxmap p) (2 * k.toNat + 1) (2 * k.toNat)
    let ring := Key.tsnRxring p q
    let n := 2 ^ s.rf ring 63 60
    let a := s.rf ring 47 5 * 32 + 32 * (tget 0 x.rx q % n)
    let bad := s.count (Key.tsnRxerr p) 31 0 1
    (f.bytes.length < 60 ∨ 9212 < f.bytes.length → exec (.tsnRxFrame p f) s = .next s) ∧
    (f.sectag = none → s.rb (Key.tsnCtl p) 60 = false → s.macsec p f = some none) ∧
    (∀ sci an pn k, f.sectag = some (sci, an, pn, s.icvOf p k pn f.bytes) → s.rxSa p sci an = some k →
      (s.reg (Key.saPn p k)).toNat ≤ pn.toNat → s.macsec p f = some (some (k, pn))) ∧
    (60 ≤ f.bytes.length → f.bytes.length ≤ 9212 →
    (f.fcsGood = false ∨ (f.sectag = none ∧ s.rb (Key.tsnCtl p) 60 = true) → exec (.tsnRxFrame p f) s = .next bad) ∧
    (∀ sci an pn icv, f.fcsGood = true → f.sectag = some (sci, an, pn, icv) → s.rb (Key.tsnCtl p) 60 = true →
      (∀ k < 16, s.rf (Key.saCfg p k) 63 62 = 2 → s.reg (Key.saSci p k) = sci → s.rf (Key.saCfg p k) 57 56 = an.toNat →
        icv = s.icvOf p k pn f.bytes → pn.toNat < (s.reg (Key.saPn p k)).toNat) → exec (.tsnRxFrame p f) s = .next bad) ∧
    (∀ ver, f.fcsGood = true → s.macsec p f = some ver →
      let s1 := match ver with | some (sa, pn) => s.setReg (Key.saPn p sa) (pn + 1) | none => s
      (s1.dmaGet (.tsn p) a = none → exec (.tsnRxFrame p f) s = .next
        ((((s1.dmaLog (.tsn p) a).count (Key.tsnRxnobuf p) 31 0 1).raise (270 + 8 * p) 8).modTsn p
          (fun y => { y with rx := tset 0 y.rx q ((tget 0 y.rx q + 1) % n) }))) ∧
      (∀ w0, s1.dmaGet (.tsn p) a = some w0 → (DmaAgent.tsn p, a / 16) ∉ s.dmaLate →
        let rd := (s1.dmaRead (.tsn p) a).2
        (w0.tag ≠ Tag.empty → exec (.tsnRxFrame p f) s = .next ((rd.count (Key.tsnRxnobuf p) 31 0 1).raise (270 + 8 * p) 8)) ∧
        (w0.tag = Tag.empty →
          let size := bits w0.data 61 48
          let clear := match ver with | some (sa, pn) => s.decipher p sa pn f.bytes | none => f.bytes
          let got := clear.take size
          let tag := if s.rf ring 59 58 = 1 then Tag.int else if s.rf ring 59 58 = 2 then Tag.full else Tag.bits
          let pcp := match f.pcp with | none => 0 | some k => k.toNat
          let info := s.cio.now / 2 ^ 32 % 2 ^ 64 + f.bytes.length % 2 ^ 14 * 2 ^ 64 + (if size < f.bytes.length then 2 ^ 78 else 0) +
            (if ver = none then 0 else 2 ^ 81) + pcp * 2 ^ 82
          ∃ ws : List TWord, ws.length = (got.length + 15) / 16 ∧
            (∀ i < ws.length, ∀ j < 16, ∀ w, ws[i]? = some w → w.tag = tag ∧ (w.data >>> (8 * j)).setWidth 8 = got.getD (16 * i + j) 0) ∧
            let w1 : TWord := { data := BitVec.ofNat 128 info, tag := Tag.bits }
            let put := rd.dmaWrites (.tsn p) (bits w0.data 47 4 * 16) ws
            let next (u : State) : State := u.modTsn p (fun y => { y with rx := tset 0 y.rx q ((tget 0 y.rx q + 1) % n) })
            exec (.tsnRxFrame p f) s = .next (if put.1 = true then
              (next ((put.2.dmaSet (.tsn p) (a + 16) w1).dmaSet (.tsn p) a { w0 with tag := Tag.full })).raise (264 + 8 * p + q) 0
            else next put.2)))))) ∧
  (∀ (s : State) (p : Nat) (up : Bool), p < 6 →
    let x := s.tsnPort p
    exec (.tsnLinkChange p up) s = .next (if up = true ∧ s.rb (Key.tsnCtl p) 63 = false then s
      else (s.setTsn p { x with link := up }).raise (269 + 8 * p) (if up = true then 1 else 0)) ∧
    let now := s.cio.now / 2 ^ 32 % 2 ^ 64
    let base := (s.reg (Key.tsnGclbase p)).toNat
    let holds (i : Nat) : Nat := if s.rf (Key.tsnGcl p i) 63 32 = 0 then 1000 else s.rf (Key.tsnGcl p i) 63 32
    let cycle := ((List.range (s.rf (Key.tsnGclctl p) 8 0)).map holds).sum
    let k := (now - base) / cycle
    (now < base ∨ s.rb (Key.tsnGclctl p) 63 = false ∨ (∃ q, x.gclK = some q ∧ k ≤ q) → exec (.gclCycleStart p) s = .next s) ∧
    (base ≤ now → s.rb (Key.tsnGclctl p) 63 = true → (∀ q, x.gclK = some q → q < k) → exec (.gclCycleStart p) s = .next
      ((s.setTsn p { x with gcl := some 0, gclK := some k }).raise (271 + 8 * p) (BitVec.ofNat 128 ((base + k * cycle) % 2 ^ 64)))) ∧
    (∀ i m, x.gcl = some i → x.gclK = some m → now < base + m * cycle + ((List.range (i + 1)).map holds).sum →
      exec (.gclEntryChange p) s = .next s) ∧
    (∀ i m, x.gcl = some i → x.gclK = some m → s.rb (Key.tsnGclctl p) 63 = true → i + 1 < s.rf (Key.tsnGclctl p) 8 0 →
      base + m * cycle + ((List.range (i + 1)).map holds).sum ≤ now →
      ∃ u, exec (.gclEntryChange p) s = .next u ∧ (u.tsnPort p).gcl = some (i + 1) ∧
        u.gatesOpen p = (if s.rf (Key.tsnGcl p (i + 1)) 63 32 = 0 then 0 else BitVec.ofNat 8 (s.rf (Key.tsnGcl p (i + 1)) 7 0)))) ∧
  (∀ (s : State) (t : Nat) (d : Data), t < 768 →
    let th := s.thr t
    let waits := ∃ r, th.extReq = some r ∧ s.region r.pa.toNat = .pcie
    (¬ waits → th.orphans = [] → (∀ e ∈ s.ecamWrites, e.1 ≠ t) →
      exec (.pcieCompletion t .good d) s = .next (s.count Key.pcieLate 31 0 1) ∧ exec (.pcieCompletionTimeout t) s = .next s) ∧
    (∀ pa rest, ¬ waits → th.orphans = pa :: rest →
      let left : State := s.setThr t { th with orphans := rest }
      let failed (kind : Nat) : State := (if s.rb Key.pcieErrlog 63 = true then left.setRf Key.pcieErrlog 62 62 1 else left.setReg Key.pcieErrlog
        (BitVec.ofNat 64 (2 ^ 63 + (if s.rb Key.pcieErrlog 62 = true then 2 ^ 62 else 0) + kind * 2 ^ 48 + pa.toNat / 16 * 16))).raise 343 0
      exec (.pcieCompletion t .good d) s = .next left ∧ exec (.pcieCompletion t .ur d) s = .next (failed 1) ∧
      exec (.pcieCompletion t .ca d) s = .next (failed 2) ∧ exec (.pcieCompletion t .poisoned d) s = .next (failed 3) ∧
      exec (.pcieCompletionTimeout t) s = .next ((failed 0).raise 405 0)) ∧
    (∀ before after pa, ¬ waits → th.orphans = [] → s.ecamWrites = before ++ (t, pa) :: after → (∀ e ∈ before, e.1 ≠ t) →
      let left : State := { s with ecamWrites := before ++ after }
      let failed (kind : Nat) : State := (if s.rb Key.pcieErrlog 63 = true then left.setRf Key.pcieErrlog 62 62 1 else left.setReg Key.pcieErrlog
        (BitVec.ofNat 64 (2 ^ 63 + (if s.rb Key.pcieErrlog 62 = true then 2 ^ 62 else 0) + kind * 2 ^ 48 + pa.toNat / 16 * 16))).raise 343 0
      exec (.pcieCompletion t .good d) s = .next left ∧ exec (.pcieCompletion t .ur d) s = .next (failed 1) ∧
      exec (.pcieCompletion t .ca d) s = .next (failed 2) ∧ exec (.pcieCompletion t .poisoned d) s = .next (failed 3) ∧
      exec (.pcieCompletionTimeout t) s = .next ((failed 0).raise 405 0)) ∧
    (∀ c e r, c < 48 → (s.core c).sb = e :: r → e.kind = .pcie →
      let sent := s.modCore c (fun y => { y with sb := r })
      let pa := e.pa.toNat
      let ecam : Prop := 0x800000000000 ≤ pa ∧ pa < 0x800010000000
      (ecam → exec (.storeBufferDrain c) s = .next { sent with ecamWrites := s.ecamWrites ++ [(e.tid, e.pa)] }) ∧
      (¬ ecam → s.rb Key.pcieStat 63 = true → exec (.storeBufferDrain c) s = .next sent) ∧
      (¬ ecam → s.rb Key.pcieStat 63 = false → exec (.storeBufferDrain c) s = .next
        ((if s.rb Key.pcieErrlog 63 = true then sent.setRf Key.pcieErrlog 62 62 1 else sent.setReg Key.pcieErrlog
          (BitVec.ofNat 64 (2 ^ 63 + (if s.rb Key.pcieErrlog 62 = true then 2 ^ 62 else 0) + 4 * 2 ^ 48 + pa / 16 * 16))).raise 342 0))) ∧
    ∀ r, th.extReq = some r → s.region r.pa.toNat = .pcie →
      let pa := r.pa.toNat
      let given (u : State) (w : Option TWord) : State := u.setThr t { th with extReq := none, extAns := tput th.extAns r.key w }
      let logged (kind : Nat) : State := if s.rb Key.pcieErrlog 63 = true then s.setRf Key.pcieErrlog 62 62 1
        else s.setReg Key.pcieErrlog (BitVec.ofNat 64 (2 ^ 63 + (if s.rb Key.pcieErrlog 62 = true then 2 ^ 62 else 0) + kind * 2 ^ 48 + pa / 16 * 16))
      let failed (kind : Nat) : State := given ((logged kind).raise 343 0)
        (if 0x800000000000 ≤ pa ∧ pa < 0x800010000000 then some { data := -1, tag := Tag.bits } else none)
      exec (.pcieCompletion t .good d) s = .next (given s (some { data := d, tag := Tag.bits })) ∧
      exec (.pcieCompletion t .ur d) s = .next (failed 1) ∧ exec (.pcieCompletion t .ca d) s = .next (failed 2) ∧
      exec (.pcieCompletion t .poisoned d) s = .next (failed 3) ∧ exec (.pcieCompletionTimeout t) s = .next ((failed 0).raise 405 0)) ∧
  (∀ (s : State) (a : Nat) (d : Data) (req : BitVec 16), s.rb Key.pcieStat 63 = true → s.Initialised → a / 16 * 16 = 0x7FFFFFFF0000 →
    exec (.pcieInboundRequest (.write a [(d, 0x000F)] req)) s = .next (if bits d 31 0 ≤ 27 then
      s.raise (312 + bits d 31 0) (BitVec.ofNat 128 (bits d 31 0 + req.toNat * 2 ^ 32)) else s.count Key.pcieCnt 47 32 1)) ∧
  (∀ (s : State) (a n : Nat) (req : BitVec 16) (l : List (Data × BitVec 16)), s.rb Key.pcieStat 63 = true → s.Initialised →
    let holds (i b m : Nat) : Prop := s.rb (Key.pcieInwin i) 63 = true ∧ s.rf (Key.pcieInwin i) 47 14 * 2 ^ 14 ≤ b ∧
      b + m ≤ s.rf (Key.pcieInlim i) 47 14 * 2 ^ 14
    let b := a / 16 * 16
    let m := 16 * l.length
    let served (c k : Nat) : Prop := ∀ j, c / 16 ≤ j → j ≤ (c + k - 1) / 16 →
      (s.region (16 * j) = .dram ∨ s.region (16 * j) = .scratch) ∧ s.reaches false (16 * j) = true
    ((∀ i < 4, ¬ holds i a n) → exec (.pcieInboundRequest (.read a n)) s = .next (s.count Key.pcieCnt 31 0 1)) ∧
    (isMsi a l = none → (∀ i < 4, ¬ holds i b m) ∨ (0 < m ∧ ¬ served b m) →
      exec (.pcieInboundRequest (.write a l req)) s = .next (s.count Key.pcieCnt 31 0 1)) ∧
    (∀ ws v, (∃ i < 4, holds i a n) → 0 < n → served a n → s.dmaSpan .pcie a n = (some ws, v) →
      ((∀ w ∈ ws, w.tag ≠ Tag.poison) → exec (.pcieInboundRequest (.read a n)) s = .next v) ∧
      ((∃ w ∈ ws, w.tag = Tag.poison) → ∃ i w, ws[i]? = some w ∧ w.tag = Tag.poison ∧ exec (.pcieInboundRequest (.read a n)) s =
        .next ((v.dmaLog .pcie (a / 16 * 16 + 16 * i)).count Key.pcieCnt 63 48 1))) ∧
    (∀ i < 4, ∀ ok u, isMsi a l = none → holds i b m → (∀ j < i, ¬ holds j b m) → 0 < m → served b m →
      s.inWrite ([Tag.bits, Tag.int, Tag.full, Tag.bits].getD (s.rf (Key.pcieInwin i) 62 61) 0) b l = (ok, u) →
      exec (.pcieInboundRequest (.write a l req)) s = .next (if ok = true then u else u.count Key.pcieCnt 31 0 1)) ∧
    (∀ tag w, s.inWrite tag b (w :: l) = (match s.dmaPut .pcie b w.2 { data := w.1, tag := tag } with
      | some u => u.inWrite tag (b + 16) l
      | none => (false, s.dmaLog .pcie b)))) ∧
  (∀ (s : State) (up : Bool) (gen width : BitVec 2),
    (s.recoveryWait = true → exec (.pcieLinkChange up gen width) s = .next { s with boot := { s.boot with rcvLink := up } }) ∧
    (s.recoveryWait = false → exec (.pcieLinkChange up gen width) s = .next (if up = true ∧ s.rb Key.pcieCtl 63 = false then s
      else (s.setReg Key.pcieStat (BitVec.ofNat 64 (if up = true then 2 ^ 63 + min gen.toNat (s.rf Key.pcieCtl 62 61) * 2 ^ 61 +
        max width.toNat (s.rf Key.pcieCtl 60 59) * 2 ^ 59 else 0))).raise 340 0)) ∧
    exec .pcieErrorMessage s = .next (s.raise 341 0))

/-- The engine takes the next FULL slot of a queue in ring order: a valid record gets the stream's SEQ, its tag word and its CRC
and joins the tier's unit, or closes a unit it does not fit; an invalid header with nothing of its queue waiting completes at once
with STATUS 1, and otherwise with the last unit that holds a slot of its queue. The flush timer closes a unit that has a record. A
closed unit goes to the tier's open zone that has room, its words into the staging area and the command to the drive; without a
zone, one opens on the online drive with the lowest WRITTEN count and an empty zone, the lower number among equals, with the next
ZSEQ, or the tier stops at its quota without RECLAIM. An append's end extends the zone and the chain hash, completes the slots and
raises their queues' sources; one that nobody waits for is late. A failed append is retried once; then its zone fails, APPFAIL
counts and the unit waits for a new zone, and the third failed command in a row fails the drive; a drive that is retiring is
RETIRED when its last append has ended. A checkpoint writes ZSEQ, the unit count and h with tag FULL and raises source 353, or is
counted as skipped while the last is unsigned; only a secure HSE_CKDONE signs it. A read of 1 to 16 blocks of a zone on a drive
that is neither detached, retired nor failed delivers a record whose CRC is good with its tags and one whose CRC fails as POISON,
and the status. A slot or a descriptor with a word that cannot be read is passed over, and a read that cannot be delivered ends
without completion. With every chunk initialised and room in the pair's send queue. Drives (the layout of the commands and of the
staging area being the model's choice, log 98) are retired and attached as R464 has it (R16, R456, R457, R458, R459, R460, R461,
R462, R463, R464, R465, R466). -/
def Obligations.HistorianEngine : Prop :=
  (∀ (s : State) (q : Nat) (w0 : TWord), q < 8 → s.Initialised → s.rb Key.hseCtl 63 = true →
    let k := Key.hseSq q
    let size := 2 ^ s.rf k 63 60
    let i := tget 0 s.hse.sq q % size
    let a := s.rf k 47 9 * 512 + 512 * i
    let t := s.rf k 59 58
    let x := s.tier t
    let len := bits w0.data 80 76
    let stream := bits w0.data 75 64
    let seq := tget 0 s.hse.seqs stream
    let rd := (s.dmaRead .hse a).2
    let past (u : State) : State := u.setHse { s.hse with sq := tset 0 s.hse.sq q ((i + 1) % size) }
    x.stopped = false → (∀ j < 4, ∀ sl ∈ (s.tier j).slots, sl.q = q → sl.idx ≠ i) →
    ((s.dmaRead .hse a).1 = none → exec (.hseSlotTake q) s = .next (past rd)) ∧
    ((s.dmaRead .hse a).1 = some w0 → w0.tag ≠ Tag.full → exec (.hseSlotTake q) s = .next rd) ∧
    ((s.dmaRead .hse a).1 = some w0 → w0.tag = Tag.full → len = 0 ∨ 16 < len ∨ stream = 4095 → (∀ sl ∈ x.slots, sl.q ≠ q) →
      let r := ((past rd).dmaSet .hse (a + 16) { data := BitVec.ofNat 128 (2 ^ 96), tag := Tag.bits }).dmaRead .hse a
      let done := (r.1.map (fun w => r.2.dmaSet .hse a { w with tag := Tag.empty })).getD r.2
      exec (.hseSlotTake q) s = .next (done.raise (344 + q) (BitVec.ofNat 128 i))) ∧
    ((s.dmaRead .hse a).1 = some w0 → w0.tag = Tag.full → len = 0 ∨ 16 < len ∨ stream = 4095 → (∃ sl ∈ x.slots, sl.q = q) →
      exec (.hseSlotTake q) s = .next ((past rd).setTier t (x.attach { q := q, idx := i, seq := 0, valid := false }))) ∧
    ((s.dmaRead .hse a).1 = some w0 → w0.tag = Tag.full → 1 ≤ len → len ≤ 16 → stream < 4095 →
      let took := (past rd).setHse { (past rd).hse with seqs := tset 0 s.hse.seqs stream ((seq + 1) % 2 ^ 32) }
      let got := took.dmaReads .hse (a + 32) len
      (got.1 = none → exec (.hseSlotTake q) s = .next (past { rd with ioLog := got.2.ioLog, dmaLate := got.2.dmaLate })) ∧
      (∀ pl, got.1 = some pl →
      let time : W64 := if bits w0.data 63 0 = 0 then BitVec.ofNat 64 (s.cio.now / 2 ^ 32 % 2 ^ 64) + s.reg Key.hseEpoch
        else w0.data.setWidth 64
      ∃ h tw ds,
        bits h 63 0 = time.toNat ∧ bits h 75 64 = stream ∧ bits h 80 76 = len ∧ bits h 82 81 = t ∧ bits h 127 96 = seq % 2 ^ 32 ∧
        ds = pl.map (fun w => if w.tag = Tag.poison then (0 : Data) else w.data) ∧
        (∀ j < len, bits tw (4 * j + 3) (4 * j) = (pl.getD j { data := 0, tag := 0 }).tag.toNat) ∧
        bits tw 127 64 = (crc64 (wordBytes h ++ (wordBytes (tw &&& 0xFFFFFFFFFFFFFFFF)).take 8 ++ wordsBytes ds)).toNat ∧
        let sl : HSlot := { q := q, idx := i, seq := seq, valid := true }
        let first := if x.unit.ws = [] then time else x.unit.t0
        let grown : HUnit := { ws := x.unit.ws ++ h :: tw :: ds, slots := x.unit.slots ++ [sl], t0 := first, t1 := time }
        exec (.hseSlotTake q) s = .next (got.2.setTier t (if x.unit.ws.length + len + 2 ≤ 4096 then { x with unit := grown }
          else { x with closed := x.closed ++ [x.unit], unit := { ws := h :: tw :: ds, slots := [sl], t0 := time, t1 := time } }))))) ∧
  (∀ (s : State) (t : Nat), t < 4 → s.Initialised → s.rb Key.hseCtl 63 = true →
    let x := s.tier t
    exec (.hseFlushTimer t) s = .next (if x.unit.ws = [] then s
      else s.setTier t { x with closed := x.closed ++ [x.unit], unit := {} }) ∧
    (∀ u r, x.closed = u :: r → x.out = none → x.stopped = false →
      (∀ z zn, x.zone = some z → tfind s.hse.zones z = some zn → zn.wp + (u.ws.length + 255) / 256 ≤ zn.cap →
        exec (.hseUnitAppend t) s = .next ((s.setTier t { x with closed := r, out := some (u, false) }).sendAppend t u)) ∧
      (x.zone = none → s.rf (Key.hseTier t) 31 0 ≠ 0 → s.rb (Key.hseTier t) 63 = false →
        s.rf (Key.hseTier t) 31 0 ≤ (s.hse.zones.filter (fun e => e.2.tier == t && (e.2.st == 1 || e.2.st == 2 || e.2.st == 3))).length →
        exec (.hseUnitAppend t) s = .next ((s.setTier t { x with stopped := true }).raise 356 0)) ∧
      (∀ n z lba cap rest, x.zone = none → s.rf (Key.hseTier t) 31 0 = 0 → n < 16 → (s.drive n).st = 2 → (s.drive n).empty = (lba, cap) :: rest →
        (∀ m < 16, m ≠ n → (s.drive m).st = 2 → (s.drive m).empty ≠ [] →
          (s.drive n).written < (s.drive m).written ∨ (s.drive n).written = (s.drive m).written ∧ n < m) →
        (let free (j : Nat) : Prop := match tfind s.hse.zones j with | none => True | some y => y.st = 0 ∨ y.st = 4
         z ≤ s.hse.zones.length ∧ z < s.rf Key.hseZtlim 31 0 ∧ free z ∧ ∀ j < z, ¬ free j) →
        ∃ y hash, exec (.hseUnitAppend t) s = .next y ∧ y.hse.zseq = s.hse.zseq + 1 ∧
          y.tier t = { x with zone := some z, units := 0, hash := hash, zseq := s.hse.zseq, closed := r, out := some (u, false) } ∧
          (let depth := s.rf (Key.hseDrvsq n) 63 52
           let d := s.drive n
           y.drive n = { d with written := d.written + 1, empty := rest,
                                tail := if depth = 0 then d.tail else ((d.tail + 1) % depth + 1) % depth }) ∧
          tfind y.hse.zones z = some { drive := n, zslba := lba, cap := cap, tier := t, st := 1, zseq := s.hse.zseq, wp := 1, t0 := 0, t1 := 0 } ∧
          (s.rf (Key.evrBind 354) 35 32 ≠ 0 → (tfind y.evPend 354).isSome = true))) ∧
    (∀ lba, x.out = none → exec (.hseAppendComplete t lba) s = .next (s.count Key.hseLate 31 0 1)) ∧
    (∀ lba u again z zn, x.out = some (u, again) → x.zone = some z → tfind s.hse.zones z = some zn →
      let d := s.drive zn.drive
      let blocks := (u.ws.length + 255) / 256
      let fails (v : State) : State := if 3 ≤ d.fails + 1 ∧ d.st ≠ 5 then (v.setDrive zn.drive { d with fails := d.fails + 1, st := 5 }).raise 355 0
        else v.setDrive zn.drive { d with fails := d.fails + 1 }
      (d.st ≠ 3 → ∃ y, exec (.hseAppendComplete t lba) s = .next y ∧
        (y.tier t).out = none ∧ (y.tier t).units = x.units + 1 ∧
        (y.tier t).hash = sha384 (x.hash ++ wordsBytes (u.ws ++ List.replicate (256 * blocks - u.ws.length) 0)) ∧
        (∃ zn', tfind y.hse.zones z = some zn' ∧ zn'.wp = zn.wp + blocks ∧ zn'.st = zn.st ∧ zn'.zseq = zn.zseq) ∧
        (let size := s.rf (Key.hseDrvsq zn.drive) 63 52
         y.drive zn.drive = { d with written := d.written + blocks, fails := 0, head := if size = 0 then d.head else (d.head + 1) % size }) ∧
        ∀ q < 8, ∀ sl, (u.slots.filter (fun j => j.q == q)).getLast? = some sl → s.rf (Key.evrBind (344 + q)) 35 32 ≠ 0 →
          tfind y.evPend (344 + q) = some (BitVec.ofNat 128 sl.idx)) ∧
      (again = false → exec (.hseCommandTimeout t) s = .next ((fails (s.setTier t { x with out := some (u, true) })).sendAppend t u)) ∧
      (again = true → d.st ≠ 3 → exec (.hseCommandTimeout t) s = .next
        (((((fails s).setZone z { zn with st := 3 }).count Key.hseCnt 31 16 1).setTier t
          { x with out := none, zone := none, closed := u :: x.closed }).raise 357 0))) ∧
    (x.zone ≠ none → s.rb Key.hseCkctl 63 = true →
      (x.unsigned = true → exec (.hseCheckpoint t) s = .next (s.count Key.hseCnt 15 0 1)) ∧
      (x.unsigned = false → ∃ ws : List TWord, ws.length = 4 ∧ (∀ w ∈ ws, w.tag = Tag.full) ∧
        ws.head? = some { data := BitVec.ofNat 128 (x.zseq % 2 ^ 64 + x.units % 2 ^ 64 * 2 ^ 64), tag := Tag.full } ∧
        (x.hash.length = 48 → wordsBytes ((ws.drop 1).map (fun w => w.data)) = x.hash) ∧
        exec (.hseCheckpoint t) s = .next (((s.dmaSetAll .hseCheckpoint (s.rf Key.hseCkbase 47 10 * 2 ^ 10 + 256 * t) ws).setTier t
          { x with unsigned := true }).raise 353 (BitVec.ofNat 128 t)))) ∧
    (∀ lba u again z zn, x.out = some (u, again) → x.zone = some z → tfind s.hse.zones z = some zn → zn.drive < 16 → (s.drive zn.drive).st = 3 →
      (∀ j < 4, j ≠ t → ∀ i y, (s.tier j).zone = some i → tfind s.hse.zones i = some y → y.drive ≠ zn.drive) →
      ∃ y, exec (.hseAppendComplete t lba) s = .next y ∧ (y.drive zn.drive).st = 4 ∧ (y.tier t).out = none ∧
        (s.rf (Key.evrBind 355) 35 32 ≠ 0 → (tfind y.evPend 355).isSome = true) ∧
        ∀ i yz, (y.tier t).zone = some i → tfind y.hse.zones i = some yz → yz.drive ≠ zn.drive) ∧
    (∀ w : Writer, (w.secure = false ∨ x.unsigned = false → exec (.checkpointDone w (BitVec.ofNat 64 t)) s = .next s) ∧
      (w.secure = true → x.unsigned = true →
        let got := (s.setTier t { x with unsigned := false }).dmaReads .hseCheckpoint (s.rf Key.hseCkbase 47 10 * 2 ^ 10 + 256 * t) 10
        (got.1 = none → exec (.checkpointDone w (BitVec.ofNat 64 t)) s = .next got.2) ∧
        (got.1.isSome = true → x.unit.ws.length + 12 ≤ 4096 → ∃ y ws, exec (.checkpointDone w (BitVec.ofNat 64 t)) s = .next y ∧ (y.tier t).unsigned = false ∧
          (y.tier t).unit.ws = x.unit.ws ++ ws ∧ ws.length = 12 ∧ bits (ws.headD 0) 75 64 = 4095 ∧ bits (ws.headD 0) 80 76 = 10 ∧
          (y.tier t).unit.slots = x.unit.slots)))) ∧
  (∀ (s : State) (w0 w1 : TWord) (h tw : Data) (pl more : List Data), s.Initialised → s.rb Key.hseCtl 63 = true →
    let k := Key.hseRdq
    let size := 2 ^ s.rf k 63 60
    let a := s.rf k 47 5 * 32 + 32 * (s.hse.rd % size)
    let got := s.dmaReads .hse a 2
    let past (u : State) : State := u.setHse { u.hse with rd := (s.hse.rd + 1) % size }
    (got.1 = none → ∀ r, exec (.hseRead r) s = .next (past got.2)) ∧
    (got.1 = some [w0, w1] → w0.tag ≠ Tag.full → ∀ r, exec (.hseRead r) s = .next got.2) ∧
    (got.1 = some [w0, w1] → w0.tag = Tag.full →
    let ended (v : State) (ws : List TWord) (n e status : Nat) : State :=
      let d1 := setBits (setBits (setBits w1.data 111 96 n) 119 112 e) 122 120 status
      let put := v.dmaWrites .hse (bits w1.data 47 4 * 16) ws
      let u := (put.2.dmaSet .hse (a + 16) { w1 with data := d1 }).dmaSet .hse a { w0 with tag := Tag.empty }
      if put.1 then ((past u).count Key.hseCnt 47 32 e).raise 352 0 else past put.2
    let len := bits h 80 76
    let good := (crc64 (wordBytes h ++ (wordBytes tw).take 8 ++ wordsBytes pl)).toNat = bits tw 127 64
    ((∀ z, tfind s.hse.zones (bits w0.data 31 0) = some z → z.st ≠ 1 ∧ z.st ≠ 2 ∧ z.st ≠ 3) →
      ∀ r, exec (.hseRead r) s = .next (ended got.2 [] 0 0 1)) ∧
    (∀ z, tfind s.hse.zones (bits w0.data 31 0) = some z → z.st = 1 ∨ z.st = 2 ∨ z.st = 3 →
      let d := got.2.drive z.drive
      let blocks := bits w0.data 68 64
      let away : Prop := d.st = 0 ∨ d.st = 4 ∨ d.st = 5
      let asked := got.2.nvmeSubmit z.drive 1 (z.zslba + BitVec.ofNat 48 (bits w0.data 63 32)) blocks
      let a := asked.drive z.drive
      let read := (asked.setDrive z.drive { a with fails := 0 }).nvmeComplete z.drive
      let failed : State := (if 3 ≤ a.fails + 1 ∧ a.st ≠ 5 then (asked.setDrive z.drive { a with fails := a.fails + 1, st := 5 }).raise 355 0
        else asked.setDrive z.drive { a with fails := a.fails + 1 }).nvmeComplete z.drive
      (blocks = 0 ∨ 16 < blocks → ∀ r, ∃ status, exec (.hseRead r) s = .next (ended { got.2 with fresh := got.2.fresh + 1 } [] 0 0 status)) ∧
      (1 ≤ blocks → blocks ≤ 16 → away → ∀ r, exec (.hseRead r) s = .next (ended got.2 [] 0 0 2)) ∧
      (1 ≤ blocks → blocks ≤ 16 → ¬ away →
        exec (.hseRead .unavailable) s = .next (ended (asked.nvmeComplete z.drive) [] 0 0 2) ∧
        exec (.hseRead .error) s = .next (ended failed [] 0 0 3) ∧
        exec (.hseRead (.data (0 :: more))) s = .next (ended read [] 0 0 0) ∧
        (1 ≤ len → len ≤ 16 → pl.length = len →
          exec (.hseRead (.data (h :: tw :: pl ++ 0 :: more))) s = .next (if good then
            ended read ({ data := h, tag := Tag.int } :: { data := tw, tag := Tag.int } ::
              (List.range len).map (fun i => { data := pl.getD i 0, tag := BitVec.ofNat 4 (bits tw (4 * i + 3) (4 * i)) })) 1 0 0
            else ended read (List.replicate (len + 2) { data := 0, tag := Tag.poison }) 1 1 0)))))) ∧
  (∀ (s : State) (n : Nat) (zones : List ZoneInfo), n < 16 → s.Initialised →
    let d := s.drive n
    let ctl := Key.hseDrvctl n
    (d.st ≠ 3 → d.st ≠ 4 → (∀ t < 4, (s.tier t).zone = none) →
      exec (.driveRetire n) s = .next (((s.setRf ctl 62 62 1).setDrive n { d with st := 4 }).raise 355 0)) ∧
    (d.st = 3 ∨ d.st = 4 → exec (.driveRetire n) s = .next (s.setRf ctl 62 62 1)) ∧
    (d.st ≠ 0 → d.st ≠ 1 → exec (.driveAttach n zones) s = .next s) ∧
    (d.st = 0 ∨ d.st = 1 → (∀ z ∈ zones, z.header = []) →
      let named := ((s.setRf ctl 63 63 1).setDrive n { st := 1, empty := zones.map (fun z => (z.zslba, z.cap)), tail := d.tail, head := d.head }).nvmeSubmit n 4 0 0
      exec (.driveAttach n zones) s = .next ((named.setDrive n { named.drive n with st := 2 }).raise 355 0)) ∧
    (∀ z i, d.st = 0 ∨ d.st = 1 → zones = [z] → 6 ≤ z.header.length → bits (z.header.headD 0) 63 0 = 0x5A48534500000001 →
      (crc64 (wordsBytes (z.header.take 5))).toNat = bits (z.header.getD 5 0) 63 0 → s.freeZidx = some i →
      (∀ e ∈ s.hse.zones, e.2.drive = n → e.2.zseq ≠ bits (z.header.headD 0) 127 64) →
      let zseq := bits (z.header.headD 0) 127 64
      ∃ y, exec (.driveAttach n zones) s = .next y ∧ (y.drive n).st = 2 ∧ s.hse.zseq ≤ y.hse.zseq ∧ zseq < y.hse.zseq ∧
        tfind y.hse.zones i = some { drive := n, zslba := z.zslba, cap := z.cap, tier := bits (z.header.getD 1 0) 1 0, st := 2,
                                     zseq := zseq, wp := z.blocks, t0 := 0, t1 := 0 }))

/-- While pair operation is on: a HEARTBEAT or TOKEN of a primary makes an undecided member a standby with that epoch; a HELLO or
CLAIM decides by straps, else by the lower serial number; the join timeout makes it a solo primary. Either sets the pair hold by
ROLE and GHOLD and raises source 360. A primary with a higher epoch demotes a member, whose ports end the frame on the line and
send no more: source 367. A standby that met an undecided partner takes its primary's epoch; a standby slews to the primary's NOW
and resynchronises after isolation, its own or its primary's, or a solo period; the primary starts or ends resynchronisation, the
latter once every word is copied. TOKENs keep a member from being lost and isolate a suspicious standby; a TOKEN goes to port 0 by
role, a HELLO, a HEARTBEAT and the answer to a repair request to the link. 200 us of silence raise suspicion; a confirmed loss or
a GIVEUP makes the standby primary with the next epoch, PEER_INHIBIT_N low, TOKENs on every enabled port, ports in STATE 5, no
hold. A GIVEUP to a syncing standby raises source 363. Records are performed in stream order, once, by the secure pair link, with
every chunk initialised; a repair answer that is not POISON rewrites a word not written since (R468, R470, R471, R476, R477, R478,
R479, R480, R483, R484, R485, R487). -/
def Obligations.PairLink : Prop :=
  (∀ (s : State) (serial now : W64) (strap rsync : BitVec 2) (epoch : BitVec 32) (seq p : Nat) (f : RFrame),
    s.rb Key.pairCtl 63 = true → p < 8 → badHdr f.hdr = false → bits f.hdr 7 0 = 14 →
    let r := s.pair
    let ns := s.cio.now / 2 ^ 32 % 2 ^ 64
    let top : BitVec 32 := if r.seen < epoch then epoch else r.seen
    let heard : State := { s with pair := { r with lastRx := ns, suspect := false } }
    let kind := bits f.hdr 113 112
    let fe := BitVec.ofNat 32 (bits f.hdr 111 80)
    let ftop : BitVec 32 := if r.seen < fe then fe else r.seen
    let word := f.payload.headD 0
    let told (y : State) (src v : Nat) : Prop := s.rf (Key.evrBind src) 35 32 ≠ 0 → tfind y.evPend src = some (BitVec.ofNat 128 v)
    let becomes (o : Out) (role sync : Nat) (e : BitVec 32) : Prop :=
      ∃ y, o = .next y ∧ y.pair.role = role ∧ y.pair.sync = sync ∧ y.pair.epoch = e ∧ y.mem = s.mem ∧
        y.cio.pairHold = (s.rb Key.pairCtl 61 && role != 1) ∧ told y 360 (role + e.toNat * 2 ^ 32) ∧
        (role = 1 → ∀ m < 8, (s.port m).link = true → (s.port m).st = 1 → (y.port m).st = 2)
    let quiet (y : State) : Prop := ∀ m < 8, (y.port m).tx = if (s.port m).txBytes = 0 then [] else (s.port m).tx.take 1
    let primary (sn : W64) (st : BitVec 2) : Prop :=
      (r.strap = 1 ∧ st = 2) ∨ (¬ (r.strap = 2 ∧ st = 1) ∧ s.keyw.serial < sn)
    (r.role = 0 →
      (primary serial strap → becomes (exec (.hello serial strap epoch) s) 1 1 (top + 1)) ∧
      (¬ primary serial strap → becomes (exec (.hello serial strap epoch) s) 2 1 (top + 1)) ∧
      becomes (exec .joinTimeout s) 1 0 (r.seen + 1) ∧
      becomes (exec (.heartbeat 1 rsync epoch now seq) s) 2 1 epoch ∧
      (kind = 0 → becomes (exec (.token p f) s) 2 1 fe) ∧
      (kind = 2 →
        let sn := BitVec.ofNat 64 (bits word 63 0)
        let st := BitVec.ofNat 2 (bits word 65 64)
        (primary sn st → becomes (exec (.token p f) s) 1 1 (ftop + 1)) ∧
        (¬ primary sn st → becomes (exec (.token p f) s) 2 1 (ftop + 1)))) ∧
    (r.role ≠ 0 → exec (.hello serial strap epoch) s = .next { heard with pair := { heard.pair with peer := serial, seen := top } }) ∧
    (r.role = 2 → r.adopts = true → ∃ y, exec (.heartbeat 1 rsync epoch now seq) s = .next y ∧ y.pair.epoch = epoch ∧ y.pair.adopts = false ∧
      y.pair.role = 2 ∧ y.pair.seen = top ∧ y.mem = s.mem) ∧
    (r.role = 1 ∨ (r.role = 2 ∧ r.adopts = false) →
      (r.epoch < epoch → becomes (exec (.heartbeat 1 rsync epoch now seq) s) 3 r.sync r.epoch ∧
        ∃ y, exec (.heartbeat 1 rsync epoch now seq) s = .next y ∧ y.pair.sendQ = [] ∧ y.pair.seen = top ∧
          y.pair.ctlQ = r.ctlQ ++ [.giveup r.epoch] ∧ quiet y ∧
          told y 367 (epoch.toNat * 2 ^ 32)) ∧
      (kind = 0 → r.epoch < fe → becomes (exec (.token p f) s) 3 r.sync r.epoch ∧
        ∃ y, exec (.token p f) s = .next y ∧ y.pair.sendQ = [] ∧ y.pair.seen = ftop ∧ quiet y ∧ told y 367 (fe.toNat * 2 ^ 32))) ∧
    (r.role = 2 → r.adopts = false → ¬ r.epoch < epoch →
      let v : State := if r.sync = 3 ∨ (r.sync = 2 ∧ (rsync = 0 ∨ rsync = 3)) then
        { heard with pair := { heard.pair with sync := 1, copyArea := 0, copyAddr := 0, copyWords := 0, copied := false } } else heard
      ∃ y, exec (.heartbeat 1 rsync epoch now seq) s = .next y ∧ y.pair = v.pair ∧
        (s.rb Key.pairCtl 62 = false → y = v) ∧
        (s.rb Key.pairCtl 62 = true →
          let ofs : BitVec 40 := (now - BitVec.ofNat 64 ns).setWidth 40
          y.cio = { s.cio with slew := ofs.toInt * 2 ^ 32 } ∧ y.rf Key.cioTbSlew 39 0 = ofs.toNat ∧
          y.rb Key.cioTbSlew 63 = decide (ofs ≠ 0))) ∧
    (r.role = 1 →
      (r.sync = 0 ∨ r.sync = 3 → exec (.heartbeat 2 rsync epoch now seq) s =
        .next { heard with pair := { heard.pair with sync := 1, copyArea := 0, copyAddr := 0, copyWords := 0, copied := false } }) ∧
      (r.sync = 1 → rsync = 2 → s.copyDone = true → exec (.heartbeat 2 rsync epoch now seq) s =
        .next ({ heard with pair := { heard.pair with sync := 2, peerInh := false } }.raise 364 0)) ∧
      (r.sync = 2 ∨ (r.sync = 1 ∧ (rsync ≠ 2 ∨ s.copyDone = false)) → exec (.heartbeat 2 rsync epoch now seq) s = .next heard) ∧
      (kind = 1 → exec (.token 0 f) s = .next { s with pair := { r with lastTok := some ns } })) ∧
    (r.role = 2 → r.adopts = false → kind = 0 → fe = r.epoch →
      let v : State := { s with pair := { r with lastTok := some ns } }
      exec (.token 0 f) s = .next (if r.suspect = true ∧ r.sync ≠ 3 then
        { v with pair := { v.pair with sync := 3, sendQ := [] } }.raise 363 3 else v)) ∧
    (r.role = 3 → exec (.token p f) s = .next s ∧ exec (.heartbeat 1 rsync epoch now seq) s = .next heard)) ∧
  (∀ (s : State), s.rb Key.pairCtl 63 = true →
    let r := s.pair
    let ns := s.cio.now / 2 ^ 32 % 2 ^ 64
    let recent : Prop := ∃ t, r.lastTok = some t ∧ ns < t + 150000
    let me : Data := BitVec.ofNat 128 (s.keyw.serial.toNat + r.strap.toNat * 2 ^ 64)
    let frame (e kind : Nat) : TxFrame := { f := { hdr := rHdr 14 3 0xFF 0 1 0 (e + kind * 2 ^ 32), payload := [me] }, cut := false }
    let onPort0 (u : State) (kind : Nat) : State := if (s.port 0).link = true then
      u.setPort 0 { s.port 0 with tx := (s.port 0).tx ++ [frame r.epoch.toNat kind] } else u
    let said (x : PairFrame) : State := { s with pair := { r with ctlQ := r.ctlQ ++ [x] } }
    let hello : State := said (.hello s.keyw.serial r.strap r.epoch)
    let told (y : State) (src v : Nat) : Prop := s.rf (Key.evrBind src) 35 32 ≠ 0 → tfind y.evPend src = some (BitVec.ofNat 128 v)
    let took (o : Out) (giveup : Nat) : Prop :=
      ∃ y, o = .next y ∧ y.pair.role = 1 ∧ y.pair.sync = 0 ∧ y.pair.epoch = r.epoch + 1 ∧ y.pair.seen = r.epoch + 1 ∧
        y.pair.peerInh = true ∧ y.pair.sendQ = [] ∧ y.cio.pairHold = false ∧ y.mem = s.mem ∧
        told y 360 (1 + (r.epoch + 1).toNat * 2 ^ 32) ∧ told y 362 (ns % 2 ^ 32 + giveup * 2 ^ 32) ∧ told y 363 0 ∧
        ∀ p < 8, (s.rb (Key.rlkCtl p) 63 = false → y.port p = s.port p) ∧
          (s.rb (Key.rlkCtl p) 63 = true → (y.port p).st = 5 ∧ (y.port p).service = true ∧
            (y.port p).tx = (s.port p).tx ++ (if (s.port p).link = true then [frame (r.epoch + 1).toNat 0] else []) ∧
            ∀ n < 3, (y.port p).class n = { nextK := ((s.port p).class n).nextK, seq := ((s.port p).class n).seq })
    (r.role = 0 → exec .helloSend s = .next (if s.cio.inhBdg = true then hello else onPort0 hello 2)) ∧
    (r.role = 1 → s.cio.inhBdg = false → exec .tokenSend s = .next (onPort0 s 0)) ∧
    (r.role = 2 → s.cio.inhBdg = false → exec .tokenSend s = .next (onPort0 s 1)) ∧
    exec .pairHeartbeatSend s = .next (if s.cio.inhBdg = true then s else said (.heartbeat r.role r.sync r.epoch ns r.sendSeq)) ∧
    exec .pairLinkUp s = .next { s with pair := { r with link := true } } ∧
    exec .pairLinkDown s = .next { s with pair := { r with link := false } } ∧
    exec .pairFrameCrcError s = .next ((s.count Key.pairCnt 31 0 1).raise 366 2) ∧
    exec .sendQueueStall s = .next (if r.used + 2 ≤ 512 then s else s.raise 366 1) ∧
    (ns < r.lastRx + 200000 → exec .partnerSuspect s = .next s) ∧
    (r.suspect = false → r.lastRx + 200000 ≤ ns →
      let v := { s with pair := { r with suspect := true } }.raise 361 (BitVec.ofNat 128 (r.lastRx % 2 ^ 32))
      (r.role = 1 → r.sync = 1 ∨ r.sync = 2 →
        (recent → exec .partnerSuspect s = .next ({ v with pair := { v.pair with sync := 3, sendQ := [] } }.raise 363 3)) ∧
        (¬ recent → exec .partnerSuspect s = .next ({ v with pair := { v.pair with sync := 0, sendQ := [] } }.raise 363 0))) ∧
      (r.role = 2 → exec .partnerSuspect s = .next (if r.sync = 1 then v.raise 363 1 else v))) ∧
    (r.role = 2 → r.sync = 2 →
      (r.suspect = true → ¬ recent → took (exec .lossConfirm s) 0) ∧ (recent → exec .lossConfirm s = .next s) ∧
      ∀ e, took (exec (.giveup e) s) 1) ∧
    (∀ e : BitVec 32, let v : State := { s with pair := { r with lastRx := ns, suspect := false, seen := if r.seen < e then e else r.seen } }
      (r.role ≠ 2 ∨ (r.sync ≠ 1 ∧ r.sync ≠ 2) → exec (.giveup e) s = .next v) ∧
      (r.role = 2 → r.sync = 1 → exec (.giveup e) s = .next (v.raise 363 1))) ∧
    (let synced : State := { s with pair := { r with sync := 2, peerInh := false } }.raise 364 0
     (r.sync = 1 → r.role = 2 → exec .standbyReady s = .next
       (if s.rb Key.pairCtl 60 = true ∧ s.copiedHere = true ∧ s.regionsWait = none then synced else s)) ∧
     (r.sync = 1 → r.role = 1 → exec .standbyReady s = .next (if s.copyDone = true ∧ s.regionsWait = none then synced else s)))) ∧
  (∀ (s : State) (seq p : Nat) (pa : Addr) (w : TWord) (f : RFrame) (arrival : W64), s.Initialised → s.rb Key.pairCtl 63 = true → p < 8 →
    let r := s.pair
    let ns := s.cio.now / 2 ^ 32 % 2 ^ 64
    let heard : State := { s with pair := { r with lastRx := ns, suspect := false } }
    let u : State := { heard with pair := { heard.pair with recvSeq := seq } }
    let x := s.port p
    let n := bits f.hdr 9 8
    let k := x.class n
    let c := bits f.hdr 23 16
    let base := pa.toNat / 16 * 16
    (seq ≤ r.recvSeq ∨ r.role ≠ 2 → ∀ d, ∀ i ∈ [.mirror seq pa w, .copy seq pa w, .framecopy seq p f arrival, .portrec seq p d],
      exec i s = .next heard) ∧
    (r.recvSeq < seq → r.role = 2 → r.sync = 1 ∨ r.sync = 2 →
      exec (.mirror seq pa w) s = .next (u.dmaSet .pairLink base w) ∧
      (let v : State := (if r.sync = 2 then
          { u with pair := { u.pair with sync := 1, copyArea := 0, copyAddr := 0, copyWords := 0, copied := false } } else u).dmaSet .pairLink base w
       exec (.copy seq pa w) s = .next (if v.lastCopy = some base then { v with pair := { v.pair with copied := true } } else v)) ∧
      (∀ m q stamp, m < 3 → ∃ y, exec (.portrec seq p (.cycleStart m q stamp)) s = .next y ∧ ((y.port p).class m).seq = q ∧
        ((y.port p).class m).nextK = some (q + 1)) ∧
      (s.region base = .dram → s.sett.c4 = false → (DmaAgent.pairLink, base / 16) ∉ s.dmaLate → ∃ y, exec (.mirror seq pa w) s = .next y ∧ y.visWord base = w ∧
        (r.repairs = [] → y.pair = u.pair)) ∧
      (bits f.hdr 7 0 = 4 → n < 3 → k.phase = .output → c ∈ k.waiting → bits f.hdr 79 64 = k.seq % 65536 →
        k.waiting.filter (fun m => m != c) ≠ [] → exec (.framecopy seq p f arrival) s =
          .next (u.setCls p n { k with waiting := k.waiting.filter (fun m => m != c) })) ∧
      (∀ d conc, exec (.portrec seq p (.hold d conc)) s = .next ((u.count (Key.rlkDrop p) 47 32 1).raise (207 + 8 * p) (2 ^ 4))) ∧
      (∀ m, exec (.portrec seq p (.discovered m)) s =
        .next ((u.setPort p { x with nconc := m }).raise (206 + 8 * p) (BitVec.ofNat 128 (m * 2 ^ 8)))) ∧
      (∀ m serial rtd,
        let v := u.rTouch p (u.dirAddr (dirIndex p m 0)) 1
        let d := (v.rGet p (v.dirAddr (dirIndex p m 0))).data
        bits d 63 62 = 0 ∨ bits d 31 0 = serial.toNat → exec (.portrec seq p (.found m serial rtd)) s =
          .next (v.setPort p ({ x with nconc := m, dirc := max x.dirc m, rtd := rtd, disc := none }.setConc m
            { serial := serial, keep := decide (bits d 63 62 ≠ 0) }))) ∧
      (∀ m, ∃ y, exec (.portrec seq p (.silent m)) s = .next y ∧ ((y.port p).conc m).rejected = true) ∧
      exec (.portrec seq p (.portState 3)) s = .next (u.setPort p { x with st := 3 }))) ∧
  (∀ (s : State) (pa : Addr) (w : TWord), s.rb Key.pairCtl 63 = true →
    let r := s.pair
    let ns := s.cio.now / 2 ^ 32 % 2 ^ 64
    let a := pa.toNat / 16 * 16
    let heard : State := { s with pair := { r with lastRx := ns, suspect := false } }
    let less (v : State) : State := { v with pair := { v.pair with repairs := r.repairs.filter (fun e => e.1 != a) } }
    let first := r.repairs.find? (fun e => e.1 == a)
    (s.Initialised → let got := heard.dmaRead .pairLink a
      exec (.repairq pa) s = .next (match got.1 with
        | some x => { got.2 with pair := { got.2.pair with ctlQ := got.2.pair.ctlQ ++ [.repaira a x] } }
        | none => got.2)) ∧
    (first = none → exec (.repaira pa w) s = .next (heard.count Key.pairLate 31 0 1) ∧ exec (.repairTimeout pa) s = .next s) ∧
    (∀ b, first = some (a, b) →
      exec (.repairTimeout pa) s = .next ((less s).raise 365 (BitVec.ofNat 128 a)) ∧
      (w.tag = Tag.poison ∨ b = true → exec (.repaira pa w) s =
        .next (((less heard).count Key.pairCnt 47 32 1).raise 365 (BitVec.ofNat 128 a))) ∧
      (w.tag ≠ Tag.poison → b = false →
        exec (.repaira pa w) s = .next ((((less heard).homeMerge a 0xFFFF w.data w.tag).count Key.pairCnt 63 48 1).raise 365
          (BitVec.ofNat 128 (a + 1))))))

/-- When it is a queue's turn, the engine takes its next FULL descriptor: POISON or a refused word of the descriptor ends it,
unnamed bits or a bad length end it with BADDESC, sealed output or a write of a secure slot from a normal queue with PRIV, a slot
that lacks the key with KEY, a spent nonce counter with KEY_EXHAUSTED or NRES; else the job runs with its key, a GCM-ENC after
writing its IV and advancing NCTR; where the chosen queue was disabled, the queue picked in its place starts. A job's end writes
word 3, empties word 0, moves to the next entry, or leaves a queue enabled anew at its own, and raises the queue's source, which a
GCM-ENC that leaves few nonces marks. A unit that ends writes its output: a digest, CTR data, a verify's outcome, a key in its
slot; source words with POISON, a forbidden tag or a refused access, which is logged, end the job. At the deadline it ends with
TIMEOUT. The next unit is chosen among secure queues first, in order after the last. CRY_KWORLD clears slots that change world,
CRY_KNRES takes whole blocks. With every chunk initialised. Orders of refusals: log 52; standards: log 30 (R500, R501, R502, R503,
R504, R505, R506, R507, R508, R509, R510, R512). -/
def Obligations.CryptoJobs : Prop :=
  (∀ (s : State) (q : Nat) (w0 w1 w2 : Data), q < 8 → s.Initialised →
    let sec := decide (4 ≤ q)
    let ring := if 4 ≤ q then Key.cryQs (q - 4) else Key.cryQn q
    let i := (s.cryQ q).next
    let size := 2 ^ s.rf ring 63 60
    let a := s.rf ring 47 6 * 64 + 64 * i
    let slot := bits w0 13 8
    let len := bits w0 63 24
    let alg := bits w2 43 40
    let slot2 := bits w2 37 32
    let k := s.keySlot slot
    let odd : Prop := bits w0 15 14 ≠ 0 ∨ bits w0 23 17 ≠ 0 ∨ bits w0 127 112 ≠ 0 ∨ bits w1 63 48 ≠ 0 ∨ bits w1 67 64 ≠ 0 ∨
      bits w1 127 112 ≠ 0 ∨ bits w2 39 38 ≠ 0 ∨ bits w2 127 44 ≠ 0
    let badLen (op : Nat) : Prop := (op = 0x10 ∨ op = 0x11) ∧ len ≠ 48 ∨ (op = 0x19 ∨ op = 0x1A) ∧ len ≠ 1568 ∨
      op = 0x20 ∧ (if slot = 63 then len ≠ 0 else ¬ (alg = 1 ∧ len = 16 ∨ alg = 2 ∧ len = 32 ∨ alg = 3 ∧ len = 48 ∨ alg = 4 ∧ len = 4896 ∨
        alg = 5 ∧ len = 3168))
    let target (op : Nat) : Option Nat := if op ∈ [0x12, 0x16, 0x18, 0x20, 0x21] then some slot
      else if op ∈ [0x19, 0x1A] then some slot2 else none
    let secure (n : Nat) : Prop := s.rb Key.cryKworld n = true
    let priv (op : Nat) : Prop := sec = false ∧ (bits w0 16 16 = 1 ∨ ∃ n ∈ (target op).toList, secure n ∨ n = 63)
    let wants (op : Nat) : List Nat := if op ∈ [1, 2, 3, 4] then [1, 2] else if op = 0x10 then [3] else if op = 0x14 then [4]
      else if op = 0x1A then [5] else []
    let huk : Prop := (s.boot.lcEarly = 1 ∨ s.boot.lcEarly = 2) ∧ (s.boot.lcLate = 1 ∨ s.boot.lcLate = 2) ∧ s.keyw.huk.isSome = true
    let noKey (op : Nat) : Prop := (target op = some 63 ∧ op ≠ 0x20 ∧ op ≠ 0x21) ∨ (op = 0x20 ∧ slot = 63 ∧ ¬ huk) ∨
      (wants op ≠ [] ∧ (k.alg ∉ wants op ∨ (sec = false ∧ secure slot)))
    let v : State := { s.spanSnoop a 48 with cry := if 4 ≤ q then { s.cry with chosen := none, lastS := q } else { s.cry with chosen := none, lastN := q } }
    let ended (v : State) (status : Nat) (n : W64) : State :=
      let low := if bits w0 7 0 = 1 ∧ k.nres.toNat ≤ k.nctr.toNat + 2 ^ 15 then 1 else 0
      let w3 : Data := BitVec.ofNat 128 (status + n.toNat * 2 ^ 64)
      let u := (v.dmaSet (.crypto q) (a + 48) { data := w3, tag := Tag.bits }).dmaSet (.crypto q) a { data := w0, tag := Tag.empty }
      ({ u.setCryQ q { next := (i + 1) % size, job := none } with fresh := s.fresh + 1 }).raise (368 + q)
        (BitVec.ofNat 128 (i + status * 2 ^ 12 + low * 2 ^ 24 + slot * 2 ^ 32))
    let job : CryJob := { idx := i, desc := a, w0 := w0, w1 := w1, w2 := w2, key := k.key }
    let runs (v : State) (j : CryJob) : State :=
      let u := v.setCryQ q { v.cryQ q with job := some j }
      { u with cry := { u.cry with run := some q } }
    s.rb ring 59 = true → (s.cryQ q).job = none → s.cry.run = none →
    (s.cry.chosen = some q ∨ ∃ p < 8, s.cry.chosen = some p ∧ s.rb (if 4 ≤ p then Key.cryQs (p - 4) else Key.cryQn p) 59 = false ∧ s.cryPick = some q) →
    ∀ g1 g2 : Tag, s.dmaGet (.crypto q) a = some { data := w0, tag := Tag.full } →
    let has (o : Nat) (w : TWord) : Prop := s.dmaGet (.crypto q) (a + o) = some w
    let lacks (o : Nat) : Prop := s.dmaGet (.crypto q) (a + o) = none
    let both : Prop := has 16 { data := w1, tag := g1 } ∧ has 32 { data := w2, tag := g2 }
    (∀ c ∈ [(Instr.gcmEnc q, 0x01), (.gcmDec q, 0x02), (.ctr q, 0x03), (.cmac q, 0x04), (.sha256 q, 0x08), (.sha384 q, 0x09),
        (.sha512 q, 0x0A), (.sha3256 q, 0x0C), (.sha3384 q, 0x0D), (.sha3512 q, 0x0E), (.ecdsaSign q, 0x10), (.ecdsaVerify q, 0x11),
        (.ecdsaKeygen q, 0x12), (.mldsaSign q, 0x14), (.mldsaVerify q, 0x15), (.mldsaKeygen q, 0x16), (.mlkemKeygen q, 0x18),
        (.mlkemEncaps q, 0x19), (.mlkemDecaps q, 0x1A), (.keyload q, 0x20), (.keyclr q, 0x21), (.trng q, 0x28)],
      (bits w0 7 0 ≠ c.2 → exec c.1 s = .next s) ∧
      (bits w0 7 0 = c.2 → lacks 16 ∨ lacks 32 → ∃ n, exec c.1 s = .next (ended v 7 n).cryChoose) ∧
      (bits w0 7 0 = c.2 → both → g1 = Tag.poison ∨ g2 = Tag.poison → ∃ n, exec c.1 s = .next (ended v 5 n).cryChoose) ∧
      (bits w0 7 0 = c.2 → both → g1 ≠ Tag.poison → g2 ≠ Tag.poison →
        (odd ∨ badLen c.2 → ∃ n, exec c.1 s = .next (ended v 9 n).cryChoose) ∧
        (¬ odd → ¬ badLen c.2 → priv c.2 → ∃ n, exec c.1 s = .next (ended v 0xA n).cryChoose) ∧
        (¬ odd → ¬ badLen c.2 → ¬ priv c.2 → noKey c.2 → ∃ n, exec c.1 s = .next (ended v 2 n).cryChoose) ∧
        (¬ odd → ¬ badLen c.2 → ¬ priv c.2 → ¬ noKey c.2 →
          (c.2 ≠ 1 → exec c.1 s = .next (runs v job)) ∧
          (c.2 = 1 → k.exh = true ∨ k.nctr = 0xFFFFFFFFFFFFFFFF →
            ∃ n, exec c.1 s = .next (ended (v.setKeySlot slot { k with exh := true }) 3 n).cryChoose) ∧
          (c.2 = 1 → k.exh = false → k.nctr ≠ 0xFFFFFFFFFFFFFFFF → k.nctr = k.nres → ∃ n, exec c.1 s = .next (ended v 4 n).cryChoose) ∧
          (c.2 = 1 → k.exh = false → k.nctr ≠ 0xFFFFFFFFFFFFFFFF → k.nctr ≠ k.nres →
            let iv : BitVec 96 := k.fixed ++ k.nctr
            let ivWord : TWord := { data := iv.setWidth 128, tag := if bits w0 16 16 = 1 then Tag.sealed else Tag.bits }
            let ivBytes := (List.range 12).map (fun b => iv.extractLsb' (88 - 8 * b) 8)
            let put := v.dmaPut (.crypto q) (bits w1 111 64) 0x0FFF ivWord
            (put = none → ∃ n, exec c.1 s = .next (ended v 7 n).cryChoose) ∧ ∀ u, put = some u →
              exec c.1 s = .next (runs (u.setKeySlot slot { k with nctr := k.nctr + 1 })
                { job with iv := ivBytes, nonce := some k.nctr })))))) ∧
  (∀ (s : State) (q : Nat) (j : CryJob), q < 8 → s.Initialised → s.cry.run = some q → (s.cryQ q).job = some j →
    let sec := decide (4 ≤ q)
    let ring := if 4 ≤ q then Key.cryQs (q - 4) else Key.cryQn q
    let a := j.desc
    let op := bits j.w0 7 0
    let slot := bits j.w0 13 8
    let len := bits j.w0 63 24
    let src := bits j.w0 111 64
    let dst := bits j.w1 47 0
    let aux := bits j.w1 111 64
    let tag := if bits j.w0 16 16 = 1 then Tag.sealed else Tag.bits
    let k := s.keySlot slot
    let ended (v : State) (status count : Nat) (n : W64) : State :=
      let w3 : Data := BitVec.ofNat 128 (status + count % 2 ^ 40 * 2 ^ 24 + n.toNat * 2 ^ 64)
      let u := (v.dmaSet (.crypto q) (a + 48) { data := w3, tag := Tag.bits }).dmaSet (.crypto q) a { data := j.w0, tag := Tag.empty }
      ({ u.setCryQ q { next := if j.stale = true then (v.cryQ q).next else (j.idx + 1) % 2 ^ s.rf ring 63 60, job := none } with fresh := v.fresh + 1 }).raise (368 + q)
        (BitVec.ofNat 128 (j.idx + status * 2 ^ 12 + slot * 2 ^ 32))
    (op ≠ 1 → ∃ n, exec .cryptoUnitTimeout s = .next (((ended s 8 j.done n).raise 404 0).cryChoose)) ∧
    let r : State := (j.readSpans.foldl (fun u x => u.spanSnoop x.1 x.2) s).cryLog q j
    (j.units = 0 → j.done = 0 → j.src = [] → j.nonce = none → op ≠ 1 →
      let n := if op ∈ [3, 8, 9, 0xA, 0xC, 0xD, 0xE] then min 65536 len else len
      let read (ws : List TWord) : List Byte := ((ws.flatMap (fun w => wordBytes w.data)).drop (src % 16)).take n
      let usable (ws : List TWord) : Prop := ∀ w ∈ ws, w.tag ≠ Tag.poison ∧ w.tag ≠ Tag.uninit ∧ (w.tag = Tag.sealed → sec = true)
      (op ∈ [3, 8, 9, 0xA, 0xC, 0xD, 0xE, 0x10, 0x11, 0x19, 0x1A, 0x20] →
        (r.worldSpan sec src n = none → ∃ m, exec .cryptoUnitEnd s = .next (ended r 7 0 m).cryChoose) ∧
        ∀ ws, r.worldSpan sec src n = some ws →
          ((∃ w ∈ ws, w.tag = Tag.poison) → ∃ m, exec .cryptoUnitEnd s = .next (ended r 5 0 m).cryChoose) ∧
          ((∀ w ∈ ws, w.tag ≠ Tag.poison) → ¬ usable ws → ∃ m, exec .cryptoUnitEnd s = .next (ended r 6 0 m).cryChoose) ∧
          (usable ws →
            (op ∈ [8, 9, 0xA, 0xC, 0xD, 0xE] → len ≤ 65536 →
              ∀ u, r.cryPut sec dst (Config.digest op (read ws)) tag = some u →
                ∃ m, exec .cryptoUnitEnd s = .next (ended u 0 len m).cryChoose) ∧
            (op ∈ [8, 9, 0xA, 0xC, 0xD, 0xE] → 65536 < len → ∃ y, exec .cryptoUnitEnd s = .next y ∧
              y = (r.setCryQ q { s.cryQ q with job := some { j with src := read ws, done := 65536, units := 1 } }).cryChoose) ∧
            (op = 3 → len ≤ 65536 → ∀ cw, r.worldSpan sec aux 16 = some [cw] → cw.tag ∈ [Tag.bits, Tag.int] → aux % 16 = 0 →
              let block (b : Nat) : Nat := (((wordBytes cw.data).foldl (fun x y => x * 256 + y.toNat) 0) + b) % 2 ^ 128
              let cipher (b : Nat) : Byte := ((Config.aesEncrypt j.key (BitVec.ofNat 128 (block (b / 16)))) >>> (120 - 8 * (b % 16))).setWidth 8
              ∀ u, r.cryPut sec dst ((List.range len).map (fun b => (read ws).getD b 0 ^^^ cipher b)) tag = some u →
                ∃ m, exec .cryptoUnitEnd s = .next (ended u 0 len m).cryChoose) ∧
            (op = 0x10 → ∀ u, ({ r with fresh := s.fresh + 1 }).cryPut sec dst (Config.ecdsaSign j.key (read ws) (Config.random s.fresh)) tag = some u →
              ∃ m, exec .cryptoUnitEnd s = .next (ended u 0 len m).cryChoose) ∧
            (op = 0x11 → ∀ sig pub : List Byte, r.auxRead sec j 0 96 = .ok sig → r.auxRead sec j 96 96 = .ok pub →
              ∃ m, exec .cryptoUnitEnd s = .next (ended r (if Config.ecdsaVerify pub (read ws) sig = true then 0 else 1) len m).cryChoose) ∧
            (op = 0x1A → ∃ m, exec .cryptoUnitEnd s = .next (ended (r.setKeySlot (bits j.w2 37 32)
              { s.keySlot (bits j.w2 37 32) with alg := 2, key := Config.mlkemDecaps j.key (read ws) }) 0 len m).cryChoose) ∧
            (op = 0x20 → slot ≠ 63 → bits j.w2 43 40 ∈ [3, 4, 5] → ∃ m, exec .cryptoUnitEnd s = .next
              (ended (r.setKeySlot slot { alg := bits j.w2 43 40, key := read ws }) 0 len m).cryChoose) ∧
            (op = 0x20 → slot ≠ 63 → bits j.w2 43 40 ∈ [1, 2] → ∀ cw, r.worldSpan sec aux 16 = some [cw] → cw.tag ∈ [Tag.bits, Tag.int] →
              aux % 16 = 0 →
              let start : W64 := BitVec.ofNat 64 (bits cw.data 127 64)
              let loaded : KeySlot :=
                let f : BitVec 32 := BitVec.ofNat 32 (bits cw.data 31 0)
                { alg := bits j.w2 43 40, key := read ws, fixed := f, nctr := start, nres := start }
              ∃ m, exec .cryptoUnitEnd s = .next (ended (r.setKeySlot slot loaded) 0 len m).cryChoose))) ∧
      (op = 0x21 → ∃ m, exec .cryptoUnitEnd s = .next (ended (r.setKeySlot slot {}) 0 0 m).cryChoose) ∧
      (op = 0x12 → ∀ u, (({ r with fresh := s.fresh + 1 }).setKeySlot slot { k with alg := 3, key := (Config.ecdsaKeygen (Config.random s.fresh)).1 }).cryPut
          sec dst (Config.ecdsaKeygen (Config.random s.fresh)).2 tag = some u →
        ∃ m, exec .cryptoUnitEnd s = .next (ended u 0 0 m).cryChoose))) ∧
  (∀ (s : State) (q : Nat), q < 8 → s.cry.run = some q → (s.cryQ q).job = none →
    let work (m : Nat) : Prop := (s.cryQ m).job.isSome = true ∨
      (let ring := if 4 ≤ m then Key.cryQs (m - 4) else Key.cryQn m
       s.rb ring 59 = true ∧ ∃ w, s.dmaGet (.crypto m) (s.rf ring 47 6 * 64 + 64 * (s.cryQ m).next) = some w ∧ w.tag = Tag.full)
    let turn (last m : Nat) : Nat := (m + 3 - last % 4) % 4
    let chosen (m : Nat) (y : State) : Prop := if (s.cryQ m).job.isSome = true then y.cry.run = some m else y.cry.run = none ∧ y.cry.chosen = some m
    ∃ y, exec .cryptoUnitEnd s = .next y ∧ y.cry.qs = s.cry.qs ∧ y.cry.slots = s.cry.slots ∧ y.mem = s.mem ∧
      (∀ m < 8, 4 ≤ m → work m → (∀ o < 8, 4 ≤ o → work o → turn s.cry.lastS m ≤ turn s.cry.lastS o) → chosen m y) ∧
      (∀ m < 4, (∀ o < 8, 4 ≤ o → ¬ work o) → work m → (∀ o < 4, work o → turn s.cry.lastN m ≤ turn s.cry.lastN o) → chosen m y) ∧
      ((∀ o < 8, ¬ work o) → y.cry.run = none)) ∧
  (∀ (s : State) (w : Writer) (n : Nat) (v : W64), n < 64 →
    (w.secure = true → w.lvl = 3 → ∃ y, exec (.cryKworldWrite w v) s = .next y ∧ y.reg Key.cryKworld = v ∧ y.mem = s.mem ∧
      y.keySlot n = if v.getLsbD n = (s.reg Key.cryKworld).getLsbD n then s.keySlot n else {}) ∧
    (w.secure = false ∨ w.lvl ≠ 3 → exec (.cryKworldWrite w v) s = .next s) ∧
    (w.secure = true ∨ s.rb Key.cryKworld n = false →
      exec (.cryKnresWrite w n v) s = .next (if ∃ b, b < 2 ^ 48 ∧ v.toNat = (s.keySlot n).nres.toNat + (b + 1) * 2 ^ 16 then
        s.setKeySlot n { s.keySlot n with nres := v } else s)) ∧
    (w.secure = false → s.rb Key.cryKworld n = true → exec (.cryKnresWrite w n v) s = .next s))

/-- Each cause of device reset puts every block at its reset value, but for the always-on items, Keyward, the queue and the balls;
when the last cause has ended, the exit records the causes and samples the straps. An image copy is loaded from flash, checked in
the order of R538 with its code recorded, and passes to BIST; a failure goes to copy B, then to the recovery wait, where bytes can
be written over the endpoint's link and checked. After BIST or a stamp step 6 releases core 0.0 at the image's entry, unless
SHUTDOWN holds it; training that finds four channels populated alike ends step 8; CORE_RELEASE starts further cores at SYS_RELVEC.
The monitor alone moves secure windows within SECMEM, and eviction leaves no copy of their lines in a normal way. A debugger of an
open world stops, starts, reads and writes its threads, but for those of a FENCED core or of an unpowered cluster, and its memory,
but for what gives an error response; a core wakes for a thread it starts. EXTEST, CLAMP and HIGHZ need scan and RST_N low. A
reset that cuts a KEY_UPDATE leaves at most its own row or an incomplete commit entry behind (log 99). A step on an empty queue is
40 ns of always-on time (log 6); a short RST_N pulse is open (log 34) (R491, R492, R493, R521, R522, R526, R527, R529, R530, R538,
R543, R545). -/
def Obligations.ResetBootAndDebug : Prop :=
  (∀ (s : State) (ns phase : Nat),
    let io : Cio := { inhBdg := true, pinLow := s.cio.pinLow, fltLow := s.cio.fltLow, inhPin := s.cio.pinLow, utrip := s.cio.fltLow }
    let at0 : State := { State.reset with pending := s.pending, fresh := s.fresh, keyw := s.keyw, regs := [], cio := io, boot := { shut := s.boot.shut } }
    let cuts (i : Nat) : Prop := ∃ e ∈ s.sett.mb, ∃ l ∈ e.2.long.toList, l.opc = 0x40 ∧ l.status = 0 ∧ l.arg = i
    let low : AlwaysOn := { s.aon with rstLow := true, rstNs := if s.aon.rstLow = true then s.aon.rstNs else 0 }
    let held (c : BitVec 6) (a : AlwaysOn) : State := { at0 with aon := { a with inReset := true, held := s.aon.held ||| c } }
    (s.aon.aon = true → exec .pwrgoodRise s = .next { s with aon := { s.aon with pwrgood := true } }) ∧
    (ns < 100 → exec (.rstNAssert ns) s = .next s) ∧
    ((∀ i, ¬ cuts i) →
      exec .pwrgoodFall s = .next { held 1 { s.aon with pwrgood := false, rstNs := 0 } with boot := {} } ∧
      (1000 ≤ ns → exec (.rstNAssert ns) s = .next (held 2 low)) ∧
      (100 ≤ ns → ns < 1000 → exec (.rstNAssert ns) s = .next { s with fresh := s.fresh + 1 } ∨
        exec (.rstNAssert ns) s = .next { held 2 low with fresh := s.fresh + 1 }) ∧
      (s.aon.pwrgood = true → exec .brownOut s = .next (held 4 { s.aon with brown := true, cause := s.aon.cause ||| 4 })) ∧
      (s.aon.aon = false → exec .vddAonApply s = .next { held 1 { s.aon with aon := true, pwrgood := false, cause := 1 } with boot := {} }) ∧
      (∃ y, exec .vddAonLoss s = .next y ∧ y.aon.aon = false ∧ y.aon.inReset = true ∧ y.aon.cause = 0 ∧ y.aon.dur = 0 ∧ y.aon.rstNs = 0 ∧
        y.aon.held = (if s.aon.rstLow = true then 3 else 1) ∧ y.aon.stamp = none ∧ y.aon.log = [] ∧ y.aon.flash = s.aon.flash ∧
        { y with aon := s.aon } = { at0 with aon := s.aon, boot := {} }) ∧
      (s.boot.resetDue = true → exec .settDeviceResetStart s = .next (held 8 { s.aon with settHold := true }))) ∧
    (∃ y, exec .pwrgoodFall s = .next y ∧ { y with keyw := s.keyw, fresh := s.fresh } = { held 1 { s.aon with pwrgood := false, rstNs := 0 } with boot := {} } ∧
      (∀ i, ¬ cuts i → (y.keyw.rows.find? (fun e => e.1 == i)) = s.keyw.rows.find? (fun e => e.1 == i)) ∧
      y.keyw.commits.take s.keyw.commits.length = s.keyw.commits ∧ ∀ c ∈ y.keyw.commits.drop s.keyw.commits.length, c.complete = false) ∧
    (s.aon.rstLow = true → s.aon.pwrgood = false →
      exec (.rstNRelease phase) s = .next { s with aon := { s.aon with rstLow := false, rstNs := 0 } }) ∧
    (s.aon.rstLow = true → s.aon.pwrgood = true →
      let periods := (s.aon.rstNs + phase % 30517) * 32768 / 10 ^ 9
      let ms := min (2 ^ 32 - 1) (periods * 1000 / 32768)
      (periods ≤ 983040 →
        exec (.rstNRelease phase) s = .next { s with aon := { s.aon with rstLow := false, rstNs := 0, dur := BitVec.ofNat 32 ms } }) ∧
      (983040 < periods → ∃ y, exec (.rstNRelease phase) s = .next y ∧ y.aon.rstLow = false ∧ y.aon.rstNs = 0 ∧ y.aon.dur.toNat = ms ∧
        y.aon.cause = s.aon.cause ||| 32 ∧ ∃ e, y.aon.log.getLast? = some e ∧ e.code = 0x01 ∧ e.arg = ms ∧ e.seq = s.aon.logSeq)) ∧
    exec .brownOutEnd s = .next { s with aon := { s.aon with brown := false } }) ∧
  (∀ (s : State),
    let a := s.aon
    let ended : Prop := a.inReset = true ∧ a.aon = true ∧ a.pwrgood = true ∧ a.rstLow = false ∧ a.brown = false
    (¬ ended → exec .deviceResetExit s = .next s) ∧
    (ended → s.keyw.rows = [] → s.keyw.commits = [] → s.keyw.intent = none → s.keyw.ctrPart = [] →
      let lc := s.keyw.lcFuses / 4
      let lc1 := (s.keyw.lcFuses + 3) / 4
      ∃ y, exec .deviceResetExit s = .next y ∧ y.aon.inReset = false ∧ y.aon.held = 0 ∧ y.aon.cause = (a.cause ||| a.held) ∧
        y.aon.hist.getLast? = some (a.dur, a.cause ||| a.held) ∧ y.pair.strap = a.pairRole ∧ y.boot.mgmtSpi = a.mgmtSel ∧
        y.boot.lcEarly = lc ∧ y.boot.lcLate = lc1 ∧ y.boot.shut = s.boot.shut ∧ y.aon.exitMs = a.ns / 1000000 % 2 ^ 32 ∧ y.pending = s.pending ∧ y.cores = [] ∧ y.threads = [] ∧ y.mem = { cells := [], tags := [] } ∧
        y.cio.inhBdg = true ∧ y.rf Key.sysBootstat 59 56 = (if lc = 4 ∨ lc1 = 4 then 0xF else if a.bootRcv = true then 0xB else 1)) ∧
    (s.pending = [] → s.aon.inReset = true → step s = .next (if a.aon = true then
      { s with aon := { a with ns := a.ns + 40, rstNs := if a.rstLow = true ∧ a.pwrgood = true then a.rstNs + 40 else a.rstNs } } else s)) ∧
    (s.pending = [] → s.aon.inReset = false → a.aon = true → ∃ y, step s = .next y ∧ y.pending = [] ∧ y.aon.ns = a.ns + 40 ∧ y.aon.cause = a.cause)) ∧
  (∀ (s : State) (ok psd : Bool),
    let ph := s.rf Key.sysBootstat 59 56
    let base := 0x7F0000000000
    let off := s.boot.copy * 0x800000
    let h := (List.range 256).map (fun i => s.aon.flashByte (off + i))
    let le (h : List Byte) (o n : Nat) : Nat := ((List.range n).map (fun i => (h.getD (o + i) 0).toNat * 256 ^ i)).sum
    let fits (h : List Byte) : Prop := le h 8 4 % 16 = 0 ∧ 16 ≤ le h 8 4 ∧ (le h 0x10 4 = 2784 ∨ le h 0x10 4 = 7411) ∧
      256 + le h 8 4 + le h 0x10 4 ≤ 2 ^ 22
    let total := (256 + le h 8 4 + le h 0x10 4 + 15) / 16
    let phased (v : State) (p : Nat) : State := v.setRf Key.sysBootstat 59 56 p
    let due (err : Nat) : State := phased { s with boot := { s.boot with check := some s.boot.copy, loadErr := err } } 5
    (s.aon.inReset = false → 1 ≤ ph → ph ≤ 4 →
      exec (.imageLoadComplete false) s = .next (due 1) ∧
      (¬ fits h → exec (.imageLoadComplete true) s = .next (due 3)) ∧
      (fits h → ∃ y, exec (.imageLoadComplete true) s = .next y ∧ { y with mem := s.mem } = due 0 ∧
        (∀ i < 16 * total, y.mem.byte (base + i) = s.aon.flashByte (off + i)) ∧
        (∀ w < total, y.mem.tag (base / 16 + w) = Tag.bits) ∧
        (∀ i, 16 * total ≤ i → i < 2 ^ 23 → y.mem.byte (base + i) = 0 ∧ y.mem.tag ((base + i) / 16) = Tag.uninit) ∧
        ∀ b, b < base ∨ base + 2 ^ 23 ≤ b → y.mem.byte b = s.mem.byte b ∧ y.mem.tag (b / 16) = s.mem.tag (b / 16))) ∧
    (s.aon.inReset = true ∨ ph = 0 ∨ 4 < ph → exec (.imageLoadComplete ok) s = .next s) ∧
    (∀ n, s.boot.check = some n → n < 3 →
      let g := (List.range 256).map (fun i => s.mem.byte (base + i))
      let proper : Prop := fits g ∧ le g 0xC 4 % 2 = 0 ∧ le g 0xC 4 < le g 8 4 ∧
        le g 0x10 4 = (if le g 0x15 1 / 2 % 2 = 1 then 7411 else 2784) ∧ 1 ≤ le g 0x14 1 ∧ le g 0x14 1 ≤ 64 ∧ le g 0x15 1 < 4 ∧
        le g 0x16 2 = 0 ∧ ∀ i < 228, g.getD (0x1C + i) 0 = 0
      let checks (x : Nat) : Prop := 2 ≤ x ∨ (x = 1 ∧ s.keyw.active.isSome = true)
      let code := if n ≠ 2 ∧ s.boot.loadErr ≠ 0 then s.boot.loadErr else if le g 0 8 ≠ 0x4C5443485A580001 then 2
        else if ¬ proper then 3 else if ¬ (checks s.boot.lcEarly ∨ checks s.boot.lcLate) then 0 else s.imageCode
      let logged (y : State) : Prop := ∃ e, y.aon.log.getLast? = some e ∧ e.code = 6 ∧ e.arg = n + 1 + code * 256
      ∃ y, exec .imageCheckComplete s = .next y ∧ y.boot.check = none ∧ y.mem = s.mem ∧
        (code ≠ 0 → logged y ∧
          (n = 0 → y.rf Key.sysBootstat 55 48 = code % 256 ∧ y.boot.copy = 1 ∧ y.rf Key.sysBootstat 59 56 = 4) ∧
          (n = 1 → y.rf Key.sysBootstat 47 40 = code % 256 ∧ y.rf Key.sysBootstat 59 56 = 0xB) ∧
          (n = 2 → y.rf Key.sysBootstat 39 32 = code % 256 ∧ y.rf Key.sysBootstat 59 56 = ph)) ∧
        (code = 0 → y.rf Key.sysBootstat 61 60 = n + 1 ∧
          (n = 2 → y.boot.rcvLink = false ∧ y.reg Key.pcieCtl = State.reset.reg Key.pcieCtl) ∧
          (s.stampCase = 0 → y.rf Key.sysBootstat 59 56 = 0xC ∧ y.cores = s.cores) ∧
          (s.stampCase ≠ 0 → y.aon.stamp = none ∧ y.boot.tested = true ∧ y.rf Key.sysBootstat 59 56 = 6 ∧ y.cores = s.cores ∧
            (s.stampCase = 2 → y.keyw.ctr 15 = s.keyw.ctr 15 + 1 ∧ y.boot.eraseDue = true)))) ∧
    (ph ≠ 0xC → exec (.startupBistComplete psd) s = .next s) ∧
    (ph = 0xC →
      (∃ y, exec (.startupBistComplete true) s = .next y ∧ y.rb Key.sysBootstat 62 = true ∧ y.rf Key.sysBootstat 59 56 = 6 ∧
        y.boot.tested = true ∧ y.cores = s.cores ∧ y.threads = s.threads) ∧
      ∃ y, exec (.startupBistComplete false) s = .next y ∧ y.rb Key.sysBootstat 62 = true ∧ y.rf Key.sysBootstat 59 56 = 0xF ∧
        y.rf Key.sysBootstat 55 48 = 9 ∧ y.cores = s.cores ∧ y.threads = s.threads) ∧
    (1 ≤ ph → ph ≤ 3 → s.bootTick = phased s (ph + 1)) ∧ (ph = 7 → s.bootTick = phased s 8) ∧
    (ph ∉ [1, 2, 3, 6, 7] ∨ (ph = 6 ∧ s.boot.shut = true) → s.bootTick = s) ∧
    (ph = 6 → s.boot.shut = false →
      let g := (List.range 256).map (fun i => s.mem.byte (base + i))
      let y := s.bootTick
      y.rf Key.sysBootstat 59 56 = 7 ∧ y.rb Key.coreRelease 0 = true ∧ (y.core 0).released = true ∧ (y.cluster 0).up = true ∧
        (y.thr 0).st = .active ∧ (y.thr 0).sec = true ∧ (y.thr 0).lvl = 3 ∧ (y.thr 0).pc.toNat = base + 0x100 + le g 0xC 4 ∧
        y.dram.bootsz = le g 0x14 1 ∧ y.dram.reserve = decide (le g 0x15 1 % 2 = 1)) ∧
    (∀ (failed : BitVec 4) (pop : DramPop), ph ≠ 7 → ph ≠ 8 → exec (.dramTrainingComplete failed pop) s = .next s) ∧
    (∀ (failed : BitVec 4) (pop : DramPop) (cfg : DramCfg), ph = 7 ∨ ph = 8 →
      let v : State := s.setRf Key.sysBootstat 3 0 failed.toNat
      let ready (r : Option Nat) : State := phased { v with dram := { s.dram with up := true, cfg := cfg, retired := r } } 9
      let gib (c : DramCfg) : Nat := (if c.width8 = true then 8 else 16) * (c.dens.toNat + 2) * (if c.twoRanks = true then 2 else 1)
      let alike (c : DramCfg) : Prop := pop = { ch0 := some c, ch1 := some c, ch2 := some c, ch3 := some c } ∧ c.dens.toNat ≤ 2 ∧
        c.speed.toNat ≤ 2 ∧ gib c ≤ 64
      let works : Prop := alike cfg
      (works → failed = 0 → exec (.dramTrainingComplete failed pop) s = .next (ready none)) ∧
      (∀ ch < 4, works → s.dram.reserve = true → failed.toNat = 2 ^ ch →
        exec (.dramTrainingComplete failed pop) s = .next (ready (some ch))) ∧
      ((∀ c, ¬ alike c) ∨ (failed ≠ 0 ∧ (s.dram.reserve = false ∨ ∀ ch < 4, failed.toNat ≠ 2 ^ ch)) →
        exec (.dramTrainingComplete failed pop) s = .next (phased v 0xF))) ∧
    (∀ (w : Writer) (v : W64) (c : Nat), c < 48 →
      (w.secure = false ∨ s.dram.bootDone = false ∨ s.boot.shut = true → exec (.coreRelease w v) s = .next s) ∧
      (w.secure = true → s.dram.bootDone = true → s.boot.shut = false → ∃ y, exec (.coreRelease w v) s = .next y ∧
        (v.getLsbD c = true → s.rb Key.coreRelease c = false → (y.core c).released = true ∧ y.rb Key.coreRelease c = true ∧
          (y.thr (16 * c)).st = .active ∧ (y.thr (16 * c)).sec = true ∧ (y.thr (16 * c)).lvl = 3 ∧
          (y.thr (16 * c)).pc.toNat = s.rf Key.sysRelvec 47 0 ∧ (y.cluster (c / 4)).up = true ∧ (y.cluster (c / 4)).off = false) ∧
        (v.getLsbD c = false ∨ s.rb Key.coreRelease c = true → y.core c = s.core c ∧ y.rb Key.coreRelease c = s.rb Key.coreRelease c))) ∧
    (∀ (o : Nat) (d : Data) (mask : BitVec 16),
      let wait : Prop := ph = 0xB ∧ s.aon.inReset = false
      let asked : State := { s with boot := { s.boot with check := some 2 } }
      (¬ wait → exec .recoveryCheck s = .next s) ∧ (¬ (wait ∧ s.boot.rcvLink = true) → exec (.recoveryBarWrite o d mask) s = .next s) ∧
      (wait → s.boot.rcvLink = true → o < 0x400000 → ∃ y, exec (.recoveryBarWrite o d mask) s = .next y ∧ { y with mem := s.mem } = s ∧
        y.mem.tag (base / 16 + o / 16) = Tag.bits ∧
        ∀ i < 16, y.mem.byte (base + o / 16 * 16 + i) = if mask.getLsbD i = true then (d >>> (8 * i)).setWidth 8 else s.mem.byte (base + o / 16 * 16 + i)) ∧
      (wait → s.boot.check = none → exec .recoveryCheck s = .next asked ∧
        (s.boot.rcvLink = true → mask.getLsbD 0 = true → d.getLsbD 0 = true → exec (.recoveryBarWrite 0x400000 d mask) s = .next asked)) ∧
      (wait → s.boot.check ≠ none → exec .recoveryCheck s = .next s))) ∧
  (∀ (s : State) (n : Nat) (v : W64) (lim : Bool), n < 8 →
    let win := Key.l3Secwin n
    let top := Key.l3Seclim n
    let limit := s.keyw.secmem.getD 256 * 64
    (∀ w : Writer, w.secure = false ∨ w.lvl ≠ 3 → exec (.secureWindowWrite w n lim v) s = .next s) ∧
    (∀ w : Writer, w.secure = true → w.lvl = 3 → (∀ m < 8, m ≠ n → s.rb (Key.l3Secwin m) 63 = false) →
      let on := if lim = true then s.rb win 63 else v.getLsbD 63
      let lo := if lim = true then s.rf win 47 24 else bits v 47 24
      let hi := if lim = true then bits v 47 24 else s.rf top 47 24
      let was (x : Nat) : Prop := s.rb win 63 = true ∧ s.rf win 47 24 ≤ x ∧ x < s.rf top 47 24
      (on = true → limit < hi - lo → exec (.secureWindowWrite w n lim v) s = .next s) ∧
      (on = false ∨ hi - lo ≤ limit → ∃ y, exec (.secureWindowWrite w n lim v) s = .next y ∧ y.mem = s.mem ∧
        y.rb win 63 = on ∧ y.rf win 47 24 = lo ∧ y.rf top 47 24 = hi ∧
        y.rb win 62 = (s.rb win 62 || decide (on = true ∧ lo < hi ∧ ¬ (was lo ∧ was (hi - 1)))))) ∧
    (s.rb win 62 = true → ∃ y, exec .secureWindowEvictDone s = .next y ∧ (∀ m < 8, y.rb (Key.l3Secwin m) 62 = false) ∧
      (∀ k < 12, ∀ e ∈ (y.cluster k).l2, e.2.st = .held ∨ slotSec (s.cluster k) e.1 = true ∨ s.inSecWindow (e.2.line * 64) = false) ∧
      (∀ e ∈ y.l3, s.rb (Key.l3Part (e.1 / 65536)) (e.1 % 16) = true ∨ s.inSecWindow (e.2.line * 64) = false) ∧
      ∀ c < 48, (∀ e ∈ (y.core c).l1i, s.inSecWindow (e.2 * 64) = false) ∧
        ∀ e ∈ (y.core c).l1d, bit (s.core c).l1dpart (e.1 % 8) = true ∨ s.inSecWindow (e.2 * 64) = false)) ∧
  (∀ (s : State) (sec : Bool) (t : Nat) (lvl : BitVec 2) (pc pa : Addr) (v : W64) (w : TWord), t < 768 →
    let th := s.thr t
    (s.debugOpen sec = false → ∀ a ∈ [DebugOp.stop sec t, .start sec t lvl pc, .readSys sec t 0x63, .writeSys sec t 0x42 v, .writeMem sec pa w],
      exec (.debugPortAccess a) s = .next s) ∧
    (((s.cluster (t / 64)).up = false ∨ (s.cluster (t / 64)).off = true) → exec (.debugPortAccess (.stop sec t)) s = .next s) ∧
    (s.debugOpen sec = true → th.sec = sec → (s.cluster (t / 64)).up = true → (s.cluster (t / 64)).off = false →
      (th.st = .active → (s.core (t / 16)).fenced = false → th.slot = none → th.mmioW = none → ∃ y, exec (.debugPortAccess (.stop sec t)) s = .next y ∧
        (y.thr t).st = .stopped ∧ (y.thr t).pc = th.resumePc ∧ (y.thr t).den = th.den ∧ (y.thr t).flags = th.flags) ∧
      (th.st = .stopped → (s.core (t / 16)).fenced = false → pc.getLsbD 0 = false → ¬ (sec = true ∧ lvl = 2) → ¬ (sec = false ∧ lvl = 3) →
        exec (.debugPortAccess (.start sec t lvl pc)) s =
          .next ((s.modCore (t / 16) (fun c => { c with pwr := .c0 })).setThr t { th with st := .active, lvl := lvl, pc := pc })) ∧
      ((s.core (t / 16)).fenced = true → exec (.debugPortAccess (.stop sec t)) s = .next s ∧ exec (.debugPortAccess (.start sec t lvl pc)) s = .next s) ∧
      exec (.debugPortAccess (.readSys sec t 0x63)) s = .next (s.setThr t { th with wdLate := 0 }) ∧
      (th.st = .stopped → (s.core (t / 16)).fenced = false → sec = false →
        exec (.debugPortAccess (.writeSys sec t 0x42 v)) s = .next (s.modThr t (fun th => th.putWord false 0x42 v)))) ∧
    (let a := pa.toNat / 16 * 16
     let open_ : Prop := s.debugOpen sec = true ∧ s.sett.c4 = false ∧ (s.region a).tagged = true ∧ s.reaches sec a = true
     let promoted : State := { s with dram := s.dram.promote a }
     (¬ open_ ∨ s.standbyRefuses a = true → exec (.debugPortAccess (.writeMem sec pa w)) s = .next s) ∧
     (¬ open_ → exec (.debugPortAccess (.readMem sec pa)) s = .next s) ∧
     (open_ → s.chunkReady a = false → exec (.debugPortAccess (.readMem sec pa)) s = .next promoted ∧
       (s.standbyRefuses a = false → exec (.debugPortAccess (.writeMem sec pa w)) s = .next promoted)) ∧
     (open_ → s.chunkReady a = true → exec (.debugPortAccess (.readMem sec pa)) s = .next (s.dmaSnoop a) ∧
       (s.standbyRefuses a = false → exec (.debugPortAccess (.writeMem sec pa w)) s = .next (s.homeMerge a 0xFFFF w.data w.tag)))) ∧
    (let jt (ir : JtagIr) : State := { s with aon := { s.aon with ir := ir } }
     let scan : Prop := (∀ x ∈ [s.keyw.lcFuses / 4, (s.keyw.lcFuses + 3) / 4], x ≠ 2 ∧ bits s.keyw.dbg (8 * x + 4) (8 * x + 4) = 1) ∧ s.aon.rstLow = true
     exec .jtagBypass s = .next (jt .bypass) ∧ exec .jtagIdcode s = .next (jt .idcode) ∧ exec .jtagSamplePreload s = .next (jt .sample) ∧
     (scan → exec .jtagExtest s = .next (jt .extest) ∧ exec .jtagClamp s = .next (jt .clamp) ∧ exec .jtagHighz s = .next (jt .highz)) ∧
     (¬ scan → exec .jtagExtest s = .next (jt .bypass) ∧ exec .jtagClamp s = .next (jt .bypass) ∧ exec .jtagHighz s = .next (jt .bypass))))

/-- GO with BUSY and DONE 0 submits the request words; a GO at another time is ignored. A deadline posts TIMEOUT, raises 376 + m
and 407 and logs code 8. The request whose turn it is, and no other, is answered: BADARG for a header with unnamed bits, BADOPC
from a mailbox that may not use the opcode, BADARG for a wrong length, both of which use up the challenge of a DEBUG_UNLOCK, else
as the opcode's row says, with BUSY 0, DONE 1, its header and its payload; a late reply is only counted. Information, telemetry
(Config.telemetry, free, of what is recorded) and log entries are returned; clocks, fences, cache reinitialisation, device reset,
challenges and unlocks, staging and image words take effect with the reply. A long command answers ACCEPTED with CBUSY, or BUSY;
its completion posts TAG, STATUS, opcode and RESULT with CDONE, and has the effect of its opcode: the stamp and held cores, the
BIST log entry, the commit entry, the counter's value, the life cycle with a due reset. Reinitialisation's INDEX in bits 15:8 is
the model's choice (log 58); BIST kinds and bundles are free (log 57) (R515, R516, R518, R553, R554, R555, R556, R559, R560, R562,
R565, R569). -/
def Obligations.SettCommands : Prop :=
  (∀ (s : State) (m : Nat), m < 9 →
    let x := s.mbx m
    let ctl := mbCtl m
    let w0 := x.words.headD 0
    let told (y : State) (src v : Nat) : Prop := s.rf (Key.evrBind src) 35 32 ≠ 0 → tfind y.evPend src = some (BitVec.ofNat 128 v)
    (s.aon.inReset = false → s.rb ctl 1 = false → s.rb ctl 2 = false →
      ∃ y, exec (.mailboxSubmit m) s = .next y ∧ y.rb ctl 1 = true ∧ y.rb ctl 2 = false ∧ { y with sett := s.sett, regs := s.regs } = s ∧
        (∀ k, k ≠ ctl → y.reg k = s.reg k) ∧ (∀ j < 9, j ≠ m → y.mbx j = s.mbx j) ∧ (y.mbx m).words.length = 32 ∧
        (∀ w < 32, (y.mbx m).words.getD w 0 = s.reg (mbReq m w)) ∧ (y.mbx m).waiting = true ∧ (y.mbx m).late = false ∧
        (y.mbx m).long = x.long) ∧
    (s.aon.inReset = true ∨ s.rb ctl 1 = true ∨ s.rb ctl 2 = true → exec (.mailboxSubmit m) s = .next s) ∧
    (x.waiting = true → x.late = false → ∃ y, exec (.mailboxTimeout m) s = .next y ∧ y.mbx m = { x with late := true } ∧
      y.rb ctl 1 = false ∧ y.rb ctl 2 = true ∧ (y.reg (mbRsp m 0)).toNat = bits w0 15 0 + bits w0 31 24 * 2 ^ 24 + 0x0D * 2 ^ 32 ∧
      (m < 8 → told y (376 + m) 1) ∧ told y 407 0 ∧ y.mem = s.mem ∧ y.keyw = s.keyw ∧ y.cores = s.cores ∧
      ∃ e, y.aon.log.getLast? = some e ∧ e.code = 8 ∧ e.arg = m + bits w0 15 0 * 2 ^ 16) ∧
    (x.waiting = false ∨ x.late = true → exec (.mailboxTimeout m) s = .next s)) ∧
  (∀ (s : State) (m : Nat) (psd : Bool) (failed : List Nat), m < 9 →
    let w0 := (s.mbx m).words.headD 0
    let n := bits w0 20 16
    let secure : Bool := decide (4 ≤ m ∧ m < 8)
    let port : Bool := m == 8
    let clean : Prop := bits w0 23 21 = 0 ∧ bits w0 63 32 = 0
    ∀ e ∈ [(exec (.getInfo m) s, 0x01, true, n == 0), (exec (.tlmRead m) s, 0x02, true, n == 1), (exec (.evlogRead m) s, 0x03, true, n == 1),
        (exec (.clkSet m) s, 0x10, !port, n == 1), (exec (.coreFence m) s, 0x11, secure, n == 1),
        (exec (.cacheReinit m) s, 0x20, secure, n == 1), (exec (.deviceReset m) s, 0x30, secure || port, n == 1),
        (exec (.shutdown m psd) s, 0x31, secure || port, n == 0), (exec (.bistRun m failed) s, 0x32, secure || port, n == 1),
        (exec (.keyUpdate m) s, 0x40, secure || port, n == 7), (exec (.ctrAdvance m) s, 0x41, secure, n == 2),
        (exec (.lcAdvance m) s, 0x42, secure || port, n == 2), (exec (.debugChallenge m) s, 0x43, secure || port, n == 0),
        (exec (.debugUnlock m) s, 0x44, secure || port, n == 2), (exec (.stageWrite m) s, 0x50, port, decide (1 ≤ n)),
        (exec (.imgWrite m) s, 0x51, port, decide (3 ≤ n) && n % 2 == 1), (exec (.imgCheck m) s, 0x52, port, n == 0)],
      (s.aon.inReset = true ∨ ¬ s.SettTurn m ∨ bits w0 15 0 ≠ e.2.1 → e.1 = .next s) ∧
      (s.aon.inReset = false → s.SettTurn m → bits w0 15 0 = e.2.1 →
        let used : State := if e.2.1 = 0x44 ∧ e.2.2.1 = true then { s with boot := { s.boot with challenge := none } } else s
        (¬ clean → s.Answered m e.1 3 [] (used.ButReply m)) ∧
        (clean → e.2.2.1 = false → s.Answered m e.1 2 [] (s.ButReply m)) ∧
        (clean → e.2.2.1 = true → e.2.2.2 = false → s.Answered m e.1 3 [] (used.ButReply m)))) ∧
  (∀ (s : State) (m : Nat), m < 9 → s.aon.inReset = false → s.SettTurn m →
    let w0 := (s.mbx m).words.headD 0
    let n := bits w0 20 16
    let p (i : Nat) : W64 := (s.mbx m).words.getD i 0
    let secure : Prop := 4 ≤ m ∧ m < 8
    let go (opc : Nat) : Prop := bits w0 15 0 = opc ∧ bits w0 23 21 = 0 ∧ bits w0 63 32 = 0
    (go 0x01 → n = 0 → s.Answered m (exec (.getInfo m) s) 0 [BitVec.ofNat 64 (Config.firmwareVersion.toNat + m * 2 ^ 32 + s.boot.lcLate * 2 ^ 40),
      BitVec.ofNat 64 (0x0F1D8048 * 2 ^ 32 + s.keyw.devid.toNat % 2 ^ 24 / 256 * 256)] (s.ButReply m)) ∧
    (go 0x02 → n = 1 →
      let obj := bits (p 1) 15 0
      let idx := bits (p 1) 31 16
      let ofs := bits (p 1) 47 32
      let absent : Prop := 6 < obj ∨ (obj = 5 ∧ bits s.keyw.devid 23 20 ≠ 2)
      let bad : Prop := (obj = 2 ∧ 12 ≤ idx) ∨ (obj = 3 ∧ 48 ≤ idx)
      (absent → s.Answered m (exec (.tlmRead m) s) 0x0C [] (s.ButReply m)) ∧
      (¬ absent → bad → s.Answered m (exec (.tlmRead m) s) 3 [] (s.ButReply m)) ∧
      let volt := if s.effClock idx = 0 then 0 else Config.trimVolt s.keyw.trim (s.effClock idx)
      let at' := if obj = 0 ∨ obj = 5 then bits (Config.freeValue s.fresh) 31 0 else if obj = 4 then s.aon.exitMs
        else if obj = 6 then s.aonMs / 1000 * 1000 else s.aonMs
      let held : List Nat := if obj = 2 then [s.rf (Key.thmTemp idx) 15 0, volt, s.rf (Key.pwrCstat idx) 47 32, s.effClock idx,
          tget 0 s.sett.resid (2 * idx), tget 0 s.sett.resid (2 * idx + 1)]
        else if obj = 6 then s.aon.bands.flatMap (fun e => [e.1, e.2 / 3600000])
        else if obj = 3 then [(s.core idx).ipars, (s.core idx).dpars, (s.core idx).tlbPars, (s.core idx).denCorrs]
        else if obj = 4 then s.aon.hist.flatMap (fun e => [e.1.toNat, e.2.toNat]) else []
      (¬ absent → ¬ bad → s.Answered m (exec (.tlmRead m) s) 0 (BitVec.ofNat 64 at' ::
        (List.range (min 30 (Config.telemetryWords obj - ofs))).map (fun i => Config.telemetry obj idx (ofs + i) held
          (if obj = 0 ∨ obj = 4 ∨ obj = 5 then 0 else s.fresh)))
        (State.ButReply m { s with fresh := s.fresh + 1 }))) ∧
    (go 0x03 → n = 1 → s.Answered m (exec (.evlogRead m) s) 0 (((s.aon.log.filter (fun e => decide (bits (p 1) 31 0 ≤ e.seq))).take 15).flatMap
      (fun e => [BitVec.ofNat 64 (e.seq + e.code * 2 ^ 32), BitVec.ofNat 64 (e.ms + e.arg * 2 ^ 32)])) (s.ButReply m)) ∧
    (go 0x10 → n = 1 → m ≠ 8 →
      let mhz := bits (p 1) 31 16
      let fused := 400 + 200 * bits s.keyw.devid 19 16
      (mhz % 25 ≠ 0 ∨ mhz < 400 → s.Answered m (exec (.clkSet m) s) 3 [] (s.ButReply m)) ∧
      (mhz % 25 = 0 → 400 ≤ mhz → fused < mhz → s.Answered m (exec (.clkSet m) s) 6 [] (s.ButReply m)) ∧
      (mhz % 25 = 0 → 400 ≤ mhz → mhz ≤ fused → s.Answered m (exec (.clkSet m) s) 0 [] (fun y =>
        (∀ k < 12, y.rf (Key.pwrCstat k) 47 32 = if (p 1).getLsbD k = true then mhz else s.rf (Key.pwrCstat k) 47 32) ∧
        { y with sett := s.sett, regs := s.regs, evPend := s.evPend, evBind := s.evBind } = s))) ∧
    (go 0x11 → n = 1 → secure →
      let c := bits (p 1) 5 0
      let o := exec (.coreFence m) s
      let rtm : Prop := bits (s.core c).corectl 31 16 ≠ 0
      let logged (y : State) (a : Nat) : Prop := ∃ e, y.aon.log.getLast? = some e ∧ e.code = 7 ∧ e.arg = a
      (48 ≤ c → s.Answered m o 3 [] (s.ButReply m)) ∧
      (c < 48 → rtm → s.Answered m o 7 [] (s.ButReply m)) ∧
      (c < 48 → ¬ rtm → s.bdg.test = some c → s.Answered m o 5 [] (s.ButReply m)) ∧
      (c < 48 → ¬ rtm → s.bdg.test ≠ some c →
        ((p 1).getLsbD 8 = true → (s.core c).fencedCmd = false → s.Answered m o 7 [] (s.ButReply m)) ∧
        ((p 1).getLsbD 8 = true → (s.core c).fencedCmd = true → s.Answered m o 0 [] (fun y => (y.core c).fencedCmd = false ∧
          logged y (c + 256) ∧ y.mem = s.mem ∧ ∀ t < 768, (y.thr t).st = (s.thr t).st ∧ (y.thr t).pc = (s.thr t).pc ∧ (y.thr t).den = (s.thr t).den)) ∧
        ((p 1).getLsbD 8 = false → (s.core c).fencedCmd = true → s.Answered m o 0 [] (s.ButReply m)) ∧
        ((p 1).getLsbD 8 = false → (s.core c).fencedCmd = false → (s.core c).fenced = false → s.fenceReady c = false → o = .next s) ∧
        ((p 1).getLsbD 8 = false → (s.core c).fencedCmd = false → (s.core c).fenced = true ∨ s.fenceReady c = true →
          s.Answered m o 0 [] (fun y => (y.core c).fencedCmd = true ∧ (y.core c).itlb = [] ∧ (y.core c).dtlb = [] ∧ (y.core c).l2tlb = [] ∧
            logged y c ∧ y.mem = s.mem ∧ ∀ i < 16, (y.thr (16 * c + i)).st = (s.thr (16 * c + i)).st ∧
              (y.thr (16 * c + i)).pc = (s.thr (16 * c + i)).pc ∧ (y.thr (16 * c + i)).den = (s.thr (16 * c + i)).den ∧
              (y.thr (16 * c + i)).block = none)))) ∧
    (go 0x20 → n = 1 → secure →
      let i := bits (p 1) 15 8
      let kind := bits (p 1) 1 0
      let o := exec (.cacheReinit m) s
      let off : Prop := (kind = 0 ∧ bit (s.core i).l1ctl 1 = true ∧ bit (s.core i).l1ctl 5 = true) ∨
        (kind = 1 ∧ bit (s.core i).l1ctl 0 = true ∧ bit (s.core i).l1ctl 4 = true) ∨
        (kind = 2 ∧ bit (s.cluster i).l2ctl 0 = true ∧ bit (s.cluster i).l2ctl 1 = true) ∨
        (kind = 3 ∧ s.rb (Key.l3Ctl i) 0 = true ∧ s.rb (Key.l3Ctl i) 1 = true)
      let top := if kind < 2 then 48 else 12
      (top ≤ i → s.Answered m o 3 [] (s.ButReply m)) ∧
      (i < top → ¬ off → s.Answered m o 7 [] (s.ButReply m)) ∧
      (i < top → off → s.Answered m o 0 [] (fun y =>
        (kind = 0 → (y.core i).l1i = [] ∧ bit (y.core i).l1ctl 5 = false ∧ bit (y.core i).l1ctl 1 = true ∧ (y.core i).l1d = (s.core i).l1d ∧ y.mem = s.mem) ∧
        (kind = 1 → (y.core i).l1d = [] ∧ bit (y.core i).l1ctl 4 = false ∧ bit (y.core i).l1ctl 0 = true ∧ (y.core i).l1i = (s.core i).l1i ∧ y.mem = s.mem) ∧
        (kind = 2 → (y.cluster i).l2 = [] ∧ bit (y.cluster i).l2ctl 1 = false ∧ bit (y.cluster i).l2ctl 0 = true ∧ y.l3 = s.l3) ∧
        (kind = 3 → y.l3 = s.l3.filter (fun e => e.1 / 65536 != i) ∧ y.rb (Key.l3Ctl i) 1 = false ∧ y.rb (Key.l3Ctl i) 0 = true)))) ∧
    (go 0x30 → n = 1 → secure ∨ m = 8 →
      (p 1 = 0x5253 → s.Answered m (exec (.deviceReset m) s) 0 [] (State.ButReply m { s with boot := { s.boot with resetDue := true } })) ∧
      (p 1 ≠ 0x5253 → s.Answered m (exec (.deviceReset m) s) 3 [] (s.ButReply m))) ∧
    (go 0x43 → n = 0 → secure ∨ m = 8 →
      let c := (Config.random s.fresh).toNat
      s.Answered m (exec (.debugChallenge m) s) 0 ((List.range 4).map (fun i => BitVec.ofNat 64 (c / 2 ^ (64 * i)))) (fun y => y.fresh = s.fresh + 1 ∧
        ∃ bs, y.boot = { s.boot with challenge := some (bs, s.aon.ns) } ∧ bs.length = 32 ∧ ∀ i < 32, (bs.getD i 0).toNat = c / 256 ^ i % 256)) ∧
    (go 0x44 → n = 2 → secure ∨ m = 8 →
      let mask := bits (p 1) 1 0
      let o := exec (.debugUnlock m) s
      let used : State := { s with boot := { s.boot with challenge := none } }
      (s.boot.challenge = none → s.Answered m o 7 [] (State.ButReply m used)) ∧
      ∀ c t, s.boot.challenge = some (c, t) →
        let closed : Prop := t + 60000000000 < s.aon.ns ∨ (mask % 2 = 1 ∧ s.debugLevel false ≠ 1) ∨ (2 ≤ mask ∧ s.debugLevel true ≠ 1)
        (closed → s.Answered m o 7 [] (State.ButReply m used)) ∧
        (∀ st, ¬ closed → s.settBuf m (p 2) 96 = .error st → s.Answered m o st [] (State.ButReply m used)) ∧
        (∀ sig, ¬ closed → s.settBuf m (p 2) 96 = .ok sig →
          let good : Bool := s.keyw.active.isSome && Config.ecdsaVerify ((Config.activeBundle s.keyw.hash).take 96)
            (sha384 (c ++ leBytes 8 s.keyw.serial.toNat ++ [BitVec.ofNat 8 mask])) sig
          (good = true → s.Answered m o 0 [] (State.ButReply m { used with boot := { used.boot with unlocked := s.boot.unlocked ||| BitVec.ofNat 2 mask } })) ∧
          (good = false → s.Answered m o 8 [] (State.ButReply m used)))) ∧
    (go 0x50 → 1 ≤ n → m = 8 →
      let off := (p 1).toNat
      (off % 8 ≠ 0 ∨ 8192 < off + 8 * (n - 1) → s.Answered m (exec (.stageWrite m) s) 3 [] (s.ButReply m)) ∧
      (off % 8 = 0 → off + 8 * (n - 1) ≤ 8192 → s.Answered m (exec (.stageWrite m) s) 0 [] (fun y =>
        { y with sett := s.sett, regs := s.regs, evPend := s.evPend, evBind := s.evBind } = s ∧ ∀ a < 8192, tget 0 y.sett.stage a =
          if off ≤ a ∧ a < off + 8 * (n - 1) ∧ (a - off) / 8 + 2 < (s.mbx m).words.length then BitVec.ofNat 8 ((p (2 + (a - off) / 8)).toNat / 256 ^ (a % 8))
          else tget 0 s.sett.stage a))) ∧
    (go 0x51 → 3 ≤ n → n % 2 = 1 → m = 8 → (s.mbx m).words.length = 32 →
      let off := (p 1).toNat
      let base := 0x7F0000000000
      let bad : Prop := off % 16 ≠ 0 ∨ 2 ^ 22 ≤ off
      let wait : Prop := s.rf Key.sysBootstat 59 56 = 0xB
      (bad → s.Answered m (exec (.imgWrite m) s) 3 [] (s.ButReply m)) ∧
      (¬ bad → ¬ wait → s.Answered m (exec (.imgWrite m) s) 7 [] (s.ButReply m)) ∧
      (¬ bad → wait → s.Answered m (exec (.imgWrite m) s) 0 [] (fun y => s.ButReply m { y with mem := s.mem } ∧
        (∀ a, a < base + off ∨ base + off + 8 * (n - 1) ≤ a → y.mem.byte a = s.mem.byte a) ∧
        (∀ w < (n - 1) / 2, y.mem.tag ((base + off) / 16 + w) = Tag.bits) ∧
        ∀ i < 8 * (n - 1), y.mem.byte (base + off + i) = BitVec.ofNat 8 ((p (2 + i / 8)).toNat / 256 ^ (i % 8)))))) ∧
  (∀ (s : State) (m : Nat) (psd : Bool) (failed : List Nat), m < 9 → s.aon.inReset = false → s.SettTurn m →
    let w0 := (s.mbx m).words.headD 0
    let n := bits w0 20 16
    let p (i : Nat) : W64 := (s.mbx m).words.getD i 0
    let secure : Prop := 4 ≤ m ∧ m < 8
    let go (opc len : Nat) : Prop := bits w0 15 0 = opc ∧ bits w0 23 21 = 0 ∧ bits w0 63 32 = 0 ∧ n = len
    let tag := bits w0 31 24
    let refused (o : Out) (st : Nat) : Prop := s.Answered m o st [] (s.ButReply m)
    let starts (o : Out) (v : State) (l : LongCmd) : Prop := s.Answered m o 1 [] (fun y => y.rb (mbCtl m) 3 = true ∧ (y.mbx m).long = some l ∧
      { y with sett := v.sett, regs := v.regs, evPend := v.evPend, evBind := v.evBind } = v)
    let busy : Prop := (s.mbx m).long.isSome = true
    let fuses : Prop := ∃ j < 9, ∃ l ∈ (s.mbx j).long.toList, l.opc = 0x40 ∨ l.opc = 0x41 ∨ l.opc = 0x42
    let signed (buf : W64) (msg : List Byte) (o : Out) (yes no : Prop) : Prop :=
      (∀ st, s.settBuf m buf s.authLen = .error st → refused o st) ∧
      ∀ auth, s.settBuf m buf s.authLen = .ok auth →
        let b := Config.activeBundle s.keyw.hash
        let good : Bool := s.keyw.active.isSome && Config.ecdsaVerify (b.take 96) (sha384 msg) (auth.take 96) &&
          (!s.keyw.pq || Config.mldsaVerify (b.drop 96) msg (auth.drop 96))
        if good = true then yes else no
    (go 0x31 0 → secure ∨ m = 8 →
      let o := exec (.shutdown m psd) s
      let open' : Prop := (∃ u < 16, s.guBusy u = true) ∨ ∃ q < 8, s.rb (Key.rlkCtl q) 63 = true
      (busy → refused o 5) ∧ (¬ busy → open' → refused o 7) ∧
      (¬ busy → ¬ open' → starts o s { opc := 0x31, tag := tag, result := if psd = true then 0 else 1 })) ∧
    (go 0x32 1 → secure ∨ m = 8 →
      let o := exec (.bistRun m failed) s
      let may (x : Nat) : Prop := x = 1 ∨ x = 3
      let allowed : Prop := may s.boot.lcEarly ∧ may s.boot.lcLate
      (busy → refused o 5) ∧ (¬ busy → ¬ allowed → refused o 4) ∧
      (∀ st, ¬ busy → allowed → s.settBuf m (p 1) 16 = .error st → refused o st) ∧
      ∀ h, ¬ busy → allowed → s.settBuf m (p 1) 16 = .ok h →
        let cnt := (h.headD 0).toNat % 64
        (cnt = 0 → refused o 3) ∧
        (∀ st, 0 < cnt → s.settBuf m (p 1) (16 * (cnt + 1)) = .error st → refused o st) ∧
        ∀ bs, 0 < cnt → s.settBuf m (p 1) (16 * (cnt + 1)) = .ok bs →
          let b (i j : Nat) : Nat := (bs.getD (16 * (i + 1) + j) 0).toNat
          let kind (i : Nat) : Nat := b i 0 % 4
          let idx (i : Nat) : Nat := b i 1 % 64
          let fine : Prop := ∀ i < cnt, ((kind i = 0 ∧ idx i < 48) ∨ (kind i = 1 ∧ idx i < 12) ∨ (kind i = 2 ∧ idx i < 4)) ∧ b i 2 % 16 ≤ 2 ∧ 1 ≤ b i 3
          let out : Prop := ∀ i < cnt, (kind i = 0 → (s.core (idx i)).fenced = true) ∧ (kind i = 1 → s.rb (Key.l3Ctl (idx i)) 0 = true) ∧
            (kind i = 2 → s.dram.retired = some (idx i))
          let bad := (List.range cnt).filter (fun i => failed.contains i)
          (¬ fine → refused o 3) ∧ (fine → ¬ out → refused o 7) ∧
          (fine → out → starts o s { opc := 0x32, tag := tag, result := bad.length + bad.headD 0xFFFF * 2 ^ 16 })) ∧
    (go 0x40 7 → secure ∨ m = 8 →
      let o := exec (.keyUpdate m) s
      let hash := (p 1).toNat + (p 2).toNat * 2 ^ 64 + (p 3).toNat * 2 ^ 128 + (p 4).toNat * 2 ^ 192 + (p 5).toNat * 2 ^ 256 + (p 6).toNat * 2 ^ 320
      let gen := ((s.keyw.active.map (fun c => c.gen.toNat)).getD 0) + 1
      let slotB := (s.keyw.active.map (fun c => !c.slotB)).getD false
      let row := (s.keyw.rows.filter (fun e => decide (8 ≤ e.1) == slotB)).length
      let at' := row + if slotB = true then 8 else 0
      let l : LongCmd := { opc := 0x40, tag := tag, arg := at', result := gen }
      let done : Prop :=
        (8 ≤ row ∨ 16 ≤ s.keyw.commits.length → starts o s { l with status := 9, result := 0 }) ∧
        (row < 8 → s.keyw.commits.length < 16 → starts o { s with keyw := { s.keyw with rows := tput s.keyw.rows at' { hash := BitVec.ofNat 384 hash, gen := BitVec.ofNat 16 gen, complete := true, killed := false } } } l)
      let free : Prop := s.boot.lcLate = 1 ∧ s.keyw.active = none
      (busy ∨ fuses → refused o 5) ∧ (¬ busy → ¬ fuses → free → done) ∧
      (¬ busy → ¬ fuses → ¬ free → signed (p 7) (leBytes 48 hash ++ leBytes 2 gen) o done (starts o s { l with status := 8, result := 0 }))) ∧
    (go 0x41 2 → secure →
      let o := exec (.ctrAdvance m) s
      let c := bits (p 1) 3 0
      let v := (p 2).toNat
      (busy ∨ fuses → refused o 5) ∧ (¬ busy → ¬ fuses → v ≤ s.keyw.ctr c → refused o 3) ∧
      (¬ busy → ¬ fuses → s.keyw.ctr c < v → 256 ≤ s.keyw.ctrUsed c → refused o 9) ∧
      (¬ busy → ¬ fuses → s.keyw.ctr c < v → s.keyw.ctrUsed c < 256 → starts o { s with keyw := s.keyw.ctrStart c }
        { opc := 0x41, tag := tag, arg := c + 16 * v, result := s.keyw.ctrUsed c + 1 })) ∧
    (go 0x42 2 → secure ∨ m = 8 →
      let o := exec (.lcAdvance m) s
      let t := bits (p 1) 2 0
      let at0 := s.boot.lcLate
      let allowed : Prop := (t = 4 ∧ at0 < 4) ∨ (t = at0 + 1 ∧ at0 < 3)
      let l : LongCmd := { opc := 0x42, tag := tag, arg := t }
      let done : Prop := starts o { s with fresh := s.fresh + 1, keyw := { s.keyw with intent := some t, huk := if t = 1 then some (leBytes 32 (Config.random s.fresh).toNat) else s.keyw.huk } } l
      let free : Prop := at0 = 0 ∨ (at0 = 1 ∧ s.keyw.active = none)
      (busy ∨ fuses → refused o 5) ∧ (¬ busy → ¬ fuses → ¬ allowed → refused o 3) ∧
      (¬ busy → ¬ fuses → allowed → t = 2 → s.keyw.active = none → refused o 7) ∧
      (¬ busy → ¬ fuses → allowed → ¬ (t = 2 ∧ s.keyw.active = none) → (free → done) ∧
        (¬ free → signed (p 2) (leBytes 8 s.keyw.serial.toNat ++ [BitVec.ofNat 8 t]) o done (starts o s { l with status := 8 })))) ∧
    (go 0x52 0 → m = 8 →
      let o := exec (.imgCheck m) s
      let wait : Prop := s.rf Key.sysBootstat 59 56 = 0xB
      (¬ wait → refused o 7) ∧ (wait → busy ∨ s.boot.check ≠ none → refused o 5) ∧
      (wait → ¬ busy → s.boot.check = none → starts o { s with boot := { s.boot with check := some 2 } } { opc := 0x52, tag := tag, ready := false }))) ∧
  (∀ (s : State) (m : Nat), m < 9 →
    let o := exec (.longCommandComplete m) s
    ((s.mbx m).long = none → o = .next s) ∧
    ∀ l, (s.mbx m).long = some l →
      (l.ready = false → o = .next s) ∧
      (l.ready = true →
        let huk := s.keyw.huk
        let fuse : Prop := l.status = 0 ∧ (l.opc = 0x40 ∨ l.opc = 0x41) ∧ Config.fuseFails s.fresh = true
        let logged (y : State) (res : Nat) : Prop := ∃ e, y.aon.log.getLast? = some e ∧ e.code = 9 ∧ e.arg / 256 = res
        ∃ y, o = .next y ∧ (y.mbx m).long = none ∧ y.rb (mbCtl m) 3 = false ∧ y.rb (mbCtl m) 4 = true ∧ y.mem = s.mem ∧
          (¬ fuse → y.reg (mbCmpl m) = BitVec.ofNat 64 (l.tag + l.status * 2 ^ 8 + l.opc * 2 ^ 16 + l.result % 2 ^ 32 * 2 ^ 32)) ∧
          (fuse → y.keyw = s.keyw ∧ y.reg (mbCmpl m) = BitVec.ofNat 64 (l.tag + 0x0A * 2 ^ 8 + l.opc * 2 ^ 16)) ∧
          (m < 8 → s.rf (Key.evrBind (376 + m)) 35 32 ≠ 0 → tfind y.evPend (376 + m) = some 2) ∧
          (l.status ≠ 0 ∨ l.opc = 0x52 → { y with sett := s.sett, regs := s.regs, evPend := s.evPend, evBind := s.evBind } = s) ∧
          (l.status = 0 → l.opc = 0x31 → y.boot = { s.boot with shut := true } ∧ (∀ c < 48, (y.core c).released = false) ∧
            logged y (if l.result = 0 then 0 else 1) ∧
            (l.result ≠ 0 ∨ s.boot.lcLate = 0 ∨ s.boot.lcLate = 4 ∨ huk = none → y.aon.stamp = none ∧ y.aon.flash = s.aon.flash) ∧
            ∀ h ∈ huk.toList, l.result = 0 → 1 ≤ s.boot.lcLate → s.boot.lcLate < 4 →
              let body := leBytes 8 0x53544D505A580001 ++ leBytes 4 Config.selfTestContent.toNat ++ leBytes 4 s.aonMs ++ leBytes 8 (s.keyw.ctr 15) ++
                leBytes 8 s.keyw.serial.toNat
              let r := body ++ aesCmac (Config.stampKey h) body ++ List.replicate 16 0
              y.aon.stamp = some r ∧ (∀ i < 64, y.aon.flashByte (0xFFF000 + i) = r.getD i 0) ∧
                ∀ a, a < 0xFFF000 ∨ 0xFFF040 ≤ a → y.aon.flashByte a = s.aon.flashByte a) ∧
          (l.status = 0 → l.opc = 0x32 → logged y (if l.result % 2 ^ 16 = 0 then 0 else 1) ∧ y.keyw = s.keyw ∧ y.cores = s.cores ∧ y.boot = s.boot) ∧
          (l.status = 0 → l.opc = 0x40 → ¬ fuse → y.keyw = { s.keyw with commits := s.keyw.commits ++ [{ slotB := decide (8 ≤ l.arg), row := l.arg % 8, gen := BitVec.ofNat 16 l.result, complete := true, killed := false }] }) ∧
          (l.status = 0 → l.opc = 0x41 → ¬ fuse → y.keyw.ctr (l.arg % 16) = l.arg / 16 ∧ ∀ c, c ≠ l.arg % 16 → y.keyw.ctr c = s.keyw.ctr c) ∧
          (l.status = 0 → l.opc = 0x42 → y.keyw = { s.keyw with lcFuses := 4 * l.arg } ∧ y.boot = { s.boot with resetDue := true })))

/-- An idle core whose tolerance allows it enters C1, or C2 without its L1s and TLBs; a cluster of STOPPED threads enters C3
without its caches, and the package C4 when all is quiet; CLUSTER_WAKE and PACKAGE_WAKE start released cores at PWR_WAKEVEC, and a
tolerance brings cores out of states too deep for it. A thermal sample records its readings, moves the limits by 100 MHz and
reports each sensor that reads 130 degrees twice (log 58). The island forces the safe state once, with its first cause: every gate
unit and port goes off. Each supervision command does so with its own cause, or fences a core that is not safety relevant;
BADGER_RELEASE ends the initial safe state alone. Two equal writes to a channel's ports make a good round, any other round fails
the channel, which trips its units or forces the safe state. A CRT slot names a core, which is fenced for its test or postponed to
the next slot (log 101), none in SCRAP; a test passed returns it, a test failed keeps it out. A core's heartbeat restarts its
deadline of 2 ms, which runs while the core is powered and in service (R570, R571, R572, R573, R576, R577, R583, R584, R588, R592,
R593, R597). -/
def Obligations.PowerAndSafety : Prop :=
  (∀ (s : State) (c : Nat), c < 48 →
    let idle : Prop := (s.core c).sb = [] ∧ (s.core c).mshr = [] ∧ (s.core c).walks = [] ∧
      ∀ i < 16, (s.thr (16 * c + i)).st ≠ .active ∧ (s.thr (16 * c + i)).mmioW = none
    (idle → (s.cluster (c / 4)).off = false → (s.core c).pwr = .c0 → 50 ≤ s.coreTol c →
      exec (.c1Entry c) s = .next (s.modCore c (fun x => { x with pwr := .c1 }))) ∧
    (¬ idle ∨ s.coreTol c < 50 → exec (.c1Entry c) s = .next s) ∧
    (idle → (s.cluster (c / 4)).off = false → (s.core c).pwr ≠ .c2 → 2000 ≤ s.coreTol c →
      ∃ y, exec (.c2Entry c) s = .next y ∧ (y.core c).pwr = .c2 ∧ (y.core c).l1d = [] ∧ (y.core c).l1i = [] ∧ (y.core c).itlb = [] ∧
        (y.core c).dtlb = [] ∧ (y.core c).l2tlb = [] ∧ (y.core c).wcache = [] ∧ (∀ m ∈ y.tlbi, c ∉ m.cores) ∧
        { y with cores := s.cores, tlbi := s.tlbi } = s ∧ ∀ d < 48, d ≠ c → y.core d = s.core d) ∧
    (¬ idle ∨ s.coreTol c < 2000 → exec (.c2Entry c) s = .next s)) ∧
  (∀ (s : State) (k : Nat), k < 12 →
    ((s.cluster k).off = false → 40000 ≤ s.rf (Key.pwrCtol k) 31 0 →
      (∀ i < 4, (s.core (4 * k + i)).sb = [] ∧ s.bdg.test ≠ some (4 * k + i)) → (∀ i < 64, (s.thr (64 * k + i)).st = .stopped) →
      ∃ y, exec (.c3Entry k) s = .next y ∧ (y.cluster k).off = true ∧ (y.cluster k).l2 = [] ∧ bits (y.cluster k).l2lock 31 16 = 0 ∧
        bit (y.cluster k).l2lkstat 0 = true ∧ y.threads = s.threads ∧
        ∀ i < 4, (y.core (4 * k + i)).l1d = [] ∧ (y.core (4 * k + i)).l1i = [] ∧ (y.core (4 * k + i)).l2tlb = []) ∧
    (∀ (w : Writer) (v : W64), w.secure = false → exec (.clusterWake w v) s = .next s) ∧
    (∀ (w : Writer) (v : W64), w.secure = true → ∃ y, exec (.clusterWake w v) s = .next y ∧
      (v.getLsbD k = true → (s.cluster k).off = true → (y.cluster k).off = false ∧ (y.cluster k).up = true ∧
        ∀ i < 4, (4 * k + i) ∈ y.bdg.woken ∧ ((s.core (4 * k + i)).released = true → (y.core (4 * k + i)).pwr = .c0 ∧
          (y.thr (64 * k + 16 * i)).st = .active ∧ (y.thr (64 * k + 16 * i)).sec = true ∧ (y.thr (64 * k + 16 * i)).lvl = 3 ∧
          (y.thr (64 * k + 16 * i)).pc.toNat = s.rf Key.pwrWakevec 47 0)) ∧
      (v.getLsbD k = false ∨ (s.cluster k).off = false → y.cluster k = s.cluster k ∧ ∀ i < 64, y.thr (64 * k + i) = s.thr (64 * k + i))) ∧
    (∀ (w : Writer) (v : W64), ∃ y, exec (.toleranceWrite (some k) w v) s = .next y ∧ y.reg (Key.pwrCtol k) = (s.writeReg (Key.pwrCtol k) v).reg (Key.pwrCtol k) ∧
      ∀ i < 4, let c := 4 * k + i
        (y.core c).pwr = (match (s.core c).pwr with
          | .c0 => .c0
          | .c1 => if y.coreTol c < 50 then .c0 else .c1
          | .c2 => if y.coreTol c < 50 then .c0 else if y.coreTol c < 2000 then .c1 else .c2)) ∧
    (∀ (w : Writer) (v : W64), exec (.toleranceWrite none w v) s = .next (if w.secure = true then s.writeReg Key.pwrPkgtol v else s))) ∧
  (∀ (s : State),
    let quiet : Prop := (∀ u < 16, s.guBusy u = false) ∧ (∀ p < 8, s.rb (Key.rlkCtl p) 63 = false ∧ s.cryReady p = none) ∧
      (∀ p < 6, s.rb (Key.tsnCtl p) 63 = false) ∧ s.rb Key.pcieCtl 63 = false ∧ s.rb Key.pairCtl 63 = false ∧ s.rb Key.hseCtl 63 = false
    (s.sett.c4 = false → (∀ k < 12, (s.cluster k).off = true) → s.rb Key.pwrC4 63 = true → 2000000 ≤ s.rf Key.pwrPkgtol 31 0 →
      s.dram.complete = true → quiet → risingKeys s.l3 → ∃ y, exec .c4Entry s = .next y ∧ y.sett.c4 = true ∧ y.dram.selfRefresh = true ∧ y.l3 = [] ∧
        y.cores = s.cores ∧ y.threads = s.threads) ∧
    (s.sett.c4 = false → ∀ w, exec (.packageWake w) s = .next s) ∧
    (s.sett.c4 = true →
      let c := s.rf Key.pwrC4 37 32
      let wakes (w : WakeCause) : Prop := ∃ y, exec (.packageWake w) s = .next y ∧ y.sett.c4 = false ∧ y.dram.selfRefresh = false ∧
        (c < 48 → (y.cluster (c / 4)).off = false ∧ (y.cluster (c / 4)).up = true ∧
          ((s.core c).released = true → (y.thr (16 * c)).st = .active ∧ (y.thr (16 * c)).sec = true ∧ (y.thr (16 * c)).lvl = 3 ∧
            (y.thr (16 * c)).pc.toNat = s.rf Key.pwrWakevec 47 0) ∧
          ((s.core c).released = false → (y.thr (16 * c)).st = (s.thr (16 * c)).st ∧ (y.core c).released = false))
      wakes .wakePin ∧ (s.rf Key.pwrC4 31 0 ≠ 0 → wakes .timer) ∧ ((s.mbx 8).waiting = true → wakes .mailbox8) ∧
      (s.rf Key.pwrC4 31 0 = 0 → exec (.packageWake .timer) s = .next s))) ∧
  (∀ (s : State) (readings : List Int),
    let rd (n : Nat) : Int := readings.getD n 0
    let tlim : Int := 8 * (s.rf Key.thmTlim 7 0 : Int)
    let rtm (k : Nat) : Prop := ∃ i, i < 4 ∧ bits (s.core (4 * k + i)).corectl 31 16 ≠ 0
    let flat : Prop := s.sett.spread = false ∧ ∀ k < 12, ∀ j < 12, rd k ≤ rd j + 160
    let l (k : Nat) : Nat := s.thermalLimit k
    let wide (d : Int) : Prop := ∃ k < 12, ∃ j < 12, rd j + d < rd k
    let spread : Prop := (s.sett.spread = true ∧ wide 160) ∨ (s.sett.spread = false ∧ wide 200)
    (s.aon.inReset = true → exec (.thermalSample readings) s = .next s) ∧
    (s.aon.inReset = false → ∃ y, exec (.thermalSample readings) s = .next y ∧ (∀ n < 16, y.rf (Key.thmTemp n) 15 0 = (BitVec.ofInt 16 (rd n)).toNat) ∧
      (∀ k < 12, tlim ≤ rd k → ¬ rtm k → y.thermalLimit k = max (l k - 100) (min (l k) (s.rf (Key.thmFloor k) 15 0))) ∧
      (∀ k < 12, flat → rd k ≤ tlim - 40 → y.thermalLimit k = min (l k + 100) s.fmax) ∧
      (∀ k < 12, flat → tlim - 40 < rd k → rd k < tlim → k ∉ s.sett.spreadSet → y.thermalLimit k = l k) ∧
      (∀ k < 12, flat → rd k < tlim → k ∈ s.sett.spreadSet → y.thermalLimit k = min (l k + 100) s.fmax) ∧
      (∀ k < 12, spread → rd k < tlim → (∃ j < 12, rd k + 16 < rd j) → k ∈ s.sett.spreadSet → y.thermalLimit k = l k) ∧
      (∀ k < 12, let o := if (s.cluster k).off = true then 1 else 0
        tget 0 y.sett.resid (2 * k + o) = tget 0 s.sett.resid (2 * k + o) + 1 ∧
        tget 0 y.sett.resid (2 * k + 1 - o) = tget 0 s.sett.resid (2 * k + 1 - o)) ∧
      (∀ n < 16, n ∈ y.sett.hot ↔ 1040 ≤ rd n) ∧
      (∀ n, n ∈ y.sett.report ↔ n ∈ s.sett.report ∨ (n < 16 ∧ 1040 ≤ rd n ∧ n ∈ s.sett.hot ∧ n ∉ s.sett.crit)) ∧
      (∀ n < 16, n ∈ y.sett.crit ↔ 1040 ≤ rd n ∧ (n ∈ s.sett.hot ∨ n ∈ s.sett.crit)) ∧
      ∀ n < 16, 1040 ≤ rd n → n ∈ s.sett.hot → n ∉ s.sett.crit → y.rb Key.thmStat 13 = true)) ∧
  (∀ (s : State) (cause detail : Nat), cause < 256 → detail < 65536 →
    let y := s.forceSafe cause detail
    (s.rb Key.bdgStat 63 = true → s.rb Key.bdgStat 62 = false → y = s) ∧
    (s.rb Key.bdgStat 63 = false ∨ s.rb Key.bdgStat 62 = true →
      y.rb Key.bdgStat 63 = true ∧ y.rb Key.bdgStat 62 = false ∧ y.rf Key.bdgStat 55 48 = cause ∧ y.rf Key.bdgStat 47 32 = detail ∧
      y.cio.inhBdg = true ∧ (∀ u < 16, s.cio.inhBdg = false → (y.gu u).hold = true) ∧ (∀ p < 8, y.rb (Key.rlkCtl p) 63 = false) ∧
      y.bdg = s.bdg ∧ y.sett = s.sett)) ∧
  (∀ (s : State) (n c : Nat), c < 48 →
    let lapsed : State := ({ s with bdg := { s.bdg with lost := c :: s.bdg.lost } }).raise 409 0
    let waits (t : Nat) : Prop := (s.thr t).stall.isSome = true ∨ (s.thr t).extReq.isSome = true ∨ (s.thr t).mmioW.isSome = true ∨
      (∃ w ∈ (s.core c).walks, w.tid = t) ∨ ∃ m ∈ (s.core c).mshr, t ∈ m.thr
    let runs : Prop := (s.cluster (c / 4)).up = true ∧ (s.cluster (c / 4)).off = false ∧ (s.core c).pwr ≠ .c2 ∧ (s.core c).fenced = false ∧
      c ∉ s.bdg.lost
    let beats : Prop := (∃ i < 16, (s.thr (16 * c + i)).issued = true) ∨ ∀ i < 16, (s.thr (16 * c + i)).st ≠ .active ∨ waits (16 * c + i)
    let due : Prop := ∃ t ∈ (tfind s.bdg.beat c).toList, t + 2000000 ≤ s.aon.ns
    (s.aon.inReset = true → exec .lockstepMismatch s = .next s ∧ (n < 16 → exec (.clockMonitorFail n) s = .next s) ∧
      exec .settHeartbeat s = .next s ∧ exec .settHeartbeatTimeout s = .next s ∧ ∀ l, exec (.voltageSample l) s = .next s) ∧
    (s.aon.inReset = false → exec .lockstepMismatch s = .next (s.forceSafe 1 0) ∧
      (n < 16 → exec (.clockMonitorFail n) s = .next (s.forceSafe 2 n)) ∧
      exec .settHeartbeat s = .next { s with bdg := { s.bdg with settAlive := true } } ∧
      exec .settHeartbeatTimeout s = .next ((({ s with bdg := { s.bdg with settAlive := false } }).raise 410 0).forceSafe 3 0)) ∧
    (¬ (runs ∧ beats) → exec (.coreHeartbeat c) s = .next s) ∧
    (runs → beats → ∃ y, exec (.coreHeartbeat c) s = .next y ∧ y.bdg = { s.bdg with beat := tput s.bdg.beat c s.aon.ns } ∧
      { y with bdg := s.bdg, threads := s.threads } = s ∧ (∀ i < 16, y.thr (16 * c + i) = { s.thr (16 * c + i) with issued := false }) ∧
      ∀ t, t / 16 ≠ c → y.thr t = s.thr t) ∧
    (runs → tfind s.beatTick.bdg.beat c = some ((tfind s.bdg.beat c).getD s.aon.ns)) ∧
    (¬ runs → tfind s.beatTick.bdg.beat c = none) ∧
    (¬ (runs ∧ due) → exec (.coreHeartbeatTimeout c) s = .next s) ∧
    (runs → due →
      (s.rb Key.bdgCoresafe c = true → exec (.coreHeartbeatTimeout c) s = .next (lapsed.forceSafe 4 c)) ∧
      (s.rb Key.bdgCoresafe c = false → ∃ y, exec (.coreHeartbeatTimeout c) s = .next y ∧ y.bdg = lapsed.bdg ∧ (y.core c).fenced = true ∧
        (y.core c).lost = true ∧ y.mem = s.mem ∧ ∀ r ∈ y.hingeWait, r.svc / 16 ≠ c)) ∧
    (n ∈ s.bdg.cacheErr → exec (.cacheErrorReport n) s =
      .next (({ s with bdg := { s.bdg with cacheErr := s.bdg.cacheErr.erase n } }).forceSafe 6 n)) ∧
    (n ∉ s.bdg.cacheErr → exec (.cacheErrorReport n) s = .next s) ∧
    (n < 4 →
      let win := s.aon.ns / 10 ^ 9
      let bus := (tget {} s.dram.bus n).uncorr
      (∀ k, let errs := (if win = s.bdg.memWin then s.bdg.memCount else 0) + min k bus
        let u : State := { s with bdg := { s.bdg with memWin := win, memCount := errs },
                                  dram := { s.dram with bus := tset {} s.dram.bus n { uncorr := bus - min k bus } } }
        exec (.memErrorReport n k) s = .next (if s.rf Key.bdgCfg 15 0 < errs then u.forceSafe 7 n else u)) ∧
      (s.dram.up = true → s.dram.retired ≠ some n → exec (.memReportMissing n) s = .next (s.forceSafe 8 n)) ∧
      (s.dram.up = false ∨ s.dram.retired = some n → exec (.memReportMissing n) s = .next s)) ∧
    (n ∈ s.sett.report → exec (.overTemperatureReport n) s =
      .next (({ s with sett := { s.sett with report := s.sett.report.erase n } }).forceSafe 9 n)) ∧
    (n ∉ s.sett.report → exec (.overTemperatureReport n) s = .next s) ∧
    (∀ l : List Nat, let u : State := { s with bdg := { s.bdg with volt := l } }
      (s.aon.inReset = false → (∀ x ∈ l, x ∉ s.bdg.volt) → exec (.voltageSample l) s = .next u) ∧
      (∀ x ∈ l, s.aon.inReset = false → x ∈ s.bdg.volt → (∀ z ∈ l, z ∈ s.bdg.volt → x ≤ z) → exec (.voltageSample l) s = .next (u.forceSafe 0xA x)))) ∧
  (∀ (s : State) (w : Writer) (v : W64),
    let may : Prop := bits v 15 0 = 0x5AFE ∧ s.rb Key.bdgStat 62 = true ∧ s.rf Key.bdgStat 55 48 = 0x0F ∧ s.bdg.selfTest = true ∧
      s.bdg.settAlive = true ∧ s.boot.tested = true ∧ s.dram.bootDone = true
    (w.secure = false ∨ w.lvl ≠ 3 ∨ ¬ may → exec (.badgerRelease w v) s = .next s) ∧
    (w.secure = true → w.lvl = 3 → may → ∃ y, exec (.badgerRelease w v) s = .next y ∧ y.rb Key.bdgStat 63 = false ∧ y.rb Key.bdgStat 62 = false ∧
      y.cio.inhBdg = false ∧ y.rf Key.bdgStat 55 48 = 0x0F ∧ y.mem = s.mem ∧ y.bdg = s.bdg)) ∧
  (∀ (s : State) (n tid : Nat) (portB : Bool) (v : W64), n < 32 →
    let on : Prop := s.rb (Key.bdgChcfg n) 63 = true
    let failed : Prop := s.rb (Key.bdgChstat n) 63 = true
    let tidA := s.rf (Key.bdgChtid n) 25 16
    let tidB := s.rf (Key.bdgChtid n) 9 0
    let closed : State := { s with bdg := { s.bdg with rounds := tdel s.bdg.rounds n } }
    let fails (kind : Nat) : State :=
      let u := (closed.setRf (Key.bdgChstat n) 63 63 1).setRf (Key.bdgChstat n) 62 61 kind
      if s.rb (Key.bdgChcfg n) 62 = true then u.trip (BitVec.ofNat 16 (s.rf (Key.bdgChcfg n) 47 32)) else u.forceSafe 5 n
    (¬ on → exec (.channelPortWrite n portB tid v) s = .next s) ∧
    (tfind s.bdg.rounds n = none → on →
      (tid ≠ (if portB = true then tidB else tidA) ∨ failed → exec (.channelPortWrite n portB tid v) s = .next s) ∧
      (tid = (if portB = true then tidB else tidA) → ¬ failed → exec (.channelPortWrite n portB tid v) s =
        .next { s with bdg := { s.bdg with rounds := tput s.bdg.rounds n { portB := portB, value := v, tidA := tidA, tidB := tidB } } })) ∧
    (∀ r, tfind s.bdg.rounds n = some r → on → ¬ failed → tid = (if portB = true then r.tidB else r.tidA) →
      exec (.channelPortWrite n portB tid v) s = .next (if r.portB = portB then fails 3
        else if r.value = v then closed.count (Key.bdgChstat n) 31 0 1 else fails 1)) ∧
    ((tfind s.bdg.rounds n).isSome = true → exec (.channelWindowExpiry n) s = .next (fails 2)) ∧
    (tfind s.bdg.rounds n = none → exec (.channelWindowExpiry n) s = .next s) ∧
    (on → ¬ failed → exec (.channelPeriodExpiry n) s = .next (fails 2)) ∧ (¬ on ∨ failed → exec (.channelPeriodExpiry n) s = .next s) ∧
    (let units := BitVec.ofNat 16 (s.rf (Key.bdgChcfg n) 47 32)
     ((∀ u < 16, units.getLsbD u = true → s.guBusy u = false) → exec (.channelFailClear n) s = .next (s.setRf (Key.bdgChstat n) 63 63 0)) ∧
     (∀ u < 16, units.getLsbD u = true → s.guBusy u = true → exec (.channelFailClear n) s = .next s)) ∧
    (∀ w : Writer, (w.secure = false ∨ w.lvl ≠ 3 → exec (.bdgChtidWrite w n v) s = .next s) ∧
      (w.secure = true → w.lvl = 3 → bits v 25 16 ≤ 767 → bits v 9 0 ≤ 767 →
        (bits v 25 16 / 16 = bits v 9 0 / 16 → (∀ u < 16, s.guBusy u = false) → exec (.bdgChtidWrite w n v) s = .next s) ∧
        (bits v 25 16 / 16 ≠ bits v 9 0 / 16 → (∀ u < 16, s.guBusy u = false) ∨ (on ∧ (bits v 25 16 = tidA ↔ bits v 9 0 ≠ tidB)) →
          ∃ y, exec (.bdgChtidWrite w n v) s = .next y ∧ y.rf (Key.bdgChtid n) 25 16 = bits v 25 16 ∧ y.rf (Key.bdgChtid n) 9 0 = bits v 9 0 ∧
            y.bdg = s.bdg) ∧
        (∀ u < 16, s.guBusy u = true → (¬ on ∨ (bits v 25 16 = tidA ↔ bits v 9 0 = tidB)) →
          exec (.bdgChtidWrite w n v) s = .next (s.setRf Key.bdgStat 0 0 1))))) ∧
  (∀ (s : State) (c : Nat), c < 48 →
    let evt (u : State) : State := if s.rf Key.bdgCrtctl 9 0 = 0 then u else u.raise (s.rf Key.bdgCrtctl 9 0) 0
    let allowed : Prop := bits (s.core c).corectl 31 16 = 0 ∧ (s.cluster (c / 4)).off = false ∧ c ∉ s.bdg.lost ∧
      ∀ n < 32, s.rb (Key.bdgChcfg n) 63 = true →
        s.rf (Key.bdgChtid n) 25 16 / 16 ≠ c ∧ s.rf (Key.bdgChtid n) 9 0 / 16 ≠ c
    let scrap : Prop := s.boot.lcEarly = 4 ∨ s.boot.lcLate = 4
    (s.rb Key.bdgCrtctl 63 = false ∨ scrap ∨ s.bdg.slot ≠ [] ∨ s.bdg.test.isSome = true → exec .crtSlotStart s = .next s) ∧
    (s.rb Key.bdgCrtctl 63 = true → ¬ scrap → s.bdg.slot = [] → s.bdg.test = none →
      let begun (b : Badger) : Prop := exec .crtSlotStart s = .next (evt (({ s with bdg :=
        { b with slot := s.bdg.postponed.erase c ++ [c], postponed := [] } }).setRf Key.bdgCrtstat 61 56 c))
      (∀ r, s.bdg.woken = c :: r → begun { s.bdg with woken := r }) ∧
      (s.bdg.woken = [] → s.bdg.crtNext = c → begun { s.bdg with crtNext := (c + 1) % 48 })) ∧
    (s.bdg.slot = [] ∨ scrap ∨ s.bdg.test.isSome = true → exec .crtTestStart s = .next s) ∧
    (∀ r, s.bdg.slot = c :: r → ¬ scrap → s.bdg.test = none →
      (¬ allowed → exec .crtTestStart s = .next { s with bdg := { s.bdg with slot := r, postponed := s.bdg.postponed ++ [c] } }) ∧
      (allowed → (s.core c).fenced = false → s.fenceReady c = false → exec .crtTestStart s = .next s) ∧
      (allowed → (s.core c).fenced = true ∨ s.fenceReady c = true → ∃ y, exec .crtTestStart s = .next y ∧ y.bdg = { s.bdg with slot := r, test := some c } ∧
        (y.core c).fencedCrt = true ∧ (y.core c).pwr = .c0 ∧ (y.core c).l2tlb = [] ∧ y.mem = s.mem ∧
        ∀ i < 16, (y.thr (16 * c + i)).st = (s.thr (16 * c + i)).st ∧ (y.thr (16 * c + i)).den = (s.thr (16 * c + i)).den)) ∧
    (∀ pass, s.bdg.test = none → exec (.crtTestEnd pass) s = .next s) ∧
    (s.bdg.test = some c →
      (∃ y, exec (.crtTestEnd true) s = .next y ∧ y.bdg.test = none ∧ y.rb Key.bdgCrtstat c = false ∧ (y.core c).fencedCrt = false ∧
        (y.core c).l1d = [] ∧ (y.core c).l1i = [] ∧ y.mem = s.mem) ∧
      ∃ y, exec (.crtTestEnd false) s = .next y ∧ y.bdg.test = none ∧ (y.core c).crtFailed = true ∧ (y.core c).fenced = true ∧
        y.rb Key.bdgCrtfail c = true ∧ (s.rb Key.bdgCoresafe c = true → y.rb Key.bdgStat 63 = true)) ∧
    ((s.cluster (c / 4)).off = true ∨ (s.cluster (c / 4)).up = false → exec (.crtLapse c) s = .next s) ∧
    ((s.cluster (c / 4)).off = false → (s.cluster (c / 4)).up = true →
      let u := evt (s.setRf Key.bdgCrtstat c c 1)
      exec (.crtLapse c) s = .next (if s.rb Key.bdgCfg 63 = true then u.forceSafe 0xC c else u)))
end

