-- ==== Sys2Proof/Laws/State.lean ====
section
/-! SUPPORT. What each shared update of State and of a thread leaves: one lemma per field and update, true by rfl. -/

namespace Sys2Proof.Machine

@[simp] theorem State.setThr_pending (s : State) (t : Nat) (th : Thread) : (s.setThr t th).pending = s.pending := rfl
@[simp] theorem State.setThr_fresh (s : State) (t : Nat) (th : Thread) : (s.setThr t th).fresh = s.fresh := rfl
@[simp] theorem State.setThr_cio (s : State) (t : Nat) (th : Thread) : (s.setThr t th).cio = s.cio := rfl
@[simp] theorem State.setThr_rlk (s : State) (t : Nat) (th : Thread) : (s.setThr t th).rlk = s.rlk := rfl
@[simp] theorem State.setThr_pair (s : State) (t : Nat) (th : Thread) : (s.setThr t th).pair = s.pair := rfl
@[simp] theorem State.setThr_tsn (s : State) (t : Nat) (th : Thread) : (s.setThr t th).tsn = s.tsn := rfl
@[simp] theorem State.setThr_hse (s : State) (t : Nat) (th : Thread) : (s.setThr t th).hse = s.hse := rfl
@[simp] theorem State.setThr_cores (s : State) (t : Nat) (th : Thread) : (s.setThr t th).cores = s.cores := rfl
@[simp] theorem State.setThr_clusters (s : State) (t : Nat) (th : Thread) : (s.setThr t th).clusters = s.clusters := rfl
@[simp] theorem State.setThr_l3 (s : State) (t : Nat) (th : Thread) : (s.setThr t th).l3 = s.l3 := rfl
@[simp] theorem State.setThr_dir (s : State) (t : Nat) (th : Thread) : (s.setThr t th).dir = s.dir := rfl
@[simp] theorem State.setThr_dirStamp (s : State) (t : Nat) (th : Thread) : (s.setThr t th).dirStamp = s.dirStamp := rfl
@[simp] theorem State.setThr_mem (s : State) (t : Nat) (th : Thread) : (s.setThr t th).mem = s.mem := rfl
@[simp] theorem State.setThr_regs (s : State) (t : Nat) (th : Thread) : (s.setThr t th).regs = s.regs := rfl
@[simp] theorem State.setThr_dram (s : State) (t : Nat) (th : Thread) : (s.setThr t th).dram = s.dram := rfl
@[simp] theorem State.setThr_scrReady (s : State) (t : Nat) (th : Thread) : (s.setThr t th).scrReady = s.scrReady := rfl
@[simp] theorem State.setThr_evPend (s : State) (t : Nat) (th : Thread) : (s.setThr t th).evPend = s.evPend := rfl
@[simp] theorem State.setThr_evBind (s : State) (t : Nat) (th : Thread) : (s.setThr t th).evBind = s.evBind := rfl
@[simp] theorem State.setThr_haltUnread (s : State) (t : Nat) (th : Thread) : (s.setThr t th).haltUnread = s.haltUnread := rfl
@[simp] theorem State.setThr_hingeWait (s : State) (t : Nat) (th : Thread) : (s.setThr t th).hingeWait = s.hingeWait := rfl
@[simp] theorem State.setThr_hingeOut (s : State) (t : Nat) (th : Thread) : (s.setThr t th).hingeOut = s.hingeOut := rfl
@[simp] theorem State.setThr_hingeHeld (s : State) (t : Nat) (th : Thread) : (s.setThr t th).hingeHeld = s.hingeHeld := rfl
@[simp] theorem State.setThr_tlbi (s : State) (t : Nat) (th : Thread) : (s.setThr t th).tlbi = s.tlbi := rfl
@[simp] theorem State.setThr_ioLog (s : State) (t : Nat) (th : Thread) : (s.setThr t th).ioLog = s.ioLog := rfl
@[simp] theorem State.setThr_dmaLate (s : State) (t : Nat) (th : Thread) : (s.setThr t th).dmaLate = s.dmaLate := rfl
@[simp] theorem State.setThr_dmaWait (s : State) (t : Nat) (th : Thread) : (s.setThr t th).dmaWait = s.dmaWait := rfl
@[simp] theorem State.setThr_ecamWrites (s : State) (t : Nat) (th : Thread) : (s.setThr t th).ecamWrites = s.ecamWrites := rfl
@[simp] theorem State.setThr_keyw (s : State) (t : Nat) (th : Thread) : (s.setThr t th).keyw = s.keyw := rfl
@[simp] theorem State.setThr_cry (s : State) (t : Nat) (th : Thread) : (s.setThr t th).cry = s.cry := rfl
@[simp] theorem State.setThr_aon (s : State) (t : Nat) (th : Thread) : (s.setThr t th).aon = s.aon := rfl
@[simp] theorem State.setThr_boot (s : State) (t : Nat) (th : Thread) : (s.setThr t th).boot = s.boot := rfl
@[simp] theorem State.setThr_sett (s : State) (t : Nat) (th : Thread) : (s.setThr t th).sett = s.sett := rfl
@[simp] theorem State.setThr_settThreads (s : State) (t : Nat) (th : Thread) : (s.setThr t th).settThreads = s.settThreads := rfl
@[simp] theorem State.setThr_bdg (s : State) (t : Nat) (th : Thread) : (s.setThr t th).bdg = s.bdg := rfl
@[simp] theorem State.setThr_bdgThreads (s : State) (t : Nat) (th : Thread) : (s.setThr t th).bdgThreads = s.bdgThreads := rfl
@[simp] theorem State.setThr_bdgSram (s : State) (t : Nat) (th : Thread) : (s.setThr t th).bdgSram = s.bdgSram := rfl

@[simp] theorem State.setCore_pending (s : State) (c : Nat) (x : Core) : (s.setCore c x).pending = s.pending := rfl
@[simp] theorem State.setCore_fresh (s : State) (c : Nat) (x : Core) : (s.setCore c x).fresh = s.fresh := rfl
@[simp] theorem State.setCore_cio (s : State) (c : Nat) (x : Core) : (s.setCore c x).cio = s.cio := rfl
@[simp] theorem State.setCore_rlk (s : State) (c : Nat) (x : Core) : (s.setCore c x).rlk = s.rlk := rfl
@[simp] theorem State.setCore_pair (s : State) (c : Nat) (x : Core) : (s.setCore c x).pair = s.pair := rfl
@[simp] theorem State.setCore_tsn (s : State) (c : Nat) (x : Core) : (s.setCore c x).tsn = s.tsn := rfl
@[simp] theorem State.setCore_hse (s : State) (c : Nat) (x : Core) : (s.setCore c x).hse = s.hse := rfl
@[simp] theorem State.setCore_threads (s : State) (c : Nat) (x : Core) : (s.setCore c x).threads = s.threads := rfl
@[simp] theorem State.setCore_clusters (s : State) (c : Nat) (x : Core) : (s.setCore c x).clusters = s.clusters := rfl
@[simp] theorem State.setCore_l3 (s : State) (c : Nat) (x : Core) : (s.setCore c x).l3 = s.l3 := rfl
@[simp] theorem State.setCore_dir (s : State) (c : Nat) (x : Core) : (s.setCore c x).dir = s.dir := rfl
@[simp] theorem State.setCore_dirStamp (s : State) (c : Nat) (x : Core) : (s.setCore c x).dirStamp = s.dirStamp := rfl
@[simp] theorem State.setCore_mem (s : State) (c : Nat) (x : Core) : (s.setCore c x).mem = s.mem := rfl
@[simp] theorem State.setCore_regs (s : State) (c : Nat) (x : Core) : (s.setCore c x).regs = s.regs := rfl
@[simp] theorem State.setCore_dram (s : State) (c : Nat) (x : Core) : (s.setCore c x).dram = s.dram := rfl
@[simp] theorem State.setCore_scrReady (s : State) (c : Nat) (x : Core) : (s.setCore c x).scrReady = s.scrReady := rfl
@[simp] theorem State.setCore_evPend (s : State) (c : Nat) (x : Core) : (s.setCore c x).evPend = s.evPend := rfl
@[simp] theorem State.setCore_evBind (s : State) (c : Nat) (x : Core) : (s.setCore c x).evBind = s.evBind := rfl
@[simp] theorem State.setCore_haltUnread (s : State) (c : Nat) (x : Core) : (s.setCore c x).haltUnread = s.haltUnread := rfl
@[simp] theorem State.setCore_hingeWait (s : State) (c : Nat) (x : Core) : (s.setCore c x).hingeWait = s.hingeWait := rfl
@[simp] theorem State.setCore_hingeOut (s : State) (c : Nat) (x : Core) : (s.setCore c x).hingeOut = s.hingeOut := rfl
@[simp] theorem State.setCore_hingeHeld (s : State) (c : Nat) (x : Core) : (s.setCore c x).hingeHeld = s.hingeHeld := rfl
@[simp] theorem State.setCore_tlbi (s : State) (c : Nat) (x : Core) : (s.setCore c x).tlbi = s.tlbi := rfl
@[simp] theorem State.setCore_ioLog (s : State) (c : Nat) (x : Core) : (s.setCore c x).ioLog = s.ioLog := rfl
@[simp] theorem State.setCore_dmaLate (s : State) (c : Nat) (x : Core) : (s.setCore c x).dmaLate = s.dmaLate := rfl
@[simp] theorem State.setCore_dmaWait (s : State) (c : Nat) (x : Core) : (s.setCore c x).dmaWait = s.dmaWait := rfl
@[simp] theorem State.setCore_ecamWrites (s : State) (c : Nat) (x : Core) : (s.setCore c x).ecamWrites = s.ecamWrites := rfl
@[simp] theorem State.setCore_keyw (s : State) (c : Nat) (x : Core) : (s.setCore c x).keyw = s.keyw := rfl
@[simp] theorem State.setCore_cry (s : State) (c : Nat) (x : Core) : (s.setCore c x).cry = s.cry := rfl
@[simp] theorem State.setCore_aon (s : State) (c : Nat) (x : Core) : (s.setCore c x).aon = s.aon := rfl
@[simp] theorem State.setCore_boot (s : State) (c : Nat) (x : Core) : (s.setCore c x).boot = s.boot := rfl
@[simp] theorem State.setCore_sett (s : State) (c : Nat) (x : Core) : (s.setCore c x).sett = s.sett := rfl
@[simp] theorem State.setCore_settThreads (s : State) (c : Nat) (x : Core) : (s.setCore c x).settThreads = s.settThreads := rfl
@[simp] theorem State.setCore_bdg (s : State) (c : Nat) (x : Core) : (s.setCore c x).bdg = s.bdg := rfl
@[simp] theorem State.setCore_bdgThreads (s : State) (c : Nat) (x : Core) : (s.setCore c x).bdgThreads = s.bdgThreads := rfl
@[simp] theorem State.setCore_bdgSram (s : State) (c : Nat) (x : Core) : (s.setCore c x).bdgSram = s.bdgSram := rfl

@[simp] theorem State.setCluster_pending (s : State) (k : Nat) (x : Cluster) : (s.setCluster k x).pending = s.pending := rfl
@[simp] theorem State.setCluster_fresh (s : State) (k : Nat) (x : Cluster) : (s.setCluster k x).fresh = s.fresh := rfl
@[simp] theorem State.setCluster_cio (s : State) (k : Nat) (x : Cluster) : (s.setCluster k x).cio = s.cio := rfl
@[simp] theorem State.setCluster_rlk (s : State) (k : Nat) (x : Cluster) : (s.setCluster k x).rlk = s.rlk := rfl
@[simp] theorem State.setCluster_pair (s : State) (k : Nat) (x : Cluster) : (s.setCluster k x).pair = s.pair := rfl
@[simp] theorem State.setCluster_tsn (s : State) (k : Nat) (x : Cluster) : (s.setCluster k x).tsn = s.tsn := rfl
@[simp] theorem State.setCluster_hse (s : State) (k : Nat) (x : Cluster) : (s.setCluster k x).hse = s.hse := rfl
@[simp] theorem State.setCluster_threads (s : State) (k : Nat) (x : Cluster) : (s.setCluster k x).threads = s.threads := rfl
@[simp] theorem State.setCluster_cores (s : State) (k : Nat) (x : Cluster) : (s.setCluster k x).cores = s.cores := rfl
@[simp] theorem State.setCluster_l3 (s : State) (k : Nat) (x : Cluster) : (s.setCluster k x).l3 = s.l3 := rfl
@[simp] theorem State.setCluster_dir (s : State) (k : Nat) (x : Cluster) : (s.setCluster k x).dir = s.dir := rfl
@[simp] theorem State.setCluster_dirStamp (s : State) (k : Nat) (x : Cluster) : (s.setCluster k x).dirStamp = s.dirStamp := rfl
@[simp] theorem State.setCluster_mem (s : State) (k : Nat) (x : Cluster) : (s.setCluster k x).mem = s.mem := rfl
@[simp] theorem State.setCluster_regs (s : State) (k : Nat) (x : Cluster) : (s.setCluster k x).regs = s.regs := rfl
@[simp] theorem State.setCluster_dram (s : State) (k : Nat) (x : Cluster) : (s.setCluster k x).dram = s.dram := rfl
@[simp] theorem State.setCluster_scrReady (s : State) (k : Nat) (x : Cluster) : (s.setCluster k x).scrReady = s.scrReady := rfl
@[simp] theorem State.setCluster_evPend (s : State) (k : Nat) (x : Cluster) : (s.setCluster k x).evPend = s.evPend := rfl
@[simp] theorem State.setCluster_evBind (s : State) (k : Nat) (x : Cluster) : (s.setCluster k x).evBind = s.evBind := rfl
@[simp] theorem State.setCluster_haltUnread (s : State) (k : Nat) (x : Cluster) : (s.setCluster k x).haltUnread = s.haltUnread := rfl
@[simp] theorem State.setCluster_hingeWait (s : State) (k : Nat) (x : Cluster) : (s.setCluster k x).hingeWait = s.hingeWait := rfl
@[simp] theorem State.setCluster_hingeOut (s : State) (k : Nat) (x : Cluster) : (s.setCluster k x).hingeOut = s.hingeOut := rfl
@[simp] theorem State.setCluster_hingeHeld (s : State) (k : Nat) (x : Cluster) : (s.setCluster k x).hingeHeld = s.hingeHeld := rfl
@[simp] theorem State.setCluster_tlbi (s : State) (k : Nat) (x : Cluster) : (s.setCluster k x).tlbi = s.tlbi := rfl
@[simp] theorem State.setCluster_ioLog (s : State) (k : Nat) (x : Cluster) : (s.setCluster k x).ioLog = s.ioLog := rfl
@[simp] theorem State.setCluster_dmaLate (s : State) (k : Nat) (x : Cluster) : (s.setCluster k x).dmaLate = s.dmaLate := rfl
@[simp] theorem State.setCluster_dmaWait (s : State) (k : Nat) (x : Cluster) : (s.setCluster k x).dmaWait = s.dmaWait := rfl
@[simp] theorem State.setCluster_ecamWrites (s : State) (k : Nat) (x : Cluster) : (s.setCluster k x).ecamWrites = s.ecamWrites := rfl
@[simp] theorem State.setCluster_keyw (s : State) (k : Nat) (x : Cluster) : (s.setCluster k x).keyw = s.keyw := rfl
@[simp] theorem State.setCluster_cry (s : State) (k : Nat) (x : Cluster) : (s.setCluster k x).cry = s.cry := rfl
@[simp] theorem State.setCluster_aon (s : State) (k : Nat) (x : Cluster) : (s.setCluster k x).aon = s.aon := rfl
@[simp] theorem State.setCluster_boot (s : State) (k : Nat) (x : Cluster) : (s.setCluster k x).boot = s.boot := rfl
@[simp] theorem State.setCluster_sett (s : State) (k : Nat) (x : Cluster) : (s.setCluster k x).sett = s.sett := rfl
@[simp] theorem State.setCluster_settThreads (s : State) (k : Nat) (x : Cluster) : (s.setCluster k x).settThreads = s.settThreads := rfl
@[simp] theorem State.setCluster_bdg (s : State) (k : Nat) (x : Cluster) : (s.setCluster k x).bdg = s.bdg := rfl
@[simp] theorem State.setCluster_bdgThreads (s : State) (k : Nat) (x : Cluster) : (s.setCluster k x).bdgThreads = s.bdgThreads := rfl
@[simp] theorem State.setCluster_bdgSram (s : State) (k : Nat) (x : Cluster) : (s.setCluster k x).bdgSram = s.bdgSram := rfl

@[simp] theorem State.setReg_pending (s : State) (k : Nat) (v : W64) : (s.setReg k v).pending = s.pending := rfl
@[simp] theorem State.setReg_fresh (s : State) (k : Nat) (v : W64) : (s.setReg k v).fresh = s.fresh := rfl
@[simp] theorem State.setReg_cio (s : State) (k : Nat) (v : W64) : (s.setReg k v).cio = s.cio := rfl
@[simp] theorem State.setReg_rlk (s : State) (k : Nat) (v : W64) : (s.setReg k v).rlk = s.rlk := rfl
@[simp] theorem State.setReg_pair (s : State) (k : Nat) (v : W64) : (s.setReg k v).pair = s.pair := rfl
@[simp] theorem State.setReg_tsn (s : State) (k : Nat) (v : W64) : (s.setReg k v).tsn = s.tsn := rfl
@[simp] theorem State.setReg_hse (s : State) (k : Nat) (v : W64) : (s.setReg k v).hse = s.hse := rfl
@[simp] theorem State.setReg_threads (s : State) (k : Nat) (v : W64) : (s.setReg k v).threads = s.threads := rfl
@[simp] theorem State.setReg_cores (s : State) (k : Nat) (v : W64) : (s.setReg k v).cores = s.cores := rfl
@[simp] theorem State.setReg_clusters (s : State) (k : Nat) (v : W64) : (s.setReg k v).clusters = s.clusters := rfl
@[simp] theorem State.setReg_l3 (s : State) (k : Nat) (v : W64) : (s.setReg k v).l3 = s.l3 := rfl
@[simp] theorem State.setReg_dir (s : State) (k : Nat) (v : W64) : (s.setReg k v).dir = s.dir := rfl
@[simp] theorem State.setReg_dirStamp (s : State) (k : Nat) (v : W64) : (s.setReg k v).dirStamp = s.dirStamp := rfl
@[simp] theorem State.setReg_mem (s : State) (k : Nat) (v : W64) : (s.setReg k v).mem = s.mem := rfl
@[simp] theorem State.setReg_dram (s : State) (k : Nat) (v : W64) : (s.setReg k v).dram = s.dram := rfl
@[simp] theorem State.setReg_scrReady (s : State) (k : Nat) (v : W64) : (s.setReg k v).scrReady = s.scrReady := rfl
@[simp] theorem State.setReg_evPend (s : State) (k : Nat) (v : W64) : (s.setReg k v).evPend = s.evPend := rfl
@[simp] theorem State.setReg_evBind (s : State) (k : Nat) (v : W64) : (s.setReg k v).evBind = s.evBind := rfl
@[simp] theorem State.setReg_haltUnread (s : State) (k : Nat) (v : W64) : (s.setReg k v).haltUnread = s.haltUnread := rfl
@[simp] theorem State.setReg_hingeWait (s : State) (k : Nat) (v : W64) : (s.setReg k v).hingeWait = s.hingeWait := rfl
@[simp] theorem State.setReg_hingeOut (s : State) (k : Nat) (v : W64) : (s.setReg k v).hingeOut = s.hingeOut := rfl
@[simp] theorem State.setReg_hingeHeld (s : State) (k : Nat) (v : W64) : (s.setReg k v).hingeHeld = s.hingeHeld := rfl
@[simp] theorem State.setReg_tlbi (s : State) (k : Nat) (v : W64) : (s.setReg k v).tlbi = s.tlbi := rfl
@[simp] theorem State.setReg_ioLog (s : State) (k : Nat) (v : W64) : (s.setReg k v).ioLog = s.ioLog := rfl
@[simp] theorem State.setReg_dmaLate (s : State) (k : Nat) (v : W64) : (s.setReg k v).dmaLate = s.dmaLate := rfl
@[simp] theorem State.setReg_dmaWait (s : State) (k : Nat) (v : W64) : (s.setReg k v).dmaWait = s.dmaWait := rfl
@[simp] theorem State.setReg_ecamWrites (s : State) (k : Nat) (v : W64) : (s.setReg k v).ecamWrites = s.ecamWrites := rfl
@[simp] theorem State.setReg_keyw (s : State) (k : Nat) (v : W64) : (s.setReg k v).keyw = s.keyw := rfl
@[simp] theorem State.setReg_cry (s : State) (k : Nat) (v : W64) : (s.setReg k v).cry = s.cry := rfl
@[simp] theorem State.setReg_aon (s : State) (k : Nat) (v : W64) : (s.setReg k v).aon = s.aon := rfl
@[simp] theorem State.setReg_boot (s : State) (k : Nat) (v : W64) : (s.setReg k v).boot = s.boot := rfl
@[simp] theorem State.setReg_sett (s : State) (k : Nat) (v : W64) : (s.setReg k v).sett = s.sett := rfl
@[simp] theorem State.setReg_settThreads (s : State) (k : Nat) (v : W64) : (s.setReg k v).settThreads = s.settThreads := rfl
@[simp] theorem State.setReg_bdg (s : State) (k : Nat) (v : W64) : (s.setReg k v).bdg = s.bdg := rfl
@[simp] theorem State.setReg_bdgThreads (s : State) (k : Nat) (v : W64) : (s.setReg k v).bdgThreads = s.bdgThreads := rfl
@[simp] theorem State.setReg_bdgSram (s : State) (k : Nat) (v : W64) : (s.setReg k v).bdgSram = s.bdgSram := rfl

@[simp] theorem State.modThr_pending (s : State) (t : Nat) (f : Thread → Thread) : (s.modThr t f).pending = s.pending := rfl
@[simp] theorem State.modThr_fresh (s : State) (t : Nat) (f : Thread → Thread) : (s.modThr t f).fresh = s.fresh := rfl
@[simp] theorem State.modThr_cio (s : State) (t : Nat) (f : Thread → Thread) : (s.modThr t f).cio = s.cio := rfl
@[simp] theorem State.modThr_rlk (s : State) (t : Nat) (f : Thread → Thread) : (s.modThr t f).rlk = s.rlk := rfl
@[simp] theorem State.modThr_pair (s : State) (t : Nat) (f : Thread → Thread) : (s.modThr t f).pair = s.pair := rfl
@[simp] theorem State.modThr_tsn (s : State) (t : Nat) (f : Thread → Thread) : (s.modThr t f).tsn = s.tsn := rfl
@[simp] theorem State.modThr_hse (s : State) (t : Nat) (f : Thread → Thread) : (s.modThr t f).hse = s.hse := rfl
@[simp] theorem State.modThr_cores (s : State) (t : Nat) (f : Thread → Thread) : (s.modThr t f).cores = s.cores := rfl
@[simp] theorem State.modThr_clusters (s : State) (t : Nat) (f : Thread → Thread) : (s.modThr t f).clusters = s.clusters := rfl
@[simp] theorem State.modThr_l3 (s : State) (t : Nat) (f : Thread → Thread) : (s.modThr t f).l3 = s.l3 := rfl
@[simp] theorem State.modThr_dir (s : State) (t : Nat) (f : Thread → Thread) : (s.modThr t f).dir = s.dir := rfl
@[simp] theorem State.modThr_dirStamp (s : State) (t : Nat) (f : Thread → Thread) : (s.modThr t f).dirStamp = s.dirStamp := rfl
@[simp] theorem State.modThr_mem (s : State) (t : Nat) (f : Thread → Thread) : (s.modThr t f).mem = s.mem := rfl
@[simp] theorem State.modThr_regs (s : State) (t : Nat) (f : Thread → Thread) : (s.modThr t f).regs = s.regs := rfl
@[simp] theorem State.modThr_dram (s : State) (t : Nat) (f : Thread → Thread) : (s.modThr t f).dram = s.dram := rfl
@[simp] theorem State.modThr_scrReady (s : State) (t : Nat) (f : Thread → Thread) : (s.modThr t f).scrReady = s.scrReady := rfl
@[simp] theorem State.modThr_evPend (s : State) (t : Nat) (f : Thread → Thread) : (s.modThr t f).evPend = s.evPend := rfl
@[simp] theorem State.modThr_evBind (s : State) (t : Nat) (f : Thread → Thread) : (s.modThr t f).evBind = s.evBind := rfl
@[simp] theorem State.modThr_haltUnread (s : State) (t : Nat) (f : Thread → Thread) : (s.modThr t f).haltUnread = s.haltUnread := rfl
@[simp] theorem State.modThr_hingeWait (s : State) (t : Nat) (f : Thread → Thread) : (s.modThr t f).hingeWait = s.hingeWait := rfl
@[simp] theorem State.modThr_hingeOut (s : State) (t : Nat) (f : Thread → Thread) : (s.modThr t f).hingeOut = s.hingeOut := rfl
@[simp] theorem State.modThr_hingeHeld (s : State) (t : Nat) (f : Thread → Thread) : (s.modThr t f).hingeHeld = s.hingeHeld := rfl
@[simp] theorem State.modThr_tlbi (s : State) (t : Nat) (f : Thread → Thread) : (s.modThr t f).tlbi = s.tlbi := rfl
@[simp] theorem State.modThr_ioLog (s : State) (t : Nat) (f : Thread → Thread) : (s.modThr t f).ioLog = s.ioLog := rfl
@[simp] theorem State.modThr_dmaLate (s : State) (t : Nat) (f : Thread → Thread) : (s.modThr t f).dmaLate = s.dmaLate := rfl
@[simp] theorem State.modThr_dmaWait (s : State) (t : Nat) (f : Thread → Thread) : (s.modThr t f).dmaWait = s.dmaWait := rfl
@[simp] theorem State.modThr_ecamWrites (s : State) (t : Nat) (f : Thread → Thread) : (s.modThr t f).ecamWrites = s.ecamWrites := rfl
@[simp] theorem State.modThr_keyw (s : State) (t : Nat) (f : Thread → Thread) : (s.modThr t f).keyw = s.keyw := rfl
@[simp] theorem State.modThr_cry (s : State) (t : Nat) (f : Thread → Thread) : (s.modThr t f).cry = s.cry := rfl
@[simp] theorem State.modThr_aon (s : State) (t : Nat) (f : Thread → Thread) : (s.modThr t f).aon = s.aon := rfl
@[simp] theorem State.modThr_boot (s : State) (t : Nat) (f : Thread → Thread) : (s.modThr t f).boot = s.boot := rfl
@[simp] theorem State.modThr_sett (s : State) (t : Nat) (f : Thread → Thread) : (s.modThr t f).sett = s.sett := rfl
@[simp] theorem State.modThr_settThreads (s : State) (t : Nat) (f : Thread → Thread) : (s.modThr t f).settThreads = s.settThreads := rfl
@[simp] theorem State.modThr_bdg (s : State) (t : Nat) (f : Thread → Thread) : (s.modThr t f).bdg = s.bdg := rfl
@[simp] theorem State.modThr_bdgThreads (s : State) (t : Nat) (f : Thread → Thread) : (s.modThr t f).bdgThreads = s.bdgThreads := rfl
@[simp] theorem State.modThr_bdgSram (s : State) (t : Nat) (f : Thread → Thread) : (s.modThr t f).bdgSram = s.bdgSram := rfl

@[simp] theorem State.modCore_pending (s : State) (c : Nat) (f : Core → Core) : (s.modCore c f).pending = s.pending := rfl
@[simp] theorem State.modCore_fresh (s : State) (c : Nat) (f : Core → Core) : (s.modCore c f).fresh = s.fresh := rfl
@[simp] theorem State.modCore_cio (s : State) (c : Nat) (f : Core → Core) : (s.modCore c f).cio = s.cio := rfl
@[simp] theorem State.modCore_rlk (s : State) (c : Nat) (f : Core → Core) : (s.modCore c f).rlk = s.rlk := rfl
@[simp] theorem State.modCore_pair (s : State) (c : Nat) (f : Core → Core) : (s.modCore c f).pair = s.pair := rfl
@[simp] theorem State.modCore_tsn (s : State) (c : Nat) (f : Core → Core) : (s.modCore c f).tsn = s.tsn := rfl
@[simp] theorem State.modCore_hse (s : State) (c : Nat) (f : Core → Core) : (s.modCore c f).hse = s.hse := rfl
@[simp] theorem State.modCore_threads (s : State) (c : Nat) (f : Core → Core) : (s.modCore c f).threads = s.threads := rfl
@[simp] theorem State.modCore_clusters (s : State) (c : Nat) (f : Core → Core) : (s.modCore c f).clusters = s.clusters := rfl
@[simp] theorem State.modCore_l3 (s : State) (c : Nat) (f : Core → Core) : (s.modCore c f).l3 = s.l3 := rfl
@[simp] theorem State.modCore_dir (s : State) (c : Nat) (f : Core → Core) : (s.modCore c f).dir = s.dir := rfl
@[simp] theorem State.modCore_dirStamp (s : State) (c : Nat) (f : Core → Core) : (s.modCore c f).dirStamp = s.dirStamp := rfl
@[simp] theorem State.modCore_mem (s : State) (c : Nat) (f : Core → Core) : (s.modCore c f).mem = s.mem := rfl
@[simp] theorem State.modCore_regs (s : State) (c : Nat) (f : Core → Core) : (s.modCore c f).regs = s.regs := rfl
@[simp] theorem State.modCore_dram (s : State) (c : Nat) (f : Core → Core) : (s.modCore c f).dram = s.dram := rfl
@[simp] theorem State.modCore_scrReady (s : State) (c : Nat) (f : Core → Core) : (s.modCore c f).scrReady = s.scrReady := rfl
@[simp] theorem State.modCore_evPend (s : State) (c : Nat) (f : Core → Core) : (s.modCore c f).evPend = s.evPend := rfl
@[simp] theorem State.modCore_evBind (s : State) (c : Nat) (f : Core → Core) : (s.modCore c f).evBind = s.evBind := rfl
@[simp] theorem State.modCore_haltUnread (s : State) (c : Nat) (f : Core → Core) : (s.modCore c f).haltUnread = s.haltUnread := rfl
@[simp] theorem State.modCore_hingeWait (s : State) (c : Nat) (f : Core → Core) : (s.modCore c f).hingeWait = s.hingeWait := rfl
@[simp] theorem State.modCore_hingeOut (s : State) (c : Nat) (f : Core → Core) : (s.modCore c f).hingeOut = s.hingeOut := rfl
@[simp] theorem State.modCore_hingeHeld (s : State) (c : Nat) (f : Core → Core) : (s.modCore c f).hingeHeld = s.hingeHeld := rfl
@[simp] theorem State.modCore_tlbi (s : State) (c : Nat) (f : Core → Core) : (s.modCore c f).tlbi = s.tlbi := rfl
@[simp] theorem State.modCore_ioLog (s : State) (c : Nat) (f : Core → Core) : (s.modCore c f).ioLog = s.ioLog := rfl
@[simp] theorem State.modCore_dmaLate (s : State) (c : Nat) (f : Core → Core) : (s.modCore c f).dmaLate = s.dmaLate := rfl
@[simp] theorem State.modCore_dmaWait (s : State) (c : Nat) (f : Core → Core) : (s.modCore c f).dmaWait = s.dmaWait := rfl
@[simp] theorem State.modCore_ecamWrites (s : State) (c : Nat) (f : Core → Core) : (s.modCore c f).ecamWrites = s.ecamWrites := rfl
@[simp] theorem State.modCore_keyw (s : State) (c : Nat) (f : Core → Core) : (s.modCore c f).keyw = s.keyw := rfl
@[simp] theorem State.modCore_cry (s : State) (c : Nat) (f : Core → Core) : (s.modCore c f).cry = s.cry := rfl
@[simp] theorem State.modCore_aon (s : State) (c : Nat) (f : Core → Core) : (s.modCore c f).aon = s.aon := rfl
@[simp] theorem State.modCore_boot (s : State) (c : Nat) (f : Core → Core) : (s.modCore c f).boot = s.boot := rfl
@[simp] theorem State.modCore_sett (s : State) (c : Nat) (f : Core → Core) : (s.modCore c f).sett = s.sett := rfl
@[simp] theorem State.modCore_settThreads (s : State) (c : Nat) (f : Core → Core) : (s.modCore c f).settThreads = s.settThreads := rfl
@[simp] theorem State.modCore_bdg (s : State) (c : Nat) (f : Core → Core) : (s.modCore c f).bdg = s.bdg := rfl
@[simp] theorem State.modCore_bdgThreads (s : State) (c : Nat) (f : Core → Core) : (s.modCore c f).bdgThreads = s.bdgThreads := rfl
@[simp] theorem State.modCore_bdgSram (s : State) (c : Nat) (f : Core → Core) : (s.modCore c f).bdgSram = s.bdgSram := rfl

@[simp] theorem State.modCluster_pending (s : State) (k : Nat) (f : Cluster → Cluster) : (s.modCluster k f).pending = s.pending := rfl
@[simp] theorem State.modCluster_fresh (s : State) (k : Nat) (f : Cluster → Cluster) : (s.modCluster k f).fresh = s.fresh := rfl
@[simp] theorem State.modCluster_cio (s : State) (k : Nat) (f : Cluster → Cluster) : (s.modCluster k f).cio = s.cio := rfl
@[simp] theorem State.modCluster_rlk (s : State) (k : Nat) (f : Cluster → Cluster) : (s.modCluster k f).rlk = s.rlk := rfl
@[simp] theorem State.modCluster_pair (s : State) (k : Nat) (f : Cluster → Cluster) : (s.modCluster k f).pair = s.pair := rfl
@[simp] theorem State.modCluster_tsn (s : State) (k : Nat) (f : Cluster → Cluster) : (s.modCluster k f).tsn = s.tsn := rfl
@[simp] theorem State.modCluster_hse (s : State) (k : Nat) (f : Cluster → Cluster) : (s.modCluster k f).hse = s.hse := rfl
@[simp] theorem State.modCluster_threads (s : State) (k : Nat) (f : Cluster → Cluster) : (s.modCluster k f).threads = s.threads := rfl
@[simp] theorem State.modCluster_cores (s : State) (k : Nat) (f : Cluster → Cluster) : (s.modCluster k f).cores = s.cores := rfl
@[simp] theorem State.modCluster_l3 (s : State) (k : Nat) (f : Cluster → Cluster) : (s.modCluster k f).l3 = s.l3 := rfl
@[simp] theorem State.modCluster_dir (s : State) (k : Nat) (f : Cluster → Cluster) : (s.modCluster k f).dir = s.dir := rfl
@[simp] theorem State.modCluster_dirStamp (s : State) (k : Nat) (f : Cluster → Cluster) : (s.modCluster k f).dirStamp = s.dirStamp := rfl
@[simp] theorem State.modCluster_mem (s : State) (k : Nat) (f : Cluster → Cluster) : (s.modCluster k f).mem = s.mem := rfl
@[simp] theorem State.modCluster_regs (s : State) (k : Nat) (f : Cluster → Cluster) : (s.modCluster k f).regs = s.regs := rfl
@[simp] theorem State.modCluster_dram (s : State) (k : Nat) (f : Cluster → Cluster) : (s.modCluster k f).dram = s.dram := rfl
@[simp] theorem State.modCluster_scrReady (s : State) (k : Nat) (f : Cluster → Cluster) : (s.modCluster k f).scrReady = s.scrReady := rfl
@[simp] theorem State.modCluster_evPend (s : State) (k : Nat) (f : Cluster → Cluster) : (s.modCluster k f).evPend = s.evPend := rfl
@[simp] theorem State.modCluster_evBind (s : State) (k : Nat) (f : Cluster → Cluster) : (s.modCluster k f).evBind = s.evBind := rfl
@[simp] theorem State.modCluster_haltUnread (s : State) (k : Nat) (f : Cluster → Cluster) : (s.modCluster k f).haltUnread = s.haltUnread := rfl
@[simp] theorem State.modCluster_hingeWait (s : State) (k : Nat) (f : Cluster → Cluster) : (s.modCluster k f).hingeWait = s.hingeWait := rfl
@[simp] theorem State.modCluster_hingeOut (s : State) (k : Nat) (f : Cluster → Cluster) : (s.modCluster k f).hingeOut = s.hingeOut := rfl
@[simp] theorem State.modCluster_hingeHeld (s : State) (k : Nat) (f : Cluster → Cluster) : (s.modCluster k f).hingeHeld = s.hingeHeld := rfl
@[simp] theorem State.modCluster_tlbi (s : State) (k : Nat) (f : Cluster → Cluster) : (s.modCluster k f).tlbi = s.tlbi := rfl
@[simp] theorem State.modCluster_ioLog (s : State) (k : Nat) (f : Cluster → Cluster) : (s.modCluster k f).ioLog = s.ioLog := rfl
@[simp] theorem State.modCluster_dmaLate (s : State) (k : Nat) (f : Cluster → Cluster) : (s.modCluster k f).dmaLate = s.dmaLate := rfl
@[simp] theorem State.modCluster_dmaWait (s : State) (k : Nat) (f : Cluster → Cluster) : (s.modCluster k f).dmaWait = s.dmaWait := rfl
@[simp] theorem State.modCluster_ecamWrites (s : State) (k : Nat) (f : Cluster → Cluster) : (s.modCluster k f).ecamWrites = s.ecamWrites := rfl
@[simp] theorem State.modCluster_keyw (s : State) (k : Nat) (f : Cluster → Cluster) : (s.modCluster k f).keyw = s.keyw := rfl
@[simp] theorem State.modCluster_cry (s : State) (k : Nat) (f : Cluster → Cluster) : (s.modCluster k f).cry = s.cry := rfl
@[simp] theorem State.modCluster_aon (s : State) (k : Nat) (f : Cluster → Cluster) : (s.modCluster k f).aon = s.aon := rfl
@[simp] theorem State.modCluster_boot (s : State) (k : Nat) (f : Cluster → Cluster) : (s.modCluster k f).boot = s.boot := rfl
@[simp] theorem State.modCluster_sett (s : State) (k : Nat) (f : Cluster → Cluster) : (s.modCluster k f).sett = s.sett := rfl
@[simp] theorem State.modCluster_settThreads (s : State) (k : Nat) (f : Cluster → Cluster) : (s.modCluster k f).settThreads = s.settThreads := rfl
@[simp] theorem State.modCluster_bdg (s : State) (k : Nat) (f : Cluster → Cluster) : (s.modCluster k f).bdg = s.bdg := rfl
@[simp] theorem State.modCluster_bdgThreads (s : State) (k : Nat) (f : Cluster → Cluster) : (s.modCluster k f).bdgThreads = s.bdgThreads := rfl
@[simp] theorem State.modCluster_bdgSram (s : State) (k : Nat) (f : Cluster → Cluster) : (s.modCluster k f).bdgSram = s.bdgSram := rfl

@[simp] theorem State.setRf_pending (s : State) (k hi lo x : Nat) : (s.setRf k hi lo x).pending = s.pending := rfl
@[simp] theorem State.setRf_fresh (s : State) (k hi lo x : Nat) : (s.setRf k hi lo x).fresh = s.fresh := rfl
@[simp] theorem State.setRf_cio (s : State) (k hi lo x : Nat) : (s.setRf k hi lo x).cio = s.cio := rfl
@[simp] theorem State.setRf_rlk (s : State) (k hi lo x : Nat) : (s.setRf k hi lo x).rlk = s.rlk := rfl
@[simp] theorem State.setRf_pair (s : State) (k hi lo x : Nat) : (s.setRf k hi lo x).pair = s.pair := rfl
@[simp] theorem State.setRf_tsn (s : State) (k hi lo x : Nat) : (s.setRf k hi lo x).tsn = s.tsn := rfl
@[simp] theorem State.setRf_hse (s : State) (k hi lo x : Nat) : (s.setRf k hi lo x).hse = s.hse := rfl
@[simp] theorem State.setRf_threads (s : State) (k hi lo x : Nat) : (s.setRf k hi lo x).threads = s.threads := rfl
@[simp] theorem State.setRf_cores (s : State) (k hi lo x : Nat) : (s.setRf k hi lo x).cores = s.cores := rfl
@[simp] theorem State.setRf_clusters (s : State) (k hi lo x : Nat) : (s.setRf k hi lo x).clusters = s.clusters := rfl
@[simp] theorem State.setRf_l3 (s : State) (k hi lo x : Nat) : (s.setRf k hi lo x).l3 = s.l3 := rfl
@[simp] theorem State.setRf_dir (s : State) (k hi lo x : Nat) : (s.setRf k hi lo x).dir = s.dir := rfl
@[simp] theorem State.setRf_dirStamp (s : State) (k hi lo x : Nat) : (s.setRf k hi lo x).dirStamp = s.dirStamp := rfl
@[simp] theorem State.setRf_mem (s : State) (k hi lo x : Nat) : (s.setRf k hi lo x).mem = s.mem := rfl
@[simp] theorem State.setRf_dram (s : State) (k hi lo x : Nat) : (s.setRf k hi lo x).dram = s.dram := rfl
@[simp] theorem State.setRf_scrReady (s : State) (k hi lo x : Nat) : (s.setRf k hi lo x).scrReady = s.scrReady := rfl
@[simp] theorem State.setRf_evPend (s : State) (k hi lo x : Nat) : (s.setRf k hi lo x).evPend = s.evPend := rfl
@[simp] theorem State.setRf_evBind (s : State) (k hi lo x : Nat) : (s.setRf k hi lo x).evBind = s.evBind := rfl
@[simp] theorem State.setRf_haltUnread (s : State) (k hi lo x : Nat) : (s.setRf k hi lo x).haltUnread = s.haltUnread := rfl
@[simp] theorem State.setRf_hingeWait (s : State) (k hi lo x : Nat) : (s.setRf k hi lo x).hingeWait = s.hingeWait := rfl
@[simp] theorem State.setRf_hingeOut (s : State) (k hi lo x : Nat) : (s.setRf k hi lo x).hingeOut = s.hingeOut := rfl
@[simp] theorem State.setRf_hingeHeld (s : State) (k hi lo x : Nat) : (s.setRf k hi lo x).hingeHeld = s.hingeHeld := rfl
@[simp] theorem State.setRf_tlbi (s : State) (k hi lo x : Nat) : (s.setRf k hi lo x).tlbi = s.tlbi := rfl
@[simp] theorem State.setRf_ioLog (s : State) (k hi lo x : Nat) : (s.setRf k hi lo x).ioLog = s.ioLog := rfl
@[simp] theorem State.setRf_dmaLate (s : State) (k hi lo x : Nat) : (s.setRf k hi lo x).dmaLate = s.dmaLate := rfl
@[simp] theorem State.setRf_dmaWait (s : State) (k hi lo x : Nat) : (s.setRf k hi lo x).dmaWait = s.dmaWait := rfl
@[simp] theorem State.setRf_ecamWrites (s : State) (k hi lo x : Nat) : (s.setRf k hi lo x).ecamWrites = s.ecamWrites := rfl
@[simp] theorem State.setRf_keyw (s : State) (k hi lo x : Nat) : (s.setRf k hi lo x).keyw = s.keyw := rfl
@[simp] theorem State.setRf_cry (s : State) (k hi lo x : Nat) : (s.setRf k hi lo x).cry = s.cry := rfl
@[simp] theorem State.setRf_aon (s : State) (k hi lo x : Nat) : (s.setRf k hi lo x).aon = s.aon := rfl
@[simp] theorem State.setRf_boot (s : State) (k hi lo x : Nat) : (s.setRf k hi lo x).boot = s.boot := rfl
@[simp] theorem State.setRf_sett (s : State) (k hi lo x : Nat) : (s.setRf k hi lo x).sett = s.sett := rfl
@[simp] theorem State.setRf_settThreads (s : State) (k hi lo x : Nat) : (s.setRf k hi lo x).settThreads = s.settThreads := rfl
@[simp] theorem State.setRf_bdg (s : State) (k hi lo x : Nat) : (s.setRf k hi lo x).bdg = s.bdg := rfl
@[simp] theorem State.setRf_bdgThreads (s : State) (k hi lo x : Nat) : (s.setRf k hi lo x).bdgThreads = s.bdgThreads := rfl
@[simp] theorem State.setRf_bdgSram (s : State) (k hi lo x : Nat) : (s.setRf k hi lo x).bdgSram = s.bdgSram := rfl

@[simp] theorem State.count_pending (s : State) (k hi lo n : Nat) : (s.count k hi lo n).pending = s.pending := rfl
@[simp] theorem State.count_fresh (s : State) (k hi lo n : Nat) : (s.count k hi lo n).fresh = s.fresh := rfl
@[simp] theorem State.count_cio (s : State) (k hi lo n : Nat) : (s.count k hi lo n).cio = s.cio := rfl
@[simp] theorem State.count_rlk (s : State) (k hi lo n : Nat) : (s.count k hi lo n).rlk = s.rlk := rfl
@[simp] theorem State.count_pair (s : State) (k hi lo n : Nat) : (s.count k hi lo n).pair = s.pair := rfl
@[simp] theorem State.count_tsn (s : State) (k hi lo n : Nat) : (s.count k hi lo n).tsn = s.tsn := rfl
@[simp] theorem State.count_hse (s : State) (k hi lo n : Nat) : (s.count k hi lo n).hse = s.hse := rfl
@[simp] theorem State.count_threads (s : State) (k hi lo n : Nat) : (s.count k hi lo n).threads = s.threads := rfl
@[simp] theorem State.count_cores (s : State) (k hi lo n : Nat) : (s.count k hi lo n).cores = s.cores := rfl
@[simp] theorem State.count_clusters (s : State) (k hi lo n : Nat) : (s.count k hi lo n).clusters = s.clusters := rfl
@[simp] theorem State.count_l3 (s : State) (k hi lo n : Nat) : (s.count k hi lo n).l3 = s.l3 := rfl
@[simp] theorem State.count_dir (s : State) (k hi lo n : Nat) : (s.count k hi lo n).dir = s.dir := rfl
@[simp] theorem State.count_dirStamp (s : State) (k hi lo n : Nat) : (s.count k hi lo n).dirStamp = s.dirStamp := rfl
@[simp] theorem State.count_mem (s : State) (k hi lo n : Nat) : (s.count k hi lo n).mem = s.mem := rfl
@[simp] theorem State.count_dram (s : State) (k hi lo n : Nat) : (s.count k hi lo n).dram = s.dram := rfl
@[simp] theorem State.count_scrReady (s : State) (k hi lo n : Nat) : (s.count k hi lo n).scrReady = s.scrReady := rfl
@[simp] theorem State.count_evPend (s : State) (k hi lo n : Nat) : (s.count k hi lo n).evPend = s.evPend := rfl
@[simp] theorem State.count_evBind (s : State) (k hi lo n : Nat) : (s.count k hi lo n).evBind = s.evBind := rfl
@[simp] theorem State.count_haltUnread (s : State) (k hi lo n : Nat) : (s.count k hi lo n).haltUnread = s.haltUnread := rfl
@[simp] theorem State.count_hingeWait (s : State) (k hi lo n : Nat) : (s.count k hi lo n).hingeWait = s.hingeWait := rfl
@[simp] theorem State.count_hingeOut (s : State) (k hi lo n : Nat) : (s.count k hi lo n).hingeOut = s.hingeOut := rfl
@[simp] theorem State.count_hingeHeld (s : State) (k hi lo n : Nat) : (s.count k hi lo n).hingeHeld = s.hingeHeld := rfl
@[simp] theorem State.count_tlbi (s : State) (k hi lo n : Nat) : (s.count k hi lo n).tlbi = s.tlbi := rfl
@[simp] theorem State.count_ioLog (s : State) (k hi lo n : Nat) : (s.count k hi lo n).ioLog = s.ioLog := rfl
@[simp] theorem State.count_dmaLate (s : State) (k hi lo n : Nat) : (s.count k hi lo n).dmaLate = s.dmaLate := rfl
@[simp] theorem State.count_dmaWait (s : State) (k hi lo n : Nat) : (s.count k hi lo n).dmaWait = s.dmaWait := rfl
@[simp] theorem State.count_ecamWrites (s : State) (k hi lo n : Nat) : (s.count k hi lo n).ecamWrites = s.ecamWrites := rfl
@[simp] theorem State.count_keyw (s : State) (k hi lo n : Nat) : (s.count k hi lo n).keyw = s.keyw := rfl
@[simp] theorem State.count_cry (s : State) (k hi lo n : Nat) : (s.count k hi lo n).cry = s.cry := rfl
@[simp] theorem State.count_aon (s : State) (k hi lo n : Nat) : (s.count k hi lo n).aon = s.aon := rfl
@[simp] theorem State.count_boot (s : State) (k hi lo n : Nat) : (s.count k hi lo n).boot = s.boot := rfl
@[simp] theorem State.count_sett (s : State) (k hi lo n : Nat) : (s.count k hi lo n).sett = s.sett := rfl
@[simp] theorem State.count_settThreads (s : State) (k hi lo n : Nat) : (s.count k hi lo n).settThreads = s.settThreads := rfl
@[simp] theorem State.count_bdg (s : State) (k hi lo n : Nat) : (s.count k hi lo n).bdg = s.bdg := rfl
@[simp] theorem State.count_bdgThreads (s : State) (k hi lo n : Nat) : (s.count k hi lo n).bdgThreads = s.bdgThreads := rfl
@[simp] theorem State.count_bdgSram (s : State) (k hi lo n : Nat) : (s.count k hi lo n).bdgSram = s.bdgSram := rfl

@[simp] theorem Thread.setDen_st (th : Thread) (n : Nat) (w : TWord) : (th.setDen n w).st = th.st := rfl
@[simp] theorem Thread.setDen_sec (th : Thread) (n : Nat) (w : TWord) : (th.setDen n w).sec = th.sec := rfl
@[simp] theorem Thread.setDen_lvl (th : Thread) (n : Nat) (w : TWord) : (th.setDen n w).lvl = th.lvl := rfl
@[simp] theorem Thread.setDen_pc (th : Thread) (n : Nat) (w : TWord) : (th.setDen n w).pc = th.pc := rfl
@[simp] theorem Thread.setDen_flags (th : Thread) (n : Nat) (w : TWord) : (th.setDen n w).flags = th.flags := rfl
@[simp] theorem Thread.setDen_rs (th : Thread) (n : Nat) (w : TWord) : (th.setDen n w).rs = th.rs := rfl
@[simp] theorem Thread.setDen_rsPtr (th : Thread) (n : Nat) (w : TWord) : (th.setDen n w).rsPtr = th.rsPtr := rfl
@[simp] theorem Thread.setDen_rsDepth (th : Thread) (n : Nat) (w : TWord) : (th.setDen n w).rsDepth = th.rsDepth := rfl
@[simp] theorem Thread.setDen_ctl (th : Thread) (n : Nat) (w : TWord) : (th.setDen n w).ctl = th.ctl := rfl
@[simp] theorem Thread.setDen_tcw (th : Thread) (n : Nat) (w : TWord) : (th.setDen n w).tcw = th.tcw := rfl
@[simp] theorem Thread.setDen_cbase (th : Thread) (n : Nat) (w : TWord) : (th.setDen n w).cbase = th.cbase := rfl
@[simp] theorem Thread.setDen_lattol (th : Thread) (n : Nat) (w : TWord) : (th.setDen n w).lattol = th.lattol := rfl
@[simp] theorem Thread.setDen_hwin (th : Thread) (n : Nat) (w : TWord) : (th.setDen n w).hwin = th.hwin := rfl
@[simp] theorem Thread.setDen_bankS (th : Thread) (n : Nat) (w : TWord) : (th.setDen n w).bankS = th.bankS := rfl
@[simp] theorem Thread.setDen_bankU (th : Thread) (n : Nat) (w : TWord) : (th.setDen n w).bankU = th.bankU := rfl
@[simp] theorem Thread.setDen_troute (th : Thread) (n : Nat) (w : TWord) : (th.setDen n w).troute = th.troute := rfl
@[simp] theorem Thread.setDen_xs1 (th : Thread) (n : Nat) (w : TWord) : (th.setDen n w).xs1 = th.xs1 := rfl
@[simp] theorem Thread.setDen_xs1h (th : Thread) (n : Nat) (w : TWord) : (th.setDen n w).xs1h = th.xs1h := rfl
@[simp] theorem Thread.setDen_xs2 (th : Thread) (n : Nat) (w : TWord) : (th.setDen n w).xs2 = th.xs2 := rfl
@[simp] theorem Thread.setDen_old (th : Thread) (n : Nat) (w : TWord) : (th.setDen n w).old = th.old := rfl
@[simp] theorem Thread.setDen_wdctl (th : Thread) (n : Nat) (w : TWord) : (th.setDen n w).wdctl = th.wdctl := rfl
@[simp] theorem Thread.setDen_wdExp (th : Thread) (n : Nat) (w : TWord) : (th.setDen n w).wdExp = th.wdExp := rfl
@[simp] theorem Thread.setDen_wdLate (th : Thread) (n : Nat) (w : TWord) : (th.setDen n w).wdLate = th.wdLate := rfl
@[simp] theorem Thread.setDen_wdCount (th : Thread) (n : Nat) (w : TWord) : (th.setDen n w).wdCount = th.wdCount := rfl
@[simp] theorem Thread.setDen_wdDone (th : Thread) (n : Nat) (w : TWord) : (th.setDen n w).wdDone = th.wdDone := rfl
@[simp] theorem Thread.setDen_slot (th : Thread) (n : Nat) (w : TWord) : (th.setDen n w).slot = th.slot := rfl
@[simp] theorem Thread.setDen_wake (th : Thread) (n : Nat) (w : TWord) : (th.setDen n w).wake = th.wake := rfl
@[simp] theorem Thread.setDen_park (th : Thread) (n : Nat) (w : TWord) : (th.setDen n w).park = th.park := rfl
@[simp] theorem Thread.setDen_hinge (th : Thread) (n : Nat) (w : TWord) : (th.setDen n w).hinge = th.hinge := rfl
@[simp] theorem Thread.setDen_mmioW (th : Thread) (n : Nat) (w : TWord) : (th.setDen n w).mmioW = th.mmioW := rfl
@[simp] theorem Thread.setDen_mmioOld (th : Thread) (n : Nat) (w : TWord) : (th.setDen n w).mmioOld = th.mmioOld := rfl
@[simp] theorem Thread.setDen_extReq (th : Thread) (n : Nat) (w : TWord) : (th.setDen n w).extReq = th.extReq := rfl
@[simp] theorem Thread.setDen_stall (th : Thread) (n : Nat) (w : TWord) : (th.setDen n w).stall = th.stall := rfl
@[simp] theorem Thread.setDen_late (th : Thread) (n : Nat) (w : TWord) : (th.setDen n w).late = th.late := rfl
@[simp] theorem Thread.setDen_extAns (th : Thread) (n : Nat) (w : TWord) : (th.setDen n w).extAns = th.extAns := rfl
@[simp] theorem Thread.setDen_orphans (th : Thread) (n : Nat) (w : TWord) : (th.setDen n w).orphans = th.orphans := rfl
@[simp] theorem Thread.setDen_xlat (th : Thread) (n : Nat) (w : TWord) : (th.setDen n w).xlat = th.xlat := rfl
@[simp] theorem Thread.setDen_block (th : Thread) (n : Nat) (w : TWord) : (th.setDen n w).block = th.block := rfl
@[simp] theorem Thread.setDen_blockOp (th : Thread) (n : Nat) (w : TWord) : (th.setDen n w).blockOp = th.blockOp := rfl
@[simp] theorem Thread.setDen_entered (th : Thread) (n : Nat) (w : TWord) : (th.setDen n w).entered = th.entered := rfl
@[simp] theorem Thread.setDen_filled (th : Thread) (n : Nat) (w : TWord) : (th.setDen n w).filled = th.filled := rfl
@[simp] theorem Thread.setDen_codeFill (th : Thread) (n : Nat) (w : TWord) : (th.setDen n w).codeFill = th.codeFill := rfl
@[simp] theorem Thread.setDen_fetch (th : Thread) (n : Nat) (w : TWord) : (th.setDen n w).fetch = th.fetch := rfl
@[simp] theorem Thread.setDen_fetchBad (th : Thread) (n : Nat) (w : TWord) : (th.setDen n w).fetchBad = th.fetchBad := rfl
@[simp] theorem Thread.setDen_codeXlat (th : Thread) (n : Nat) (w : TWord) : (th.setDen n w).codeXlat = th.codeXlat := rfl
@[simp] theorem Thread.setDen_asked (th : Thread) (n : Nat) (w : TWord) : (th.setDen n w).asked = th.asked := rfl
@[simp] theorem Thread.setDen_issued (th : Thread) (n : Nat) (w : TWord) : (th.setDen n w).issued = th.issued := rfl

end Sys2Proof.Machine
end

