-- ==== Sys2Proof/Laws/Ops.lean ====
section
/-! SUPPORT. The shared operations: reading after writing in the sparse tables, threads, cores, clusters, registers and memory, and
the canonical form that every memory operation keeps. -/

namespace Sys2Proof.Machine

/-! ## Sparse tables -/

@[simp] theorem tfind_tinsert_self {α : Type} (k : Nat) (v : α) : (t : Tab α) → tfind (tinsert k v (tdel t k)) k = some v
  | [] => by simp [tdel, tinsert, tfind]
  | (a, w) :: r => by
    have ih := tfind_tinsert_self k v r
    by_cases h : a = k
    · simpa [tdel, h] using ih
    · by_cases hk : k < a
      · simp [tdel, h, tinsert, hk, tfind]
      · have h' : ¬ k = a := fun e => h e.symm
        simp only [tdel] at ih
        simp [tdel, h, tinsert, hk, tfind, h', ih]

theorem tfind_tinsert_ne {α : Type} {j k : Nat} (v : α) (h : j ≠ k) : (t : Tab α) → tfind (tinsert k v t) j = tfind t j
  | [] => by simp [tinsert, tfind, h]
  | (a, w) :: r => by
    have ih := tfind_tinsert_ne v h r
    by_cases hk : k < a
    · simp [tinsert, hk, tfind, h]
    · simp [tinsert, hk, tfind, ih]

@[simp] theorem tfind_tdel_self {α : Type} (k : Nat) : (t : Tab α) → tfind (tdel t k) k = none
  | [] => rfl
  | (a, w) :: r => by
    have ih := tfind_tdel_self k r
    simp only [tdel] at ih
    by_cases h : a = k
    · simpa [tdel, h] using ih
    · have h' : ¬ k = a := fun e => h e.symm
      simp [tdel, h, tfind, h', ih]

theorem tfind_tdel_ne {α : Type} {j k : Nat} (h : j ≠ k) : (t : Tab α) → tfind (tdel t k) j = tfind t j
  | [] => rfl
  | (a, w) :: r => by
    have ih := tfind_tdel_ne h r
    simp only [tdel] at ih
    by_cases ha : a = k
    · have h' : ¬ j = a := fun e => h (e.trans ha)
      simpa [tdel, ha, tfind, h] using ih
    · simp [tdel, ha, tfind, ih]

@[simp] theorem tget_tput_self {α : Type} (d : α) (t : Tab α) (k : Nat) (v : α) : tget d (tput t k v) k = v := by
  simp [tget, tput]

theorem tget_tput_ne {α : Type} (d : α) (t : Tab α) {j k : Nat} (v : α) (h : j ≠ k) : tget d (tput t k v) j = tget d t j := by
  simp [tget, tput, tfind_tinsert_ne v h, tfind_tdel_ne h]

@[simp] theorem tget_tset_self {α : Type} [DecidableEq α] (d : α) (t : Tab α) (k : Nat) (v : α) : tget d (tset d t k v) k = v := by
  unfold tset
  split
  · simp [tget, *]
  · simp

theorem tget_tset_ne {α : Type} [DecidableEq α] (d d' : α) (t : Tab α) {j k : Nat} (v : α) (h : j ≠ k) :
    tget d (tset d' t k v) j = tget d t j := by
  unfold tset
  split
  · simp [tget, tfind_tdel_ne h]
  · exact tget_tput_ne d t v h

/-- A later write to the same key replaces the earlier one. -/
theorem tset_tset {α : Type} [DecidableEq α] (d : α) (t : Tab α) (k : Nat) (v w : α) : tset d (tset d t k v) k w = tset d t k w := by
  have h1 : ∀ t : Tab α, tdel (tinsert k v (tdel t k)) k = tdel t k := by
    intro t
    induction t with
    | nil => simp [tdel, tinsert]
    | cons e r ih =>
      simp only [tdel] at *
      by_cases h : e.1 = k
      · simpa [h] using ih
      · by_cases hk : k < e.1
        · simp [h, tinsert, hk, List.filter_filter]
        · simp [h, tinsert, hk, ih]
  have h2 : ∀ t : Tab α, tdel (tdel t k) k = tdel t k := by intro t; simp [tdel, List.filter_filter]
  unfold tset tput
  by_cases hv : v = d <;> by_cases hw : w = d <;> simp [hv, hw, h1, h2]

/-! ## Threads, cores, clusters, registers -/

@[simp] theorem State.thr_setThr_self (s : State) (t : Nat) (th : Thread) : (s.setThr t th).thr t = th := by
  simp [State.thr, State.setThr]

theorem State.thr_setThr_ne (s : State) {t u : Nat} (th : Thread) (h : u ≠ t) : (s.setThr t th).thr u = s.thr u := by
  simp [State.thr, State.setThr, tget_tset_ne _ _ _ _ h]

@[simp] theorem State.setThr_setThr (s : State) (t : Nat) (a b : Thread) : (s.setThr t a).setThr t b = s.setThr t b := by
  simp [State.setThr, tset_tset]

@[simp] theorem State.core_setThr (s : State) (t : Nat) (th : Thread) (c : Nat) : (s.setThr t th).core c = s.core c := rfl
@[simp] theorem State.cluster_setThr (s : State) (t : Nat) (th : Thread) (k : Nat) : (s.setThr t th).cluster k = s.cluster k := rfl
@[simp] theorem State.reg_setThr (s : State) (t : Nat) (th : Thread) (k : Nat) : (s.setThr t th).reg k = s.reg k := rfl

@[simp] theorem State.core_setCore_self (s : State) (c : Nat) (x : Core) : (s.setCore c x).core c = x := by
  simp [State.core, State.setCore]

theorem State.core_setCore_ne (s : State) {c d : Nat} (x : Core) (h : d ≠ c) : (s.setCore c x).core d = s.core d := by
  simp [State.core, State.setCore, tget_tset_ne _ _ _ _ h]

@[simp] theorem State.thr_setCore (s : State) (c : Nat) (x : Core) (t : Nat) : (s.setCore c x).thr t = s.thr t := rfl
@[simp] theorem State.cluster_setCore (s : State) (c : Nat) (x : Core) (k : Nat) : (s.setCore c x).cluster k = s.cluster k := rfl
@[simp] theorem State.reg_setCore (s : State) (c : Nat) (x : Core) (k : Nat) : (s.setCore c x).reg k = s.reg k := rfl

@[simp] theorem State.cluster_setCluster_self (s : State) (k : Nat) (x : Cluster) : (s.setCluster k x).cluster k = x := by
  simp [State.cluster, State.setCluster]

theorem State.cluster_setCluster_ne (s : State) {k j : Nat} (x : Cluster) (h : j ≠ k) :
    (s.setCluster k x).cluster j = s.cluster j := by
  simp [State.cluster, State.setCluster, tget_tset_ne _ _ _ _ h]

@[simp] theorem State.reg_setReg_self (s : State) (k : Nat) (v : W64) : (s.setReg k v).reg k = v := by
  simp [State.reg, State.setReg]

theorem State.reg_setReg_ne (s : State) {j k : Nat} (v : W64) (h : j ≠ k) : (s.setReg k v).reg j = s.reg j := by
  simp [State.reg, State.setReg, tget_tset_ne _ _ _ _ h]

@[simp] theorem State.thr_setReg (s : State) (k : Nat) (v : W64) (t : Nat) : (s.setReg k v).thr t = s.thr t := rfl
@[simp] theorem State.core_setReg (s : State) (k : Nat) (v : W64) (c : Nat) : (s.setReg k v).core c = s.core c := rfl
@[simp] theorem State.cluster_setReg (s : State) (k : Nat) (v : W64) (c : Nat) : (s.setReg k v).cluster c = s.cluster c := rfl

@[simp] theorem Thread.denWord_setDen_self (th : Thread) (n : Nat) (w : TWord) : (th.setDen n w).denWord n = w := by
  simp [Thread.denWord, Thread.setDen]

theorem Thread.denWord_setDen_ne (th : Thread) {m n : Nat} (w : TWord) (h : m ≠ n) : (th.setDen n w).denWord m = th.denWord m := by
  simp [Thread.denWord, Thread.setDen, tget_tset_ne _ _ _ _ h]

/-- What raising an event can change: the source's held word and binding and, where it is overtaken, EVR_DROP. -/
theorem State.raise_cases (s : State) (src : Nat) (d : Data) :
    s.raise src d = s ∨ (∃ e b, s.raise src d = { s with evPend := e, evBind := b }) ∨
      ∃ e b, s.raise src d = { s with evPend := e, evBind := b }.count Key.evrDrop 31 0 1 := by
  unfold State.raise
  split
  · exact .inl rfl
  · split
    · exact .inr (.inl ⟨_, _, rfl⟩)
    · exact .inr (.inr ⟨_, _, rfl⟩)

@[simp] theorem State.raise_threads (s : State) (src : Nat) (d : Data) : (s.raise src d).threads = s.threads := by
  rcases s.raise_cases src d with h | ⟨e, b, h⟩ | ⟨e, b, h⟩ <;> simp [h]

@[simp] theorem State.raise_mem (s : State) (src : Nat) (d : Data) : (s.raise src d).mem = s.mem := by
  rcases s.raise_cases src d with h | ⟨e, b, h⟩ | ⟨e, b, h⟩ <;> simp [h]

/-! ## Memory -/

@[simp] theorem Memory.byte_setByte_self (m : Memory) (a : Nat) (b : Byte) : (m.setByte a b).byte a = b := by
  simp [Memory.byte, Memory.setByte]

theorem Memory.byte_setByte_ne (m : Memory) {a a' : Nat} (b : Byte) (h : a' ≠ a) : (m.setByte a b).byte a' = m.byte a' := by
  simp [Memory.byte, Memory.setByte, tget_tset_ne _ _ _ _ h]

/-- A write of n bytes leaves every byte outside them. -/
theorem Memory.byte_setBytes_outside (m : Memory) (a n v : Nat) {b : Nat} (h : b < a ∨ a + n ≤ b) :
    (m.setBytes a n v).byte b = m.byte b := by
  induction n generalizing m a v with
  | zero => rfl
  | succ n ih =>
    rw [Memory.setBytes, ih _ _ _ (by omega), Memory.byte_setByte_ne]
    omega

/-- Byte i of a written number reads back as its byte i. -/
theorem Memory.byte_setBytes (m : Memory) (a n v i : Nat) (h : i < n) :
    (m.setBytes a n v).byte (a + i) = BitVec.ofNat 8 (v / 256 ^ i) := by
  induction n generalizing m a v i with
  | zero => omega
  | succ n ih =>
    cases i with
    | zero => simp [Memory.setBytes, Memory.byte_setBytes_outside _ (a + 1) n _ (b := a) (by omega)]
    | succ i =>
      have := ih (m.setByte a (BitVec.ofNat 8 v)) (a + 1) (v / 256) i (by omega)
      rw [Memory.setBytes, show a + (i + 1) = a + 1 + i by omega, this, Nat.div_div_eq_div_mul, Nat.pow_succ, Nat.mul_comm 256]

/-- The canonical form said of one table. -/
theorem tabWf_iff {α : Type} [DecidableEq α] (d : α) (t : Tab α) :
    tabWf d t = true ↔ t.Pairwise (fun e f => e.1 < f.1) ∧ ∀ e ∈ t, e.2 ≠ d := by
  induction t with
  | nil => simp [tabWf]
  | cons e r ih =>
    cases r with
    | nil => simp [tabWf]
    | cons f r =>
      simp only [tabWf, Bool.and_eq_true, bne_iff_ne, decide_eq_true_eq, ih, List.pairwise_cons, List.mem_cons]
      constructor
      · rintro ⟨⟨h1, h2⟩, ⟨h3, h4⟩, h5⟩
        refine ⟨⟨?_, h3, h4⟩, ?_⟩
        · rintro a (rfl | h)
          · exact h2
          · exact Nat.lt_trans h2 (h3 _ h)
        · rintro a (rfl | rfl | h)
          · exact h1
          · exact h5 _ (.inl rfl)
          · exact h5 _ (.inr h)
      · rintro ⟨⟨h1, h2, h3⟩, h4⟩
        exact ⟨⟨h4 _ (.inl rfl), h1 _ (.inl rfl)⟩, ⟨h2, h3⟩, fun a h => h4 _ (.inr h)⟩

theorem tdel_wf {α : Type} [DecidableEq α] {d : α} {t : Tab α} (k : Nat) (h : tabWf d t = true) : tabWf d (tdel t k) = true := by
  rw [tabWf_iff] at *
  exact ⟨h.1.filter _, fun e he => h.2 e (List.mem_filter.1 he).1⟩

theorem mem_tinsert {α : Type} {k : Nat} {v : α} {e : Nat × α} : (t : Tab α) → e ∈ tinsert k v t → e = (k, v) ∨ e ∈ t
  | [] => by simp [tinsert]
  | f :: r => by
    have ih := mem_tinsert (k := k) (v := v) (e := e) r
    by_cases h : k < f.1
    · simp [tinsert, h]
    · simp only [tinsert, h, if_false, List.mem_cons]
      rintro (h1 | h1)
      · exact .inr (.inl h1)
      · rcases ih h1 with h2 | h2
        · exact .inl h2
        · exact .inr (.inr h2)

theorem tinsert_sorted {α : Type} {k : Nat} {v : α} :
    (t : Tab α) → t.Pairwise (fun e f => e.1 < f.1) → (∀ e ∈ t, e.1 ≠ k) → (tinsert k v t).Pairwise (fun e f => e.1 < f.1)
  | [], _, _ => by simp [tinsert]
  | f :: r, hs, hk => by
    rw [List.pairwise_cons] at hs
    have hf := hk f (by simp)
    have ih := tinsert_sorted (v := v) r hs.2 (fun e he => hk e (by simp [he]))
    by_cases h : k < f.1
    · simp only [tinsert, h, if_true, List.pairwise_cons, List.mem_cons]
      refine ⟨?_, hs⟩
      rintro e (rfl | he)
      · exact h
      · exact Nat.lt_trans h (hs.1 e he)
    · simp only [tinsert, h, if_false, List.pairwise_cons]
      refine ⟨fun e he => ?_, ih⟩
      rcases mem_tinsert r he with h1 | h1
      · subst h1
        exact Nat.lt_of_le_of_ne (Nat.le_of_not_lt h) hf
      · exact hs.1 e h1

theorem tset_wf {α : Type} [DecidableEq α] {d : α} {t : Tab α} (k : Nat) (v : α) (h : tabWf d t = true) :
    tabWf d (tset d t k v) = true := by
  unfold tset
  split
  · exact tdel_wf k h
  · rename_i hv
    have h' := tdel_wf k h
    rw [tabWf_iff] at h' ⊢
    refine ⟨tinsert_sorted _ h'.1 ?_, ?_⟩
    · intro e he
      simpa using (List.mem_filter.1 he).2
    · intro e he
      rcases mem_tinsert _ he with rfl | he
      · exact hv
      · exact h'.2 e he

theorem Memory.setByte_wf {m : Memory} (a : Nat) (b : Byte) (h : m.wf = true) : (m.setByte a b).wf = true := by
  simp only [Memory.wf, Bool.and_eq_true] at *
  exact ⟨tset_wf a b h.1, h.2⟩

theorem Memory.setBytes_wf {m : Memory} (a n v : Nat) (h : m.wf = true) : (m.setBytes a n v).wf = true := by
  induction n generalizing m a v with
  | zero => exact h
  | succ n ih => exact ih _ _ (Memory.setByte_wf a _ h)

theorem Memory.setWord_wf {m : Memory} (w : Nat) (x : TWord) (h : m.wf = true) : (m.setWord w x).wf = true := by
  have := Memory.setBytes_wf (16 * w) 16 x.data.toNat h
  simp only [Memory.wf, Memory.setWord, Bool.and_eq_true] at *
  exact ⟨this.1, tset_wf w x.tag h.2⟩

theorem Memory.setLine_wf {m : Memory} (line : Nat) (ws : List TWord) (h : m.wf = true) : (m.setLine line ws).wf = true := by
  have : ∀ (l : List Nat) (m : Memory), m.wf = true →
      (l.foldl (fun m i => m.setWord (line * 4 + i) (ws.getD i TWord.fresh)) m).wf = true := by
    intro l
    induction l with
    | nil => exact fun _ h => h
    | cons i l ih => exact fun m h => ih _ (Memory.setWord_wf _ _ h)
  exact this _ _ h

theorem filter_wf {α : Type} [DecidableEq α] {d : α} {t : Tab α} (p : Nat × α → Bool) (h : tabWf d t = true) :
    tabWf d (t.filter p) = true := by
  rw [tabWf_iff] at *
  exact ⟨h.1.filter _, fun e he => h.2 e (List.mem_filter.1 he).1⟩

theorem Memory.clearRange_wf {m : Memory} (lo hi : Nat) (h : m.wf = true) : (m.clearRange lo hi).wf = true := by
  simp only [Memory.wf, Memory.clearRange, Bool.and_eq_true] at *
  exact ⟨filter_wf _ h.1, filter_wf _ h.2⟩

/-- A run of words, written one after another, keeps the form. -/
theorem Memory.foldl_setWord_wf {m : Memory} (a : Nat → Nat) (f : Nat → TWord) (l : List Nat) (h : m.wf = true) :
    (l.foldl (fun m i => m.setWord (a i) (f i)) m).wf = true := by
  induction l generalizing m with
  | nil => exact h
  | cons i l ih => exact ih (Memory.setWord_wf _ _ h)

theorem Memory.loadImage_wf {m : Memory} (ws : List Data) (h : m.wf = true) : (m.loadImage ws).wf = true :=
  Memory.foldl_setWord_wf _ _ _ (Memory.clearRange_wf _ _ h)

end Sys2Proof.Machine
end

