-- ==== Sys2Proof/Laws/Issue.lean ====
section
/-! SUPPORT. The issue of an instruction: what is left when steps 1 to 4 of 03 R107 pass, and a data instruction whose operands need
no memory access, from its operands to its end. -/

namespace Sys2Proof.Machine

/-- The place of an operand that needs no memory access. -/
def plainPlace (e : Enc) (arr k : Nat) : Place :=
  let v := e.ext k
  match e.mode k with
  | 0 => .den (bits v 7 0) false
  | 5 => .nul
  | 6 => .imm (immWord arr 16 (bits v 15 0))
  | 7 => .imm (immWord arr 32 (bits v 31 0))
  | 8 => .imm (immWord arr 64 (bits v 63 0))
  | 9 => .imm { data := BitVec.ofNat 128 (bits v 15 0 * 2 ^ (16 * bits v 18 16)), tag := Tag.bits }
  | _ => .imm { data := BitVec.ofNat 128 (bits v 47 0), tag := BitVec.ofNat 4 (bits v 51 48) }

theorem resolve_plain (x : Ctx) (k al : Nat) (r : Role) (s : State) (th : Thread) (w : TWord)
    (h : x.e.plainWord x.arr th k = some w) : resolve x k al r s = .ok (plainPlace x.e x.arr k) s := by
  unfold Enc.plainWord at h
  unfold resolve plainPlace
  split at h <;> simp_all

theorem resolve_dest (x : Ctx) (k al : Nat) (r : Role) (s : State)
    (h : x.e.mode k = 0 ∨ x.e.mode k = 5) : resolve x k al r s = .ok (plainPlace x.e x.arr k) s := by
  unfold resolve plainPlace
  rcases h with h | h <;> simp [h]

theorem takeSource_plain (x : Ctx) (k : Nat) (acc : Accept) (s : State) (w v : TWord)
    (h : x.e.plainWord x.arr (s.thr x.t) k = some w) (hc : consume x.sec x.uie acc w = .ok v) :
    takeSource x k acc (plainPlace x.e x.arr k) s = .ok v s := by
  unfold Enc.plainWord at h
  unfold takeSource plainPlace
  split at h <;> simp_all [Ctx.consume, Res.bind]


theorem obtainDest_plain (x : Ctx) (k : Nat) (s : State) : obtainDest x k (plainPlace x.e x.arr k) s = .ok () s := by
  unfold plainPlace obtainDest
  split <;> simp_all
  split at * <;> simp_all

theorem plainTake_places (x : Ctx) (acc : Nat → Accept) (s : State) (th : Thread) (hden : (s.thr x.t).den = th.den)
    (hsec : x.sec = th.sec) (huie : x.uie = bit th.ctlInForce 2) :
    ∀ (roles : List Role) (k : Nat) (ws : List TWord), x.e.plainTake x.arr th acc k roles = some ws →
        resolveAll x (fun _ => 1) k roles s = .ok ((List.range' k roles.length).map (plainPlace x.e x.arr)) s ∧
        takeAll x acc k roles ((List.range' k roles.length).map (plainPlace x.e x.arr)) s = .ok ws s
  | [], k, ws, h => by
    simp [Enc.plainTake] at h
    simp [resolveAll, takeAll, h]
  | r :: rs, k, ws, h => by
    rw [Enc.plainTake] at h
    split at h
    · rename_i v vs hv hvs
      simp only [Option.some.injEq] at h
      subst h
      have ih := plainTake_places x acc s th hden hsec huie rs (k + 1) vs hvs
      split at hv
      · rename_i hr
        split at hv
        · rename_i w hw
          rw [← hsec, ← huie] at hv
          have hv' : consume x.sec x.uie (acc k) w = .ok v := by
            cases hc : consume x.sec x.uie (acc k) w with
            | error c => simp [hc, Except.toOption] at hv
            | ok u => simp [hc, Except.toOption] at hv; simp [hv]
          have h1 := resolve_plain x k 1 r s _ _ hw
          have h2 := takeSource_plain x k (acc k) s w v (by rw [← hw]; simp [Enc.plainWord, Thread.denWord, hden]) hv'
          simp only [List.length_cons, List.range'_succ, List.map_cons]
          refine ⟨?_, ?_⟩
          · rw [resolveAll, h1]; simp [Res.bind, ih.1]
          · rw [takeAll]; simp only [hr, if_true, h2, Res.bind]
            cases r <;> simp [obtainDest_plain, ih.2, Role.reads] at *
        · simp at hv
      · rename_i hr
        split at hv
        · rename_i hm
          have h1 := resolve_dest x k 1 r s hm
          simp only [Option.some.injEq] at hv
          subst hv
          simp only [List.length_cons, List.range'_succ, List.map_cons]
          refine ⟨?_, ?_⟩
          · rw [resolveAll, h1]; simp [Res.bind, ih.1]
          · rw [takeAll]
            cases r <;> simp [obtainDest_plain, Res.bind, ih.2, Role.reads] at *
        · simp at hv
    · simp at h

theorem plainPlace_take (e : Enc) (arr k n : Nat) : plainPlace e arr k ≠ .den n true := by
  unfold plainPlace
  dsimp only
  split <;> simp

theorem takeWords_none (x : Ctx) (d : Option Place) (pls : List Place) (s : State) (h : ∀ pl ∈ pls, ∀ n, pl ≠ .den n true) :
    s.takeWords x d pls = s := by
  unfold State.takeWords
  induction pls generalizing s with
  | nil => rfl
  | cons pl pls ih =>
    have h0 := h pl (by simp)
    rw [List.foldl_cons]
    cases pl with
    | den n b => cases b with
      | true => exact absurd rfl (h0 n)
      | false => exact ih s (fun q hq => h q (by simp [hq]))
    | _ => exact ih s (fun q hq => h q (by simp [hq]))

theorem takeWords_plain (x : Ctx) (d : Option Place) (ks : List Nat) (s : State) :
    s.takeWords x d (ks.map (plainPlace x.e x.arr)) = s := by
  apply takeWords_none
  intro pl hpl n
  obtain ⟨k, _, rfl⟩ := List.mem_map.1 hpl
  exact plainPlace_take _ _ _ _

/-- Steps 1 to 4 of R107 pass: what is left is the body (03 R107). -/
theorem issue_passes (c : Bool) (x : Ctx) (align : Nat) (cond : BitVec 4) (body : Ctx → State → Res Bool) (s : State)
    (ht : x.t < 768) (hi : s.canIssue x.t = true) (hm : bit (s.thr x.t).ctl 0 = c) (ha : x.pc.toNat % align = 0)
    (hs : x.slot = none) (hh : (s.thr x.t).slot = none) (hb : (s.thr x.t).holdsCode x.pc x.len = true) (hc : condHolds cond (s.thr x.t).flags = true) :
    issue c x align none none cond body s =
      (match body x (s.setThr x.t ((s.thr x.t).onIssue x.len)) with
       | .ok true s2 => .next (s2.modThr x.t (fun th => th.finish x))
       | .ok false s2 => .next s2
       | .trap e s2 => .next (s2.trapInstr x e)
       | .wait s2 => .next (s2.modThr x.t (fun u => { u with old := (s.thr x.t).old, issued := (s.thr x.t).issued }))) := by
  unfold issue
  rw [if_neg (by omega)]
  simp [hi, hm, ha, hc, hs, hb, Thread.hingeSlot, hh] <;> rfl

theorem commit_plain (t : Nat) (e : Enc) (sp : Spec) (s : State) (roles : List Role) (o : DataOut)
    (hb : (s.core (t / 16)).sb.length ≤ 16)
    (hm : (roles.getD 0 .src).writes = true → e.mode 1 = 0 ∨ e.mode 1 = 5)
    (ho : o.res.isSome = (roles.getD 0 .src).writes) :
    commit (fullCtx s t sp e)
      (if (roles.getD 0 .src).writes then
        ((List.range' 1 roles.length).map (plainPlace (fullCtx s t sp e).e (fullCtx s t sp e).arr)).head? else none)
      ((List.range' 1 roles.length).map (plainPlace (fullCtx s t sp e).e (fullCtx s t sp e).arr)) o
      (s.issuing t (e.len sp.axIsLm)) =
      .ok true ((s.issuing t (e.len sp.axIsLm)).setThr t (((s.thr t).onIssue (e.len sp.axIsLm)).landed e o)) := by
  have hthr : (s.issuing t (e.len sp.axIsLm)).thr t = (s.thr t).onIssue (e.len sp.axIsLm) := by simp [State.issuing]
  have hcore : (s.issuing t (e.len sp.axIsLm)).core (fullCtx s t sp e).core = s.core (t / 16) := rfl
  by_cases hwr : (roles.getD 0 .src).writes = true
  · have hmode := hm hwr
    cases roles with
    | nil => simp [Role.writes] at hwr
    | cons r rs =>
      rw [hwr] at ho
      obtain ⟨⟨d, mask, tag⟩, hres⟩ := Option.isSome_iff_exists.1 ho
      simp only [hwr, if_true, List.length_cons, List.range'_succ, List.map_cons, List.head?_cons]
      rw [← List.map_cons (f := plainPlace (fullCtx s t sp e).e (fullCtx s t sp e).arr), ← List.range'_succ]
      unfold commit
      simp only [hres, takeWords_plain]
      have he : (fullCtx s t sp e).e = e := rfl
      have htt : (fullCtx s t sp e).t = t := rfl
      rcases hmode with h0 | h0
      · have hpp : plainPlace (fullCtx s t sp e).e (fullCtx s t sp e).arr 1 = .den (bits e.x1 7 0) false := by
          simp [plainPlace, he, h0, Enc.ext]
        simp only [hpp, Place.entries, Nat.add_zero, hcore, if_neg (show ¬ 16 < (s.core (t / 16)).sb.length by omega), Place.parts,
          dirtyParts, State.writePlace, htt]
        simp [State.modThr, hthr, Thread.landed, hres, h0]
      · have hpp : plainPlace (fullCtx s t sp e).e (fullCtx s t sp e).arr 1 = .nul := by
          simp [plainPlace, he, h0]
        simp only [hpp, Place.entries, Nat.add_zero, hcore, if_neg (show ¬ 16 < (s.core (t / 16)).sb.length by omega), Place.parts,
          dirtyParts, State.writePlace, htt]
        simp [State.modThr, hthr, Thread.landed, hres, h0]
  · have hres : o.res = none := by
      rw [Bool.not_eq_true] at hwr
      rw [hwr] at ho
      simpa using ho
    simp only [hwr]
    unfold commit
    simp only [takeWords_plain]
    simp [State.modThr, hthr, Thread.landed, hres, show (fullCtx s t sp e).t = t from rfl]

theorem finish_plain (th : Thread) (x : Ctx) (h : x.slot = none) :
    th.finish x = { th.clear with pc := x.pc + BitVec.ofNat 48 x.len } := by
  simp only [Thread.finish, h]

theorem onIssue_plain (th : Thread) (len : Nat) (h : th.slot = none) :
    th.onIssue len = { th with tcw := if bit th.tcw 63 then 0 else th.tcw, old := none, entered := false, issued := true } := by
  unfold Thread.onIssue
  rw [h]

theorem landed_swap (th : Thread) (e : Enc) (o : DataOut) (a : W64) :
    ({ th with tcw := a, old := none, entered := false, issued := true } : Thread).landed e o =
      { th.landed e o with tcw := a, old := none, entered := false, issued := true } := by
  unfold Thread.landed
  cases o.res with
  | none => rfl
  | some p =>
    obtain ⟨d, mask, tag⟩ := p
    dsimp only
    split <;> rfl

theorem landed_pc (th : Thread) (e : Enc) (o : DataOut) : (th.landed e o).pc = th.pc ∧ (th.landed e o).tcw = th.tcw := by
  unfold Thread.landed
  cases o.res with
  | none => exact ⟨rfl, rfl⟩
  | some p =>
    obtain ⟨d, mask, tag⟩ := p
    dsimp only
    split <;> exact ⟨rfl, rfl⟩

theorem finish_landed (t : Nat) (e : Enc) (sp : Spec) (s : State) (o : DataOut) (h4 : (s.thr t).slot = none) :
    (((s.thr t).onIssue (e.len sp.axIsLm)).landed e o).finish (fullCtx s t sp e) =
      ((s.thr t).landed e o).advanced (e.len sp.axIsLm) := by
  rw [finish_plain _ _ (show (fullCtx s t sp e).slot = none from h4), onIssue_plain _ _ h4, landed_swap]
  unfold Thread.advanced
  rw [(landed_pc _ e o).1, (landed_pc _ e o).2]
  rfl

/-- A data instruction whose operands need no memory access: its whole effect (03 R107). -/
theorem dataInstr_plain (t : Nat) (e : Enc) (sp : Spec) (f : Ctx → List TWord → State → Except Nat DataOut) (s : State)
    (roles : List Role) (ws : List TWord) (o : DataOut)
    (hi : s.Issues t false (e.len sp.axIsLm)) (hb : (s.core (t / 16)).sb.length ≤ 16)
    (hd : decodeCheck sp false e = none) (hl : levelCheck sp (s.thr t).sec (s.thr t).lvl (s.thr t) e = none)
    (hc : condHolds e.cond (s.thr t).flags = true) (hr : sp.roles e.form.toNat = some roles)
    (hw : e.plainTake (sp.arrOf e) (s.thr t) sp.acc 1 roles = some ws)
    (hf : f (fullCtx s t sp e) ws (s.issuing t (e.len sp.axIsLm)) = .ok o)
    (hm : (roles.getD 0 .src).writes = true → e.mode 1 = 0 ∨ e.mode 1 = 5)
    (ho : o.res.isSome = (roles.getD 0 .src).writes) :
    dataInstr t e sp f s = .next (s.setThr t (((s.thr t).landed e o).advanced (e.len sp.axIsLm))) := by
  obtain ⟨h1, h2, h3, h4, h5, h6⟩ := hi
  unfold dataInstr fullInstr
  have hx : mkCtx s t false e (e.len sp.axIsLm) (sp.arrOf e) (sp.maskOf e) (sp.unsOf e) (sp.satOf e) = fullCtx s t sp e := rfl
  rw [hx]
  dsimp only
  rw [h4]
  simp only [Option.isSome_none, hd, hl]
  rw [issue_passes false (fullCtx s t sp e) 2 e.cond _ s h1 h2 h3 (by simpa [fullCtx, mkCtx] using h5) (by simp [fullCtx, mkCtx, h4]) h4 h6 hc]
  have hS : s.setThr (fullCtx s t sp e).t ((s.thr (fullCtx s t sp e).t).onIssue (fullCtx s t sp e).len) = s.issuing t (e.len sp.axIsLm) := rfl
  rw [hS]
  unfold dataBody
  have hrole : sp.roles (fullCtx s t sp e).e.form.toNat = some roles := hr
  rw [hrole]
  have hthr : (s.issuing t (e.len sp.axIsLm)).thr t = (s.thr t).onIssue (e.len sp.axIsLm) := by simp [State.issuing]
  have hon : (s.thr t).onIssue (e.len sp.axIsLm) =
      { s.thr t with tcw := if bit (s.thr t).tcw 63 then 0 else (s.thr t).tcw, old := none, entered := false, issued := true } := by
    simp [Thread.onIssue, h4]
  obtain ⟨hp1, hp2⟩ := plainTake_places (fullCtx s t sp e) sp.acc (s.issuing t (e.len sp.axIsLm)) (s.thr t)
    (by show ((s.issuing t (e.len sp.axIsLm)).thr t).den = _; rw [hthr, hon]) rfl
    (by simp only [Ctx.uie, fullCtx, mkCtx, Thread.ctlInForce]; cases (s.thr t).old <;> rfl) roles 1 ws hw
  simp only [Option.getD_some, hp1, Res.bind, hp2, hf]
  have hcore : (s.issuing t (e.len sp.axIsLm)).core (fullCtx s t sp e).core = s.core (t / 16) := rfl
  rw [commit_plain t e sp s roles o hb hm ho]
  dsimp only
  rw [State.modThr, State.issuing, State.setThr_setThr, show (fullCtx s t sp e).t = t from rfl, State.thr_setThr_self, State.setThr_setThr,
    finish_landed t e sp s o h4]
end Sys2Proof.Machine
end

