-- ==== Sys2Proof/Tests/Slice0.lean ====
section
/-! SUPPORT. Tests: a command that names a unit the part does not have is ill formed; one step on a small state; and for the hypotheses of
the statements in Certificates/Slice0/Obligations.lean a state and operands that meet them together (test_meets_<statement>). Each
expected value is computed by hand from the rule named. -/

namespace Sys2Proof.Tests

open Sys2Proof.Machine

/-! ## Small states -/

/-- Three lines of code around 0x1000, as a fetch buffer holds them (06 R215). -/
def code : List FetchLine := [0x0FC0, 0x1000, 0x1040].map (fun n => { va := BitVec.ofNat 48 n, predicted := false, poison := 0 })

/-- The machine with thread 0 ACTIVE at 0x1000 on a released core, its L1 caches disabled. -/
def at1000 (f : Thread → Thread) : State :=
  (State.reset.setThr 0 (f { Thread.reset 0 with st := .active, fetch := code, pc := 0x1000, ctl := 2 })).modCore 0
    (fun c => { c with released := true, l1ctl := 3 })

/-- The same with some Den words of thread 0. -/
def withDen (ws : List (Nat × Nat × Tag)) (f : Thread → Thread) : State :=
  at1000 (fun th => f (ws.foldl (fun u w => u.setDen w.1 { data := BitVec.ofNat 128 w.2.1, tag := w.2.2 }) th))

/-- The same with words of memory, each named by its number from 0x7F0000000000 on. -/
def withMem (mem : List (Nat × Nat × Tag)) (s : State) : State :=
  { s with mem := mem.foldl (fun m w => m.setWord (0x7F000000000 + w.1) { data := BitVec.ofNat 128 w.2.1, tag := w.2.2 }) s.mem }

def withRegs (rs : List (Nat × Nat)) (s : State) : State := rs.foldl (fun u r => u.setReg r.1 (BitVec.ofNat 64 r.2)) s

/-- The device has left reset. -/
def booted (s : State) : State := { s with aon := { s.aon with inReset := false } }

/-- A full-mode instruction without operands, and a Compact one. -/
def bareFull : Enc := { cond := 0, form := 0, ax := false, m1 := 0, m2 := 0, m3 := 0, lm := 0, x1 := 0, x2 := 0, x3 := 0 }
def bareCompact : CEnc := { cond := 0, d := 0, s := 0, x := false, sg := false, sz := 0, ext := 0 }

def secureWriter : Writer := { secure := true, lvl := 3, tid := 5 }

def frame (h : Nat) (ws : List Nat) : RFrame := { hdr := BitVec.ofNat 128 h, payload := ws.map (BitVec.ofNat 128) }

/-- What a command answers when it goes on. -/
def next (o : Out) (p : State → Bool) : Bool := match o with | .next u => p u | _ => false

theorem ready {s : State} {t len : Nat}
    (h : decide ((t < 768 ∧ s.canIssue t = true ∧ bit (s.thr t).ctl 0 = false ∧ (s.thr t).slot = none ∧
      (s.thr t).pc.toNat % (if false then 4 else 2) = 0 ∧ (s.thr t).holdsCode (s.thr t).pc len = true) ∧
      (s.core (t / 16)).sb.length ≤ 16) = true) : s.Ready t len := by
  have g := of_decide_eq_true h
  exact g

theorem issues {s : State} {t len : Nat} {c : Bool}
    (h : decide (t < 768 ∧ s.canIssue t = true ∧ bit (s.thr t).ctl 0 = c ∧ (s.thr t).slot = none ∧
      (s.thr t).pc.toNat % (if c then 4 else 2) = 0 ∧ (s.thr t).holdsCode (s.thr t).pc len = true) = true) :
    s.Issues t c len := by
  have g := of_decide_eq_true h
  exact g

theorem direct {s : State} {t pa : Nat}
    (h : decide ((s.region pa).tagged = true ∧ s.reaches (s.thr t).sec pa = true ∧ s.standbyRefuses pa = false ∧ s.chunkReady pa = true ∧
      s.l1Ready t false (lineOf pa) (s.thr t).sec = true) = true) : s.Direct t pa := by
  have g := of_decide_eq_true h
  exact g

theorem flat {s : State} {t : Nat} {sp : Spec} {e : Enc}
    (h : decide ((fullCtx s t sp e).x.en1 = false ∧ (fullCtx s t sp e).x.en2 = false ∧ (s.thr t).late = none) = true) : s.Flat t sp e := by
  have g := of_decide_eq_true h
  exact g

/-- While no DRAM answers, nothing waits for a chunk. -/
theorem initialised {s : State} (h : s.dmaWait = none) (d : s.dram.top = 0) (m : s.pair.mirrors = false := by rfl) : s.Initialised :=
  ⟨h, fun a => by
    simp only [State.chunkReady, State.region, d]
    repeat' split
    all_goals first | omega | rfl, .inl m⟩

/-! ## Well-formedness: each unit's bound, and a command just beyond it -/

theorem test_wf_thread : Instr.wf (.add 767 bareFull) = true ∧ Instr.wf (.add 768 bareFull) = false := by decide
theorem test_wf_core : Instr.wf (.storeBufferDrain 47) = true ∧ Instr.wf (.storeBufferDrain 48) = false := by decide
theorem test_wf_requester : Instr.wf (.meshDeadlineExpiry (.walk 47 0)) = true ∧ Instr.wf (.meshDeadlineExpiry (.thread 768)) = false := by decide
theorem test_wf_dmaRequester : Instr.wf (.meshDeadlineExpiry (.dma (.crypto 7) 0)) = true ∧
    Instr.wf (.meshDeadlineExpiry (.dma (.rinolink 8) 0)) = false := by decide
theorem test_wf_late : Instr.wf (.lateResponse 9 47) = true ∧ Instr.wf (.lateResponse 1 4) = false ∧ Instr.wf (.lateResponse 11 0) = false := by
  decide
theorem test_wf_slice : Instr.wf (.homeSliceRequest 11 0 true 15 3 true) = true ∧ Instr.wf (.homeSliceRequest 11 0 true 16 3 true) = false := by
  decide
theorem test_wf_cluster : Instr.wf (.snoop 11 0 false) = true ∧ Instr.wf (.snoop 12 0 false) = false := by decide
theorem test_wf_eviction : Instr.wf (.evictionOffer 0 2047 15 15) = true ∧ Instr.wf (.evictionOffer 0 2048 15 15) = false := by decide
theorem test_wf_agent : Instr.wf (.dmaRead (.tsn 5) 0) = true ∧ Instr.wf (.dmaRead (.tsn 6) 0) = false := by decide
theorem test_wf_registerCommand : Instr.wf (.partitionWrite (.mmio secureWriter 11 0)) = true ∧
    Instr.wf (.partitionWrite (.mmio secureWriter 12 0)) = false := by decide
theorem test_wf_channel : Instr.wf (.memReportSend 3) = true ∧ Instr.wf (.memReportSend 4) = false := by decide
theorem test_wf_compare : Instr.wf (.compareFire 31) = true ∧ Instr.wf (.compareFire 32) = false := by decide
theorem test_wf_encoder : Instr.wf (.encoderIndex 7) = true ∧ Instr.wf (.encoderIndex 8) = false := by decide
theorem test_wf_resolver : Instr.wf (.resolverPeriodEnd 3 0 0 true) = true ∧ Instr.wf (.resolverPeriodEnd 4 0 0 true) = false := by decide
theorem test_wf_gateUnit : Instr.wf (.gateStop 15) = true ∧ Instr.wf (.gateStop 16) = false := by decide
theorem test_wf_gateChannel : Instr.wf (.gateEdge 15 5 0) = true ∧ Instr.wf (.gateEdge 15 6 0) = false := by decide
theorem test_wf_port : Instr.wf (.rinolinkCycleStart 7 2) = true ∧ Instr.wf (.rinolinkCycleStart 7 3) = false ∧
    Instr.wf (.rinolinkCycleStart 8 0) = false := by decide
theorem test_wf_tsn : Instr.wf (.tsnTransmit 5 7) = true ∧ Instr.wf (.tsnTransmit 6 0) = false ∧ Instr.wf (.tsnTransmit 0 8) = false := by decide
theorem test_wf_queue : Instr.wf (.hseSlotTake 7) = true ∧ Instr.wf (.hseSlotTake 8) = false := by decide
theorem test_wf_tier : Instr.wf (.hseFlushTimer 3) = true ∧ Instr.wf (.hseFlushTimer 4) = false := by decide
theorem test_wf_drive : Instr.wf (.driveRetire 15) = true ∧ Instr.wf (.driveRetire 16) = false := by decide
theorem test_wf_keySlot : Instr.wf (.cryKnresWrite secureWriter 63 0) = true ∧ Instr.wf (.cryKnresWrite secureWriter 64 0) = false := by decide
theorem test_wf_mailbox : Instr.wf (.getInfo 8) = true ∧ Instr.wf (.getInfo 9) = false := by decide
theorem test_wf_debug : Instr.wf (.debugPortAccess (.stop true 767)) = true ∧ Instr.wf (.debugPortAccess (.stop true 768)) = false := by decide
theorem test_wf_tolerance : Instr.wf (.toleranceWrite (some 11) secureWriter 0) = true ∧
    Instr.wf (.toleranceWrite (some 12) secureWriter 0) = false := by decide
theorem test_wf_clock : Instr.wf (.clockMonitorFail 15) = true ∧ Instr.wf (.clockMonitorFail 16) = false := by decide

/-! ## The queue and the decoder (log 1, log 3) -/

theorem test_step_front : next (step { State.reset with pending := [.vddAonLoss, .scratchConversionDone] })
    (fun u => u.pending == [.scratchConversionDone]) = true := by decide
theorem test_step_idle : step State.reset = .next State.reset.tick := rfl
theorem test_word_spells_none : decodeTableWord 32 0 = none := by decide

/-! ## One step of an instruction -/

/-- 2^64 - 1 + 1 is 0 with a carry out of the high lane (04 R119, R120). -/
theorem test_add_carry : next (exec (.add 0 (denEnc3 2 0 1)) (withDen [(0, 2 ^ 128 - 2 ^ 64, Tag.int), (1, 2 ^ 64, Tag.int)] id))
    (fun u => (u.thr 0).denWord 2 == { data := 0, tag := Tag.int } && (u.thr 0).flags == 0b01100 && (u.thr 0).pc == 0x100A) = true := by decide

/-- A lane of 0 as divisor traps with code 0x18 (04 R122). -/
theorem test_div_by_zero : next (exec (.div 0 (denEnc3 2 0 1)) (withDen [(0, 7, Tag.int), (1, 5, Tag.int)] id))
    (fun u => bits (u.thr 0).bankU.cause 7 0 == 0x18) = true := by decide

/-- 0.5 * 0.5 is 0.25 in Q31 (04 R124). -/
theorem test_fxmul : next (exec (.fxmul 0 (denEnc3 2 0 1)) (withDen [(0, 0x40000000, Tag.fix), (1, 0x40000000, Tag.fix)] id))
    (fun u => (u.thr 0).denWord 2 == { data := 0x20000000, tag := Tag.fix }) = true := by decide

/-- 1.0 + 2.0 is 3.0 in binary64 (04 R127). -/
theorem test_fadd : next (exec (.fadd 0 (denEnc3 2 0 1))
    (withDen [(0, 0x3FF0000000000000, Tag.flt), (1, 0x4000000000000000, Tag.flt)] id))
    (fun u => (u.thr 0).denWord 2 == { data := 0x4008000000000000, tag := Tag.flt }) = true := by decide

/-- A shift by 128 gives 0 with the bit shifted out last in C (04 R132). -/
theorem test_shl_all : next (exec (.shl 0 (denEnc3 2 0 1)) (withDen [(0, 1, Tag.bits), (1, 128, Tag.bits)] id))
    (fun u => (u.thr 0).denWord 2 == { data := 0, tag := Tag.bits } && (u.thr 0).flags.getLsbD 2) = true := by decide

/-- A POISON source traps with code 0x10 (02 R55). -/
theorem test_mov_takes_poison : next (exec (.mov 0 (denEnc2 2 0)) (withDen [(0, 9, Tag.poison)] id))
    (fun u => (u.thr 0).denWord 2 == { data := 9, tag := Tag.poison }) = true := by decide

/-- A Compact LD sign-extends a byte (04 R151). -/
theorem test_compact_ld : next (exec (.compactLd 0 { bareCompact with d := 2, s := 1, sg := true, sz := 0 })
    (withMem [(1, 0x80, Tag.bits)] (withDen [(1, 0x10, Tag.bits)] (fun th => { th with ctl := 3, cbase := 0x7F0000000000 }))))
    (fun u => (u.thr 0).denWord 2 == { data := 0xFFFFFF80, tag := Tag.bits }) = true := by decide

/-- A taken BR leaves its delay slot next (05 R160). -/
theorem test_br : next (exec (.br 0 (.full { bareFull with form := 1, m1 := 0x0C, x1 := 0x100 })) (at1000 id))
    (fun u => (u.thr 0).pc == 0x1008 && (u.thr 0).slot == some { next := some 0x1100, annul := false, call := false }) = true := by decide

/-- SVC saves the instruction after it (07 R244). -/
theorem test_svc : next (exec (.svc 0 (.full { bareFull with form := 1, m1 := 6, x1 := 0x1234 })) (at1000 id))
    (fun u => (u.thr 0).bankU.pc == 0x1006 && bits (u.thr 0).bankU.cause 63 48 == 0x1234) = true := by decide

set_option maxRecDepth 8000 in
/-- TAKE empties a FULL slot and sets T (05 R180). -/
theorem test_take : next (exec (.take 0 (.full { denEnc2 2 0 with m2 := 0x17, x2 := 0x7F0000000010 })) (withMem [(1, 77, Tag.full)] (at1000 id)))
    (fun u => (u.thr 0).denWord 2 == { data := 77, tag := Tag.bits } && (u.visWord 0x7F0000000010).tag == Tag.empty &&
      (u.thr 0).flags.getLsbD 0) = true := by decide

/-! ## States that meet the hypotheses: instructions -/

def seven5 : State := withDen [(0, 7, Tag.int), (1, 5, Tag.int), (2, 9, Tag.bits)] id
def addRow : DataRow := ⟨.add, intSpec formsBin [0, 1, 2, 3] true true 1, binOp flNZCV Tag.int laneAdd⟩

theorem test_meets_stepRunsFront : { State.reset with pending := [.vddAonLoss] }.pending = .vddAonLoss :: [] := rfl
theorem test_meets_queueUntouched : next (exec .vddAonLoss State.reset) (fun u => u.pending == []) = true := by decide
theorem test_meets_memoryFormKept : State.Inv (withMem [(0, 5, Tag.int), (3, 7, Tag.full)] (at1000 id)) := by
  unfold State.Inv
  decide
theorem test_meets_storeBuffersKept : (seven5.core 0).sb.length ≤ 16 ∧ (seven5.core 47).sb.length ≤ 16 := by decide
theorem test_meets_levelsLegalKept : levelLegal (seven5.thr 0).sec (seven5.thr 0).lvl = true ∧ levelLegal true 2 = false ∧ levelLegal false 3 = false := by
  decide
theorem test_meets_dataInstructionEffect : addRow ∈ intRows ∧ seven5.Ready 0 10 ∧ decodeCheck addRow.spec false (denEnc3 2 0 1) = none ∧
    levelCheck addRow.spec (seven5.thr 0).sec (seven5.thr 0).lvl (seven5.thr 0) (denEnc3 2 0 1) = none ∧
    condHolds 0 (seven5.thr 0).flags = true ∧ addRow.spec.roles 3 = some [.dst, .src, .src] ∧
    (denEnc3 2 0 1).plainTake (addRow.spec.arrOf (denEnc3 2 0 1)) (seven5.thr 0) addRow.spec.acc 1 [.dst, .src, .src] =
      some [TWord.fresh, { data := 7, tag := Tag.int }, { data := 5, tag := Tag.int }] :=
  ⟨List.mem_cons_self, ready (by decide), by decide, by decide, by decide, by decide, by decide⟩
/-- Condition 1 (EQ) fails on clear flags. -/
theorem test_meets_notPerformed_condition : seven5.Issues 0 false 10 ∧ decodeCheck addRow.spec false { denEnc3 2 0 1 with cond := 1 } = none ∧
    condHolds 1 (seven5.thr 0).flags = false := ⟨issues (by decide), by decide, by decide⟩
theorem test_meets_notPerformed_illegal : seven5.Issues 0 false 10 ∧ decodeCheck addRow.spec false { denEnc3 2 0 1 with m2 := 0x11 } = some 2 :=
  ⟨issues (by decide), by decide⟩
def poison3 : State := withDen [(0, 7, Tag.int), (3, 1, Tag.poison)] id
theorem test_meets_notPerformed_tag : poison3.Issues 0 false 10 ∧ addRow.spec.roles 3 = some [.dst, .src, .src] ∧
    (denEnc3 2 0 3).plainTake 2 (poison3.thr 0) addRow.spec.acc 1 [.dst, .src] = some [TWord.fresh, { data := 7, tag := Tag.int }] ∧
    (denEnc3 2 0 3).plainWord 2 (poison3.thr 0) 3 = some { data := 1, tag := Tag.poison } ∧
    consume true false (addRow.spec.acc 3) { data := 1, tag := Tag.poison } = .error 0x10 :=
  ⟨issues (by decide), by decide, by decide, by decide, by rfl⟩
theorem test_meets_integerInstructions : seven5.Ready 0 10 ∧ seven5.denTag 0 0 = Tag.int ∧ seven5.denTag 0 1 = Tag.int ∧ seven5.denTag 0 2 = Tag.bits :=
  ⟨ready (by decide), by decide, by decide, by decide⟩
theorem test_meets_fixedPointResults : (withDen [(0, 7, Tag.fix), (1, 5, Tag.bits)] id).Ready 0 10 ∧
    (withDen [(0, 7, Tag.fix), (1, 5, Tag.bits)] id).denTag 0 0 = Tag.fix ∧ (withDen [(0, 7, Tag.fix), (1, 5, Tag.bits)] id).denTag 0 1 = Tag.bits :=
  ⟨ready (by decide), by decide, by decide⟩
theorem test_meets_bitwiseResults : seven5.Ready 0 10 ∧ seven5.denTag 0 2 ∈ [Tag.bits, Tag.int, Tag.fix, Tag.flt] := ⟨ready (by decide), by decide⟩
theorem test_meets_floatRules : (withDen [(0, 0x7FF0000000000001, Tag.flt), (1, 0, Tag.bits)] id).Ready 0 10 ∧
    (withDen [(0, 0x7FF0000000000001, Tag.flt), (1, 0, Tag.bits)] id).denTag 0 0 = Tag.flt ∧
    ((withDen [(0, 0x7FF0000000000001, Tag.flt), (1, 0, Tag.bits)] id).thr 0).ctlInForce.getLsbD 5 = false := ⟨ready (by decide), by decide, by decide⟩
theorem test_meets_floatNearest : (fullCtx seven5 0 addRow.spec (denEnc3 2 0 1)).rnd = 0 ∧ (fullCtx seven5 0 addRow.spec (denEnc3 2 0 1)).ftz = false ∧
    finiteLane 64 0x7FEFFFFFFFFFFFFF ∧ finiteLane 64 0x3FF0000000000000 := by
  refine ⟨by decide, by decide, ?_, ?_⟩ <;> exact ⟨by decide, by decide, by decide⟩
theorem test_meets_pointerAndRetag : (withDen [(0, 0x1000, Tag.ptr), (1, 5, Tag.int)] id).Ready 0 10 ∧
    (withDen [(0, 0x1000, Tag.ptr), (1, 5, Tag.int)] id).denTag 0 0 = Tag.ptr ∧ (withDen [(0, 0x1000, Tag.ptr), (1, 5, Tag.int)] id).denTag 0 1 = Tag.int ∧
    ((withDen [(0, 0x1000, Tag.ptr), (1, 5, Tag.int)] id).thr 0).sec = true := ⟨ready (by decide), by decide, by decide, by decide⟩
theorem test_meets_conversionResults : (withDen [(0, 0x7FF0000000000000, Tag.flt)] id).Ready 0 8 ∧
    inf64 (loHalf ((withDen [(0, 0x7FF0000000000000, Tag.flt)] id).denData 0 0)) = true := ⟨ready (by decide), by decide⟩
theorem test_meets_moveAndTagResults : seven5.Ready 0 10 ∧ (seven5.thr 0).lvl ≠ 0 ∧ Tag.reserved Tag.poison = false ∧
    seven5.denTag 0 1 ∈ [Tag.bits, Tag.int, Tag.fix, Tag.flt, Tag.ptr, Tag.code] := ⟨ready (by decide), by decide, by decide, by decide⟩
theorem test_meets_splitTagRule : splitTag Tag.int Tag.int = (Tag.int, false) ∧ (splitTag Tag.int Tag.empty).1 = Tag.empty ∧
    (splitTag Tag.int Tag.flt).1 = Tag.bits := by decide
theorem test_meets_addressingModes : ((withDen [(5, 0x1000, Tag.ptr), (6, 3, Tag.int)] id).thr 0).denWord 5 = { data := 0x1000, tag := Tag.ptr } ∧
    ((withDen [(5, 0x1000, Tag.ptr), (6, 3, Tag.int)] id).thr 0).denWord 6 = { data := 3, tag := Tag.int } := by decide

/-- MOV from and to 0x7F0000000008 in mode ABS48, which spans two words. -/
def spanEnc : Enc := { denEnc2 1 0 with m2 := 0x17, x2 := 0x7F0000000008 }
def spanOut : Enc := { denEnc2 0 1 with m1 := 0x17, x1 := 0x7F0000000008 }
def spanState : State := withMem [(0, 5, Tag.int), (1, 7, Tag.full)] (withDen [(1, 6, Tag.flt)] id)

set_option maxRecDepth 4000 in
theorem test_meets_memoryOperands_source : spanState.Ready 0 (spanEnc.len true) ∧ decodeCheck movSpec false spanEnc = none ∧ spanState.Flat 0 movSpec spanEnc ∧
    spanState.Addresses 0 movSpec spanEnc 2 0x7F0000000008 ∧ spanState.Direct 0 0x7F0000000000 ∧ spanState.Direct 0 0x7F0000000010 ∧
    (∀ n ∈ (spanState.core 0).sb, n.tid = 0 → n.pa.toNat / 16 ≠ 0x7F0000000000 / 16) :=
  ⟨ready (by decide), by decide, flat (by decide), ⟨by decide, by decide, by rfl, by decide⟩, direct (by decide), direct (by decide), by decide⟩
set_option maxRecDepth 4000 in
theorem test_meets_memoryOperands_destination : spanState.Ready 0 (spanOut.len true) ∧ decodeCheck movSpec false spanOut = none ∧
    spanState.Addresses 0 movSpec spanOut 1 0x7F0000000008 ∧ (spanState.core 0).sb.length + 2 ≤ 16 :=
  ⟨ready (by decide), by decide, ⟨by decide, by decide, by rfl, by decide⟩, by decide⟩
theorem test_meets_dataInstructionFrame : (fullCtx seven5 0 addRow.spec (denEnc3 2 0 1)).x.en1 = false ∧
    (fullCtx seven5 0 addRow.spec (denEnc3 2 0 1)).x.en2 = false ∧ bit (seven5.thr 0).bankU.stat 32 = false ∧
    next (exec (.add 0 (denEnc3 2 0 1)) seven5) (fun u => (u.thr 0).pc == 0x100A) = true := by decide

/-- Compact mode, with THCBASE at the SRAM. -/
def inCompact (ws : List (Nat × Nat × Tag)) : State :=
  withMem [(0, 5, Tag.int), (1, 7, Tag.int)] (withDen ws (fun th => { th with ctl := 3, cbase := 0x7F0000000000 }))
def compactAt : State := inCompact [(0, 7, Tag.int), (1, 0xE, Tag.bits), (2, 3, Tag.bits)]

theorem test_meets_compactData : compactAt.Issues 0 true 4 ∧ condHolds 0 (compactAt.thr 0).flags = true ∧
    (compactAt.thr 0).reads32 ((compactAt.thr 0).denWord 1).tag ∧ (compactAt.thr 0).reads32 ((compactAt.thr 0).denWord 0).tag ∧
    low32 ((compactAt.thr 0).denWord 1).data ≠ 0 :=
  ⟨issues (by decide), by decide, ⟨by decide, by decide, by decide⟩, ⟨by decide, by decide, by decide⟩, by decide⟩
/-- A 4-byte item at 0x7F000000000E crosses a 16-byte boundary. -/
theorem test_meets_compactLoadStore : compactAt.compactVa 0 (low32 ((compactAt.thr 0).denWord 1).data + 0) = 0x7F000000000E ∧
    compactAt.Direct 0 0x7F0000000000 ∧ compactAt.Direct 0 0x7F0000000010 ∧
    (compactCtx compactAt 0 { bareCompact with s := 1, d := 2, sz := 2 }).x.en1 = false ∧
    (compactCtx compactAt 0 { bareCompact with s := 1, d := 2, sz := 2 }).x.en2 = false ∧
    (compactAt.thr 0).reads32 (splitTag (compactAt.visWord 0x7F0000000000).tag (compactAt.visWord 0x7F0000000010).tag).1 :=
  ⟨by decide, direct (by decide), direct (by decide), by decide, by decide, ⟨by decide, by decide, by decide⟩⟩

/-- BR with mode PCA to 0x1100. -/
def branchEnc : Enc := { bareFull with form := 1, m1 := 0x0C, x1 := 0x100 }

theorem test_meets_takenTransfers : (at1000 id).Runs 0 (.full branchEnc) ∧ (at1000 id).Targets 0 (.full branchEnc) 0x1100 ∧
    ((at1000 id).thr 0).rsDepth.toNat < 16 :=
  ⟨⟨issues (by decide), by decide⟩, ⟨by decide, by decide, by decide, .inl ⟨by decide, by decide⟩⟩, by decide⟩
theorem test_meets_takenTransfers_full : 16 ≤ ((at1000 (fun th => { th with rsDepth := 16, ctl := 2 })).thr 0).rsDepth.toNat ∧
    bit ((at1000 (fun th => { th with rsDepth := 16, ctl := 2 })).thr 0).ctlInForce 1 = true := by decide
theorem test_meets_takenTransfers_return : (at1000 (fun th => { th with rsDepth := 1 })).Runs 0 (.full bareFull) ∧ (Ins.full bareFull).retForm ∧
    ((at1000 (fun th => { th with rsDepth := 1 })).thr 0).rsDepth ≠ 0 :=
  ⟨⟨issues (by decide), by decide⟩, ⟨by decide, by decide, by decide, by decide⟩, by decide⟩
theorem test_meets_returnStackUnderflow : (at1000 id).Runs 0 (.full bareFull) ∧ (Ins.full bareFull).retForm ∧ ((at1000 id).thr 0).rsDepth = 0 :=
  ⟨⟨issues (by decide), by decide⟩, ⟨by decide, by decide, by decide, by decide⟩, by decide⟩
theorem test_meets_untakenTransfers : (at1000 id).Issues 0 false 8 ∧ condHolds 1 ((at1000 id).thr 0).flags = false ∧
    decodeCheck branchSpec false { branchEnc with cond := 1 } = none := ⟨issues (by decide), by decide, by decide⟩
def slotState : State := withDen [(0, 7, Tag.int), (1, 5, Tag.int)] (fun th => { th with slot := some { next := some 0x2000, annul := false, call := true } })
theorem test_meets_delaySlotEnds : slotState.canIssue 0 = true ∧ (slotState.thr 0).slot = some { next := some 0x2000, annul := false, call := true } ∧
    (slotState.thr 0).hinge = [] ∧ (slotState.thr 0).holdsCode 0x1000 10 = true ∧ decodeCheck addRow.spec true (denEnc3 2 0 1) = none ∧
    (slotState.core 0).sb.length ≤ 16 := by decide

/-! ### HINGE and the Hinge's service -/

/-- Thread 0 in the normal world; thread 17 serves service 1 with a window of 4 words at D0. -/
def hingeState : State :=
  withRegs [(Key.evrHsvc 1, 2 ^ 63 + 17)] (((at1000 (fun th => { th with sec := false, lvl := 1 })).modThr 17
    (fun th => { th with sec := true, hwin := 0x400 })).modCore 1 (fun c => { c with released := true }))
theorem test_meets_hinge : hingeState.Runs 0 (hingeIns false 0 false 0 0x0102) ∧ bits (0x0102 : BitVec 16) 7 6 = 0 ∧ (hingeState.thr 0).sec = false ∧
    hingeState.service 1 = some 17 ∧ ¬ bits (hingeState.thr 17).hwin 13 8 < 2 + 1 ∧ hingeState.service 2 = none :=
  ⟨⟨issues (by decide), by decide⟩, by decide, by decide, by decide, by decide, by decide⟩
def hingeReq : HingeReq :=
  { caller := 0, base := 0, slotPc := 0x1008, s := 1, svc := 17, hdr := 0x01000800, ws := [{ data := 5, tag := Tag.int }], orphan := false }
def windowState : State := { hingeState.modThr 17 (fun th => th.setDen 0 { data := 0, tag := Tag.empty }) with hingeWait := [hingeReq] }
theorem test_meets_hingeWindowWrite : windowState.hingeWait.find? (fun h => h.svc == 17) = some hingeReq ∧ (windowState.core 1).fenced = false ∧
    ((windowState.thr 17).denWord (bits (windowState.thr 17).hwin 7 0)).tag = Tag.empty ∧ tfind windowState.hingeOut 17 = none := by decide
/-- Thread 0 serves; thread 20 waits for its reply. -/
def replyState (orphan : Bool) : State :=
  { (at1000 (fun th => { th with hwin := 0x400 })).modThr 20 (fun th => { th with st := .suspended, hinge := [{ svc := 0, slotPc := 0x1008 }] }) with
    hingeOut := [(0, { hingeReq with caller := 20, svc := 0, orphan := orphan })] }
theorem test_meets_hreply : (replyState false).Ready 0 8 ∧ ((replyState false).thr 0).sec = true ∧ bits ((replyState false).thr 0).hwin 13 8 ≠ 0 ∧
    (tfind (replyState false).hingeOut 0).map (·.caller) = some 20 ∧ ((replyState false).core 1).fenced = false ∧
    ((replyState false).thr 20).hinge.head? = some { svc := 0, slotPc := 0x1008 } ∧ (tfind (replyState true).hingeOut 0).map (·.orphan) = some true ∧
    (((replyState false).modCore 1 (fun c => { c with fencedCmd := true })).core 1).fenced = true :=
  ⟨ready (by decide), by decide, by decide, by decide, by decide, by decide, by decide, by decide⟩

/-! ### Fetch, waits, slots, atomics, blocks -/

def sramCode : State := at1000 (fun th => { th with pc := 0x7F0000000000, fetch := [] })
theorem test_meets_fetchBuffer : sramCode.asksLine 0 0x7F0000000000 false = some 0x7F0000000000 ∧ (∀ l ∈ (sramCode.thr 0).fetch, l.va ≠ 0x7F0000000000) ∧
    sramCode.canFetch 0 = true ∧ (fetchCtx sramCode 0).x.en1 = false ∧ (fetchCtx sramCode 0).x.en2 = false ∧
    (sramCode.region 0x7F0000000000).tagged = true ∧ sramCode.reaches true 0x7F0000000000 = true ∧ sramCode.chunkReady 0x7F0000000000 = true ∧
    sramCode.l1Ready 0 true (lineOf 0x7F0000000000) true = true ∧ sramCode.asksLine 0 0x7F0000004000 false = none := by decide
theorem test_meets_flushes : (at1000 id).Runs 0 (.full bareFull) ∧ (Ins.full bareFull).bare ∧ (∀ n ∈ ((at1000 id).core 0).sb, n.tid = 0 → n.kind ≠ .mem) :=
  ⟨⟨issues (by decide), by decide⟩, ⟨by decide, by decide, by decide, by decide, by decide⟩, by decide⟩
theorem test_meets_waitd : (withDen [(255, 1, Tag.empty), (0, 2, Tag.full)] id).Runs 0 (waitIns false 0 255 (some 3)) ∧
    waitSet false 255 (some 3) = [255, 0] ∧ (withDen [(255, 1, Tag.empty), (0, 2, Tag.full)] id).HoldsNext 0 8 :=
  ⟨⟨issues (by decide), by decide⟩, by decide, by
    unfold State.HoldsNext
    decide⟩
theorem test_meets_parkAndFences :
    (at1000 (fun th => { th with wake := true })).Runs 0 (.full bareFull) ∧ ((at1000 (fun th => { th with wake := true })).thr 0).wake = true ∧
    ((at1000 id).thr 0).late = none ∧ (∀ n ∈ ((at1000 id).core 0).sb, n.tid ≠ 0) := ⟨⟨issues (by decide), by decide⟩, by decide, by decide, by decide⟩

def putEnc : Enc := { denEnc2 0 2 with m1 := 0x17, x1 := 0x7F0000000010 }
def takeEnc : Enc := { denEnc2 2 0 with m2 := 0x17, x2 := 0x7F0000000010 }
def slotAt (g : Tag) : State := withMem [(1, 77, g)] (withDen [(2, 6, Tag.int), (3, 77, g)] id)

theorem test_meets_location (s : State) (e : Enc) (k n : Nat) (g : Tag) (hs : s = slotAt g) (hg : g = Tag.empty ∨ g = Tag.full ∨ g = Tag.int)
    (he : (e = putEnc ∧ k = 1) ∨ (e = takeEnc ∧ k = 2)) (hn : n = 16) : s.Location 0 (.full e) k n 0x7F0000000010 := by
  subst hs hn
  rcases he with ⟨rfl, rfl⟩ | ⟨rfl, rfl⟩ <;> rcases hg with rfl | rfl | rfl <;>
    exact ⟨by decide, direct (by decide), by decide, by decide, by decide, by decide, flat (by decide), by decide, by decide, by rfl, by decide⟩
theorem test_meets_slotInstructions : (slotAt Tag.empty).Runs 0 (.full putEnc) ∧ ((slotAt Tag.empty).visWord 0x7F0000000010).tag = Tag.empty ∧
    (slotAt Tag.full).Runs 0 (.full takeEnc) ∧ ((slotAt Tag.full).visWord 0x7F0000000010).tag = Tag.full ∧
    (((slotAt Tag.empty).thr 0).denWord 2).tag ∈ [Tag.bits, Tag.int, Tag.fix, Tag.flt, Tag.full] :=
  ⟨⟨issues (by decide), by decide⟩, by decide, ⟨issues (by decide), by decide⟩, by decide, by decide⟩
def swapEnc : Enc := { denEnc3 3 0 2 with m2 := 0x17, x2 := 0x7F0000000010 }
theorem test_meets_atomicInstructions : (slotAt Tag.int).Issues 0 false (swapEnc.len false) ∧ (slotAt Tag.int).Location 0 (.full swapEnc) 2 16 0x7F0000000010 ∧
    (0x7F0000000010 : BitVec 64).toNat < 2 ^ extNamed 0x17 ∧ ((slotAt Tag.int).thr 0).denWord 3 = (slotAt Tag.int).visWord 0x7F0000000010 :=
  ⟨issues (by decide), ⟨by decide, direct (by decide), by decide, by decide, by decide, by decide, flat (by decide), by decide, by decide, by rfl, by decide⟩,
    by decide, by decide⟩
def compactSlot : State := inCompact [(1, 0x1C, Tag.bits), (2, 3, Tag.bits), (3, 4, Tag.bits)]
theorem test_meets_compactAtomics : compactSlot.Runs 0 (.compact { bareCompact with d := 2, s := 1 }) ∧
    compactSlot.Location 0 (.compact { bareCompact with d := 2, s := 1 }) 2 4 0x7F000000001C ∧
    (compactSlot.thr 0).reads32 (compactSlot.visWord 0x7F0000000010).tag ∧ (compactSlot.thr 0).reads32 ((compactSlot.thr 0).denWord 2).tag :=
  ⟨⟨issues (by decide), by decide⟩, ⟨by decide, direct (by decide), by decide, by decide, by decide, by decide, by decide,
    ⟨by decide, by decide, by decide⟩, by decide, by decide, by decide, by decide⟩, ⟨by decide, by decide, by decide⟩, ⟨by decide, by decide, by decide⟩⟩
/-- Two words from 0x7F0000000000 to 0x7F0000000020, resumed after the first step. -/
def blockState : State :=
  withMem [(0, 5, Tag.int), (1, 7, Tag.full)] (withDen [(1, 0x7F0000000020, Tag.ptr), (2, 0x7F0000000000, Tag.ptr), (3, 2, Tag.int)]
    (fun th => { th with tcw := BitVec.ofNat 64 (2 ^ 63 + 0x148 * 2 ^ 48 + 1) }))
theorem test_meets_blockInstructions : blockState.Ready 0 ((denEnc3 1 2 3).len true) ∧ blockState.Flat 0 (blockSpec [.src, .src, .src]) (denEnc3 1 2 3) ∧
    (blockState.thr 0).block = none ∧ blockState.Direct 0 0x7F0000000000 ∧ blockState.Direct 0 0x7F0000000010 ∧ blockState.Direct 0 0x7F0000000020 ∧
    blockState.Direct 0 0x7F0000000030 ∧ (blockState.core 0).sb.length + 2 ≤ 16 :=
  ⟨ready (by decide), flat (by decide), by decide, direct (by decide), direct (by decide), direct (by decide), direct (by decide), by decide⟩

/-! ## States that meet the hypotheses: system words, traps, events, caches, memory -/

/-- SYSRD and SYSWR take their selector from D1 and their value from D2. -/
def sysState (sel v : Nat) (f : Thread → Thread) : State := withDen [(1, sel, Tag.int), (2, v, Tag.bits)] f

theorem test_meets_systemWordReads : (sysState 0x182 0 id).Ready 0 8 ∧ (sysState 0x182 0 id).denTag 0 1 = Tag.int ∧
    ((sysState 0x182 0 id).denData 0 1).toNat % 2 ^ 64 / 4096 = 0 ∧ lvlMeets ((sysState 0x182 0 id).thr 0).sec ((sysState 0x182 0 id).thr 0).lvl 1 = true ∧
    2 ^ 16 ≤ ((sysState 0x10182 0 id).denData 0 1).toNat % 2 ^ 64 := ⟨ready (by decide), by decide, by decide, by decide, by decide⟩
theorem test_meets_systemWordWrites : (sysState 0x1004 0 id).Ready 0 8 ∧ (sysState 0x1004 0 id).denTag 0 2 = Tag.bits ∧
    ((sysState 0x1004 0 id).denData 0 1).toNat % 2 ^ 64 < 2 ^ 16 ∧ ((sysState 0x1004 0 id).thr 0).lvl = 3 ∧ (sysState 0x1004 0 id).thState 1 = 0 ∧
    ((sysState 0x1004 0 id).thr 1).sec = false := ⟨ready (by decide), by decide, by decide, by decide, by decide, by decide⟩
theorem test_meets_systemWordWrites_limit : fuseLimit (sysState 0x1004 1 id).keyw.secthr 4 < 4 + 1 ∧
    (((sysState 2 0 (fun th => { th with lvl := 0 })).thr 0).lvl = 0) ∧ ((sysState 0x101 0 id).thr 0).lvl = 3 := by decide
/-- TLBLKCMD LOAD of slot 3 when both stages of the thread are flat. -/
theorem test_meets_tlbLocks : (sysState 0x110 0x0D id).Ready 0 8 ∧ (sysState 0x110 0x0D id).tlblkDenied 0 true 0x0D = false ∧
    bits (0x0D : W64) 1 0 = 1 ∧ bits (0x0D : W64) 14 13 ≠ 3 ∧ (mkXCtx true 0 0 0 0).en1 = false ∧ tfind ((sysState 0x110 0x0D id).core 0).locks 3 = none :=
  ⟨ready (by decide), by decide, by decide, by decide, by decide, by decide⟩
theorem test_meets_l2lock : (sysState 0x192 0x30000 id).Ready 0 8 ∧ ((sysState 0x192 0x30000 id).thr 0).lvl = 3 ∧
    ((sysState 0x192 0x30000 id).cluster 0).l2 = [] := ⟨ready (by decide), by decide, by decide⟩

def exn : Exn := { code := 0x10, step := 6, opnd := 2, addr := 0x40 }
/-- A trap of a supervisor thread with bank S busy is escalated; with bank U busy too it stops the thread. -/
theorem test_meets_trapEntry : exn.code < 256 ∧ exn.step < 16 ∧ exn.opnd < 4 ∧ exn.stage < 4 ∧ exn.src < 1024 ∧ exn.callno < 2 ^ 16 ∧
    bit ((at1000 (fun th => { th with lvl := 1, bankS := { th.bankS with stat := 2 ^ 32 } })).thr 0).bankS.stat 32 = true ∧
    bit ((at1000 (fun th => { th with bankU := { th.bankU with stat := 2 ^ 32 } })).thr 0).bankU.stat 32 = true := by decide
theorem test_meets_calls : (at1000 id).Runs 0 (.full { bareFull with form := 1, m1 := 6, x1 := 0xFFFF }) ∧
    (at1000 (fun th => { th with sec := false, lvl := 1 })).Runs 0 (.full { bareFull with form := 1, m1 := 6 }) :=
  ⟨⟨issues (by decide), by decide⟩, ⟨issues (by decide), by decide⟩⟩
theorem test_meets_undecodable : (at1000 id).canIssue 0 = true ∧ ((at1000 id).thr 0).holdsCode 0x1000 4 = true ∧ ((at1000 id).thr 0).slot = none ∧
    ((at1000 (fun th => { th with pc := 0x1001 })).thr 0).pc.toNat % 2 ≠ 0 := by decide
def badFetch : State := at1000 (fun th => { th with fetch := [], fetchBad := some { line := 0x1000, exn := { code := 0x0C, step := 1, addr := 0x1000 } } })
theorem test_meets_unfetchable : badFetch.fetchFault 0 = some { code := 0x0C, step := 1, addr := 0x1000 } := by decide
def inHandler : State := at1000 (fun th => { th with bankU := { th.bankU with pc := 0x2000, npc := 2 ^ 63 + 0x3000, stat := 2 ^ 32 + 0x60300 } })
theorem test_meets_tret : inHandler.Runs 0 (.full bareFull) ∧ (Ins.full bareFull).bare ∧ (inHandler.thr 0).lvl = 3 ∧
    bits (inHandler.thr 0).bankU.stat 9 8 = 3 ∧ (inHandler.thr 0).mmioOld = [] :=
  ⟨⟨issues (by decide), by decide⟩, ⟨by decide, by decide, by decide, by decide, by decide⟩, by decide, by decide, by decide⟩
/-- THSTART of thread 1 of the core at level 0. -/
theorem test_meets_thstart : (withDen [(1, 1, Tag.int), (2, 0x5000, Tag.code)] id).Runs 0 (.full (denEnc2 1 2)) ∧
    (withDen [(1, 1, Tag.int), (2, 0x5000, Tag.code)] id).denTag 0 1 = Tag.int ∧ (withDen [(1, 1, Tag.int), (2, 0x5000, Tag.code)] id).thState 1 = 0 ∧
    ((withDen [(1, 1, Tag.int), (2, 0x5000, Tag.code)] id).thr 0).lvl == 3 := ⟨⟨issues (by decide), by decide⟩, by decide, by decide, by decide⟩
theorem test_meets_thstop : ((withDen [(1, 1, Tag.int)] id).modThr 1 (fun th => { th with st := .parked, park := some (.wake 0x90) })).Runs 0
    (.full { denEnc2 1 0 with form := 1 }) ∧ (withDen [(1, 1, Tag.int)] id).hingeWait = [] ∧ (withDen [(1, 1, Tag.int)] id).hingeOut = [] :=
  ⟨⟨issues (by decide), by decide⟩, by decide, by decide⟩

def tlbiState : State := withDen [(1, 0x4000, Tag.int)] id
theorem test_meets_tlbi : tlbiState.Ready 0 8 ∧ tlbiState.denTag 0 1 = Tag.int ∧ bits (0x14 : BitVec 16) 15 7 = 0 ∧ bits (0x14 : BitVec 16) 3 2 ≠ 0 ∧
    tlbiState.drained 0 = true ∧ (tlbiState.thr 0).late = none := ⟨ready (by decide), by decide, by decide, by decide, by decide, by decide⟩
def message : TlbiMsg := { tid := 0, sec := true, lvl := 3, vmid := 0, asid := 0, page := 0x4000, ctl := 0x14, cores := [5, 6] }
theorem test_meets_tlbiRemote : { tlbiState with tlbi := [message] }.tlbi[0]? = some message ∧ 5 ∈ message.cores ∧ ((tlbiState.core 5).tlbi message).walks = [] ∧
    (({ tlbiState with tlbi := [message] }.setCore 5 ((tlbiState.core 5).tlbi message)).tlbiBusy message 5) = false ∧
    ((tlbiState.modCore 5 (fun c => { c with released := true })).core 5).fenced = false := by decide
theorem test_meets_syncT : (at1000 id).Ready 0 4 ∧ (Ins.full bareFull).bare ∧ ((at1000 id).thr 0).lvl ≠ 0 ∧ ((at1000 id).thr 0).late = none :=
  ⟨ready (by decide), ⟨by decide, by decide, by decide, by decide, by decide⟩, by decide, by decide⟩

/-- Source 600 is bound to thread 0 in each mode; its data waits. -/
def bound (mode : Nat) : W64 := BitVec.ofNat 64 (mode * 2 ^ 32 + 7 * 65536)
def eventState (mode : Nat) : State := { (at1000 (fun th => { th with sec := false, lvl := 1 })).setReg (Key.evrBind 600) (bound mode) with
  evPend := [(600, 5)], evBind := [(600, bound mode)] }
theorem test_meets_eventDelivery : (eventState 1).nextEvent false 0 = some (600, 5) ∧ (eventState 1).heldMode 600 = 1 ∧
    (eventState 2).nextEvent false 0 = some (600, 5) ∧ (eventState 2).heldMode 600 = 2 ∧
    (eventState 3).nextEvent true 0 = some (600, 5) ∧ (eventState 3).heldMode 600 = 3 ∧ ((eventState 1).thr 0).sec = (eventState 1).rb (Key.evrSecmap 9) 24 ∧
    ((eventState 3).thr 0).slot = none ∧ ((eventState 3).core 0).fenced = false := by decide
theorem test_meets_softwareEvent : (eventState 1).rf (Key.evrBind 600) 35 32 ≠ 0 ∧ tfind { eventState 1 with evPend := [] }.evPend 600 = none ∧
    tfind (eventState 1).evPend 600 = some 5 := by decide

def watched (act : Nat) : State := at1000 (fun th => { th with wdctl := BitVec.ofNat 64 (2 ^ 63 + act * 2 ^ 61 + 1000), wdCount := 1000 })
theorem test_meets_watchdog : bit ((watched 0).thr 0).wdctl 63 = true ∧ ((watched 0).thr 0).st ≠ .stopped ∧ ((watched 0).core 0).fenced = false ∧
    ((watched 0).thr 0).wdDone = false ∧ bits ((watched 0).thr 0).wdctl 31 0 ≤ ((watched 0).thr 0).wdCount ∧ bits ((watched 3).thr 0).wdctl 62 61 = 3 ∧
    ((watched 0).thr 0).entered = false ∧ ((watched 0).thr 0).slot = none := by decide
def mmioRead (pa : Addr) : ExtReq := { key := 3, pa := pa, part := 0, sec := true, lvl := 3, tmo := { code := 0x0D }, tr := none }
theorem test_meets_deadlines : ((at1000 (fun th => { th with extReq := some (mmioRead 0xC00000000000) })).thr 0).extReq = some (mmioRead 0xC00000000000) ∧
    ((at1000 (fun th => { th with stall := some ({ code := 0x0D }, .stores true) })).thr 0).stall = some ({ code := 0x0D }, .stores true) ∧
    (at1000 id).stallOver 0 (.stores true) = true ∧ DmaAgent.unitOk .hse = true := by decide
def tableWalk : Walk :=
  { tid := 0, fetch := false, opnd := 2, half := false, wr := false, va := 0x4000, x := mkXCtx true 0 (2 ^ 63) 0 0, lvl1 := 0, tab1 := 0x7F0000000000,
    pa1 := some (0x7F0000000000, true), s2 := none, done1 := none, install := false }
set_option maxRecDepth 8000 in
theorem test_meets_walks : (((at1000 id).modCore 0 (fun c => { c with walks := [tableWalk] })).core 0).walks[0]? = some tableWalk ∧
    ((at1000 id).modCore 0 (fun c => { c with walks := [tableWalk] })).walkReady 0 tableWalk = false := by decide

theorem test_meets_mmioRead : ((at1000 (fun th => { th with extReq := some (mmioRead (BitVec.ofNat 48 (0xF00000000000 + Key.evrDrop))) })).region
      (0xF00000000000 + Key.evrDrop)) = .mmio ∧ (at1000 id).pageOpen Key.evrDrop true = true ∧ (regIdx (Key.guPat 0) 0x100 16 Key.evrDrop).isSome = false := by
  decide
def refusedWrite (later : Bool) : MmioWait :=
  { pc := 0x0FF8, slot := none, len := 8, opnd := 1, addr := 0x77, result := some false, bankU := false, after := later }
theorem test_meets_mmioWrite : ((at1000 (fun th => { th with mmioW := some (refusedWrite true) })).thr 0).mmioW = some (refusedWrite true) ∧
    ((at1000 (fun th => { th with mmioW := some (refusedWrite false) })).thr 0).st ≠ .stopped := by decide
theorem test_meets_registerWrite : (booted (at1000 id)).aon.inReset = false ∧ secureWriter.tid ≠ 1024 ∧
    (booted (withRegs [(Key.evrSecmap 0, 8)] (at1000 id))).rb (Key.evrSecmap (3 / 64)) (3 % 64) = true ∧
    (booted (at1000 id)).region (0xF00000000000 + 2 ^ 29) ≠ .mmio := by decide

def line0 : Nat := 0x7F0000000000 / 64
def four : List TWord := [{ data := 1, tag := Tag.int }, { data := 2, tag := Tag.int }, { data := 3, tag := Tag.int }, { data := 4, tag := Tag.int }]
def entry0 : SbEntry :=
  { tid := 0, kind := .mem, pa := 0x7F0000000010, data := 77, mask := 0xFF, tag := Tag.bits, sec := true, lvl := 3, legal := true }
/-- Cluster 0's L2 holds the first line of the SRAM in way 2 in a state; its store buffer holds a write to the line. -/
def cached (st : LineState) : State :=
  { (((at1000 id).modCore 0 (fun c => { c with sb := [entry0], l1ctl := 0, l1dpart := 0xF, mshr := [{ icache := false, line := line0, sec := true, thr := [] }] })).modCluster 0
    (fun k => { k with l2 := [(line0 % 2048 * 16 + 2, { line := line0, st := st, pin := false, ws := four })], l2part := 0xF })) with
    dir := [(line0, { presence := 1, excl := true, stamp := 0 })] }
theorem test_meets_drain : ((cached .e).core 0).sb = entry0 :: [] ∧ (cached .e).pair.mirrors = false ∧ (cached .e).pair.repairs = [] ∧
    ((cached .e).region entry0.pa.toNat).tagged = true ∧ (cached .e).reaches true entry0.pa.toNat = true ∧ (cached .e).standbyRefuses entry0.pa.toNat = false ∧
    (((cached .e).cluster 0).l2Find line0).map (·.2.st) = some .e ∧ slotSec ((cached .e).cluster 0) (line0 % 2048 * 16 + 2) = true := by decide
theorem test_meets_lineFill : ((cached .s).core 0).mshr = [{ icache := false, line := line0, sec := true, thr := [] }] ∧ ((cached .s).l2Has 0 line0 true).isSome = true ∧
    (cached .s).l1On 0 false = true ∧ bit ((cached .s).core 0).l1dpart 3 = true ∧ bit ((cached .s).core 0).l1dpart 7 = false := by decide
def uncached : State := at1000 id
theorem test_meets_homeSliceRequest : ((cached .e).cluster 1).l2On = true ∧ (uncached.region (line0 * 64)).tagged = true ∧ uncached.reaches true (line0 * 64) = true ∧
    uncached.chunkReady (line0 * 64) = true ∧ (∀ j < 12, (uncached.cluster j).l2Find line0 = none) ∧ uncached.l3Find line0 = none ∧
    (uncached.cluster 0).heldFind line0 = none ∧ (∃ w < 16, (uncached.cluster 0).wayOk line0 w 0 true = true) ∧ (uncached.dirSet line0).length < 16 ∧
    (((cached .s).cluster 0).l2Find line0).map (·.2.st) = some .s ∧ (tfind (cached .s).dir line0).isSome = true ∧
    (∀ j < 12, j ≠ 0 → ((cached .s).cluster j).l2Find line0 = none) := by decide
theorem test_meets_snoop : ((cached .e).cluster 0).l2Find line0 = some (line0 % 2048 * 16 + 2, { line := line0, st := .e, pin := false, ws := four }) ∧
    ((cached .s).cluster 0).l2Find line0 = some (line0 % 2048 * 16 + 2, { line := line0, st := .s, pin := false, ws := four }) := by decide
theorem test_meets_evictionOffer : ((cached .m).cluster 0).l2On = true ∧ bit ((cached .m).cluster 0).l2lock 18 = false ∧
    (withRegs [(Key.l3Ctl (homeSlice line0), 1)] (cached .m)).rb (Key.l3Ctl (homeSlice line0)) 0 = true ∧
    (withRegs [(Key.l3Ctl (homeSlice line0), 0x20)] (cached .e)).rf (Key.l3Ctl (homeSlice line0)) 5 4 = 2 := by decide
theorem test_meets_dma (j : Nat) : DmaAgent.unitOk .hse = true ∧ (uncached.region (line0 * 64)).tagged = true ∧
    uncached.reaches (DmaAgent.secure .hse) (line0 * 64) = false ∧ uncached.chunkReady (line0 * 64) = true ∧
    uncached.standbyRefuses (line0 * 64) = false ∧ (uncached.cluster j).l2Find line0 = none ∧ uncached.sett.c4 = false ∧
    (DmaAgent.hse, line0 * 4) ∉ uncached.dmaLate ∧ uncached.mirrorRoom (line0 * 64) = true ∧ (uncached.region 0xE00000000000).tagged = false :=
  ⟨by decide, by decide, by decide, by decide, by decide, by
    have h : uncached.cluster j = Cluster.reset := rfl
    rw [h]
    decide, by decide, by decide, by decide, by decide⟩

theorem test_meets_l3part : secureWriter.secure = true ∧ State.reset.keyw.l3sec = 0 ∧ ((List.range 16).filter (fun i => (0xFF : W64).getLsbD i)).length ≤ 8 ∧
    8 < ((List.range 16).filter (fun i => (0x1FF : W64).getLsbD i)).length ∧ State.reset.l3 = [] := by decide
theorem test_meets_l1dpart : (sysState 0x181 0xF id).Ready 0 8 ∧ ((sysState 0x181 0xF id).thr 0).lvl = 3 ∧ (sysState 0x181 0xF id).keyw.l1dsec = 0 :=
  ⟨ready (by decide), by decide, by decide⟩
theorem test_meets_scratch : State.reset.rb Key.l3Scrcfg 63 = false ∧ (∀ h < 12, State.reset.rf (Key.l3Wayret h) 15 0 = 0) ∧
    (withRegs [(Key.l3Scrcfg, 2 ^ 63 + 128)] State.reset).rb Key.l3Scrcfg 63 = true ∧ State.reset.dram.top ≤ 2 ^ 46 := by decide
theorem test_meets_wayRetire : (∀ j < 16, (0xF : W64).getLsbD j = true → State.reset.scratchWay 11 j = false) ∧
    ((List.range 16).filter (fun j => (State.reset.reg (Key.l3Wayret 11) ||| (0xF : W64) &&& 0xFFFF).getLsbD j)).length ≤ 4 ∧
    bits (State.reset.reg (Key.l3Wayret 11) ||| (0xF : W64) &&& 0xFFFF) 15 0 ≠ State.reset.rf (Key.l3Wayret 11) 15 0 := by decide
theorem test_meets_upsets : tfind ((at1000 id).modCore 0 (fun c => { c with l1d := [(9, 77)] }) |>.core 0).l1d 9 = some 77 ∧
    tfind ((cached .m).cluster 0).l2 (line0 % 2048 * 16 + 2) = some { line := line0, st := .m, pin := false, ws := four } ∧
    tfind { uncached with l3 := [(5, { line := line0, dirty := true, ws := four })] }.l3 5 = some { line := line0, dirty := true, ws := four } := by decide

/-- 64 GiB of DRAM with its first chunk initialised. -/
def dramState (up : Bool) : State := { uncached with dram := { uncached.dram with up := up, done := [0], nextChunk := 1 } }
theorem test_meets_dramCommands : (dramState true).region 0x100 = .dram ∧ (dramState true).dram.retired ≠ some (channelOf 0x100) ∧
    (dramState true).dram.ready 0x100 = true ∧ (dramState true).region 0x40000 = .dram ∧ (dramState true).dram.ready 0x40000 = false ∧
    (dramState true).marked (channelOf 0x100) 0 = none ∧ (channelOf 0x100, true) ∉ (dramState true).dram.retry ∧
    (withRegs [(Key.memScrub (channelOf 0x100), 2 ^ 63)] (dramState true)).rb (Key.memScrub (channelOf 0x100)) 63 = true := by decide
theorem test_meets_chunkInit : (dramState true).dram.up = true ∧ (dramState true).dram.complete = false ∧
    (dramState true).dram.cur * 0x40000 < (dramState true).dram.installed := by decide
theorem test_meets_channelRetire : secureWriter.secure = true ∧ (8 : W64).getLsbD 3 = true ∧
    { (dramState true).dram with retiring := some 2 }.retiring = some 2 := by decide


/-! ## States that meet the hypotheses: control IO, links, engines, boot, Sett, power, safety -/

/-- NOW is 2000 ns and compare unit 5 was armed for 1000 ns. -/
def io (rs : List (Nat × Nat)) (f : Cio → Cio) : State := (fun s => { s with cio := f { s.cio with now := 2000 * 2 ^ 32 } }) (withRegs rs uncached)
/-- One unit of offset is left, which the next tick absorbs. -/
theorem test_meets_timebase : (io [] id).pair.role ≠ 2 ∧ (io [] id).cio.slew = 0 ∧ (io [] (fun c => { c with slew := 1 })).cio.slew = tickInc 0 0 + 1 - tickInc 0 0 ∧
    tickInc 0 (-100) ≤ tickInc 0 0 + 1 ∧ tickInc 0 0 + 1 ≤ tickInc 0 100 ∧ 0 ≤ tickInc 0 0 + 1 ∧ (io [] id).adj = 0 := by decide
theorem test_meets_compare : (io [(Key.cioTbCmpctl 5, 1), (Key.cioTbCmp 5, 1000)] id).rb (Key.cioTbCmpctl 5) 0 = true ∧
    ((io [(Key.cioTbCmpctl 5, 1), (Key.cioTbCmp 5, 1000)] id).reg (Key.cioTbCmp 5)).toNat ≤ (io [] id).cio.now / 2 ^ 32 % 2 ^ 64 := by decide
def adc (run : Option Nat) (queue : List Nat) : State := io [(Key.adcCtl, 2 ^ 63), (Key.adcSeq 2, 2 ^ 61)] (fun c => { c with adcRun := run, adcQueue := queue })
theorem test_meets_adc : (adc (some 2) []).rb Key.adcCtl 63 = true ∧ (adc (some 2) []).rb Key.adcCtl 62 = false ∧ (adc (some 2) []).cio.adcRun = some 2 ∧
    (adc none [2]).cio.adcQueue = 2 :: [] ∧ (adc (some 2) []).rf (Key.adcSeq 2) 63 60 ≤ [1, 2].length ∧
    (∀ i < 4, (adc none []).cio.adcRun ≠ some i ∧ i ∉ (adc none []).cio.adcQueue) := by decide

/-- Input 3 leads itself with OSR 16 on SD clock 0, whose divider is 16: its boundaries come every 160 ns. -/
def sdRegs : List (Nat × Nat) := [(Key.sdCfg 3, 2 ^ 63 + 16 * 2 ^ 48 + 3 * 2 ^ 16 + 2 ^ 40), (Key.cioSdClk 0, 2 ^ 63 + 16),
  (Key.sdCmp 3, 2 ^ 63 + 0x00100001)]
def sdState : State := io sdRegs id
theorem test_meets_decimation : sdState.rb (Key.sdCfg 3) 63 = true ∧ sdState.rb (Key.cioSdClk (sdState.rf (Key.sdCfg 3) 60 58)) 63 = true ∧
    sdState.windowOk 3 16 (sdState.sdInstant 3 16) = true ∧ sdState.sdInstant 3 16 ≤ sdState.cio.now ∧ sdState.rf (Key.sdCfg 3) 57 48 = 16 ∧
    sdState.rf (Key.sdCfg 3) 20 16 = 3 ∧ sdState.rf (Key.sdCfg 3) 38 37 = 0 ∧ (io [(Key.sdCfg 3, 0)] id).rb (Key.sdCfg 3) 63 = false := by decide
theorem test_meets_comparator : 2 * sdState.cosr 3 ≤ (List.replicate 64 true).length ∧ sdState.rb (Key.sdCmp 3) 63 = true ∧
    (BitVec.ofNat 16 (sdState.rf (Key.sdCmp 3) 31 16)).toInt < sdState.cmpOut 3 (List.replicate 64 true) := by decide
theorem test_meets_encoder : (io [(Key.encCfg 4, 2 ^ 63)] id).rb (Key.encCfg 4) 63 = true ∧ (io [(Key.encCfg 4, 2 ^ 63)] id).rf (Key.encCfg 4) 62 61 = 0 ∧
    ((io [] id).enc 4).a = false := by decide
/-- A frame of 12 bits, triggered at 500 ns. -/
def ssi : State := io [(Key.encCfg 4, 2 ^ 63 + 2 ^ 61 + 12 * 2 ^ 32 + 10 * 2 ^ 16)] (fun c => { c with enc := [(4, { frame := some 500 })] })
theorem test_meets_ssi : (ssi.enc 4).frame = some 500 ∧ 8 ≤ ssi.rf (Key.encCfg 4) 39 32 ∧ ssi.rf (Key.encCfg 4) 39 32 ≤ 32 := by decide
/-- Channel 1 takes inputs 5 and 6, which have settled and met 16 boundaries each since the period's start. -/
def resolver (settled : Bool) : State := io
  [(Key.resCfg 1, 2 ^ 63 + 5 * 2 ^ 56 + 6 * 2 ^ 51 + 2 ^ 40 + 10000), (Key.sdCfg 5, 2 ^ 63 + 16 * 2 ^ 48 + 5 * 2 ^ 16), (Key.sdCfg 6, 2 ^ 63 + 16 * 2 ^ 48 + 6 * 2 ^ 16),
    (Key.cioSdClk 0, 2 ^ 63 + 16)]
  (fun c => { c with sd := [(5, { settled := true, bounds := 16 }), (6, { settled := true, bounds := 16 })], res := [(1, { settled := settled, endAt := 1900 * 2 ^ 32 })] })
theorem test_meets_resolver (b : Bool) : ((resolver b).resCh 1).endAt ≤ (resolver b).cio.now ∧ (resolver b).rb (Key.resCfg 1) 63 = true ∧
    (resolver b).rf (Key.resCfg 1) 60 56 = 5 ∧ (resolver b).rf (Key.resCfg 1) 55 51 = 6 ∧ (resolver b).resFew 1 = false ∧ ((resolver b).sdIn 5).settled = true ∧
    ((resolver b).sdIn 6).settled = true ∧ (resolver b).rf (Key.sdCfg 5) 20 16 = 5 ∧ (resolver b).rf (Key.sdCfg 5) 38 37 = 0 ∧ ((resolver b).resCh 1).settled = b ∧
    16 * (resolver b).rf (Key.sdCfg 6) 57 48 * (resolver b).rf (Key.cioSdClk ((resolver b).rf (Key.sdCfg 6) 60 58)) 8 0 * 5 ≤
      8 * (resolver b).rf (Key.resCfg 1) 18 0 := by
  cases b <;> decide

/-- Unit 7 with half periods of 1000 units of 250 ps and its start at 1000 ns. -/
def gates (cfg : Nat) (g : GateUnit) : State := io [(Key.guHalf 7, 1000), (Key.guStart 7, 1000), (Key.guCfg 7, cfg)]
  (fun c => { c with inhBdg := false, gu := [(7, g)] })
def comp : Pattern := .comp 300 400 500
theorem test_meets_gateStart : ((gates 0 {}).gu 7).run = false ∧ ((gates 0 {}).gu 7).armed = false ∧ 1000 ≤ (gates 0 {}).cio.now / 2 ^ 32 % 2 ^ 64 ∧
    0 < (gates 0 {}).rf (Key.guHalf 7) 23 0 ∧ ((gates 0 { armed := true, staged := [{ pat := comp, sent := 0, early := true }] }).gu 7).armed = true ∧
    ((gates 0 {}).reg (Key.guStart 7)).toNat ≤ (gates 0 {}).cio.now / 2 ^ 32 % 2 ^ 64 := by decide
def running (k : Nat) : GateUnit := { run := true, next := k, pat := some comp, staged := [{ pat := comp, sent := 1000, early := false }] }
theorem test_meets_gateEvents : ((gates 0 (running 2)).gu 7).run = true ∧ ((gates 0 (running 2)).gu 7).next % 2 = 0 ∧ ((gates 0 (running 3)).gu 7).next % 2 = 1 ∧
    ((gates 0 {}).reg (Key.guStart 7)).toNat * 2 ^ 32 + 3 * 1000 * 2 ^ 30 ≤ (gates 0 (running 3)).cio.now ∧
    (gates (2 ^ 61) (running 1)).rb (Key.guCfg 7) 61 = true ∧ 4 * (1000 + 40) ≤ (gates (2 ^ 61) (running 1)).posAbs 7 500 ∧
    (gates (2 ^ 61) (running 1)).posAbs 7 500 ≤ (gates (2 ^ 61) (running 1)).cio.now / 2 ^ 30 ∧ (gates 0 {}).cio.inhBdg = false ∧
    1000 * 4 + (1 - 1) / 2 * 2000 + 700 ≤ (gates 0 (running 1)).cio.now / 2 ^ 30 := by decide

theorem test_meets_inhibits : (io [(Key.inhCfg, 1)] id).cio.inhSw = false ∧ (io [(Key.inhCfg, 1)] id).cio.inhPin = false ∧
    (io [(Key.inhCfg, 1)] id).rb Key.inhCfg 0 = true ∧ (0x0020 : BitVec 16) &&& ~~~(io [] id).cio.utrip ≠ 0 ∧
    (io [(Key.inhCfg, 2 ^ 21)] id).rb Key.inhCfg (16 + 5) = true ∧ (io [] id).cio.utrip.getLsbD 5 = false ∧ secureWriter.secure = true ∧
    (io [] id).rb Key.inhCfg 63 = false := by decide

/-- Port 2 in service with one concentrator. -/
def port (f : RPort → RPort) : State := uncached.setPort 2 (f { link := true, st := 5, nconc := 1, service := true })
def rhdr (ty cls conc seq : Nat) : Nat := ty + cls * 2 ^ 8 + conc * 2 ^ 16 + seq * 2 ^ 64
theorem port_initialised (f : RPort → RPort) : (port f).Initialised := initialised rfl rfl
theorem test_meets_badFrame : bits (frame 15 []).hdr 7 0 = 15 ∧ (port id).Initialised := ⟨by decide, port_initialised id⟩
theorem test_meets_cycleStart : (port id).Initialised ∧ (port id).pair.role ≠ 2 ∧ (port id).pair.role ≠ 3 ∧ ((port id).port 2).st = 5 ∧ ((port id).port 2).service = true ∧
    (((port id).port 2).class 1).phase = .idle ∧ (((port (fun x => { x with cls := [(1, { phase := .input })] })).port 2).class 1).phase = .input :=
  ⟨port_initialised id, by decide, by decide, by decide, by decide, by decide, by decide⟩
def owing (ph : RPhase) : State := port (fun x => { x with cls := [(1, { phase := ph, seq := 9, waiting := [1], took := [1] })] })
theorem test_meets_answers : (owing .input).Initialised ∧ ((owing .input).port 2).link = true ∧ badHdr (frame (rhdr 2 1 1 9) []).hdr = false ∧
    bits (frame (rhdr 2 1 1 9) []).hdr 9 8 = 1 ∧ bits (frame (rhdr 2 1 1 9) []).hdr 23 16 = 1 ∧ bits (frame (rhdr 2 1 1 9) []).hdr 7 0 = 2 ∧
    (((owing .input).port 2).class 1).phase = .input ∧ 1 ∈ (((owing .input).port 2).class 1).waiting ∧
    bits (frame (rhdr 2 1 1 9) []).hdr 79 64 = (((owing .input).port 2).class 1).seq % 65536 :=
  ⟨port_initialised _, by decide, by decide, by decide, by decide, by decide, by decide, by decide, by decide⟩
theorem test_meets_acknowledgements : badHdr (frame (rhdr 4 1 1 9) []).hdr = false ∧ bits (frame (rhdr 4 1 1 9) []).hdr 7 0 = 4 ∧
    (((owing .output).port 2).class 1).phase = .output ∧ badHdr (frame (rhdr 13 1 1 9) [2]).hdr = false ∧
    (∀ j < 126, (((frame (rhdr 13 1 1 9) [2]).payload.headD 0).getLsbD j = decide (j = 1))) := by decide
theorem test_meets_deadlineMiss : (owing .output).Initialised ∧ (owing .output).pair.role ≠ 2 ∧ 1 ∈ (((owing .output).port 2).class 1).waiting ∧
    (((owing .between).port 2).class 1).phase = .between ∧ (withRegs [(Key.rlkOutofs 2, 1 + 2 ^ 16)] (owing .between)).rf (Key.rlkOutofs 2) 29 16 ≠ 0 :=
  ⟨port_initialised _, by decide, by decide, by decide, by decide⟩
theorem test_meets_linkUp : (withRegs [(Key.rlkCtl 2, 2 ^ 63)] (port (fun x => { x with link := false }))).rb (Key.rlkCtl 2) 63 = true ∧
    ((port (fun x => { x with link := false })).port 2).link = false ∧ (port id).rb Key.pairCtl 63 = false ∧ ((port id).port 2).link = true := by decide

def service (d : TWord) : RSrq := { f := frame (rhdr 5 0 1 3) [], stamp := 44, desc := d }
theorem test_meets_serviceRequest : badHdr (frame (rhdr 5 0 1 3) []).hdr = false ∧ bits (frame (rhdr 5 0 1 3) []).hdr 7 0 = 5 ∧ ((port id).port 2).link = true ∧
    ((port (fun x => { x with srqs := [service { data := 2 ^ 56, tag := Tag.int }] })).port 2).srqs = service { data := 2 ^ 56, tag := Tag.int } :: [] ∧
    (2 ^ 56 : Data).getLsbD 56 = true ∧ bits (2 ^ 56 : Data) 55 48 ≤ 16 := by decide
def discovering (st : Nat) : State := port (fun x => { x with st := st, disc := some 2, dirq := some 1 })
theorem test_meets_discovery : (discovering 2).Initialised ∧ (discovering 2).pair.role ≠ 2 ∧ badHdr (frame 8 []).hdr = false ∧ bits (frame 8 []).hdr 7 0 = 8 ∧
    ((discovering 2).port 2).disc = some 2 ∧ ((discovering 2).port 2).st = 2 ∧ 1 ≤ ((discovering 2).port 2).nconc ∧
    (((discovering 2).port 2).conc 1).enumed = false ∧ (((discovering 2).port 2).conc 1).rejected = false :=
  ⟨port_initialised _, by decide, by decide, by decide, by decide, by decide, by decide, by decide, by decide⟩
theorem test_meets_upload : badHdr (frame (rhdr 10 3 1 0) []).hdr = false ∧ bits (frame (rhdr 10 3 1 0) []).hdr 7 0 = 10 ∧ ((discovering 3).port 2).st = 3 ∧
    bits (frame (rhdr 12 3 1 0) []).hdr 7 0 = 12 ∧ ((discovering 4).port 2).dirq = some (bits (frame (rhdr 12 3 1 0) []).hdr 23 16) ∧
    ((discovering 5).port 2).disc.isSome = true ∧ ((discovering 5).port 2).link = true := by decide

/-- All of the scratch memory is converted and open to the normal world; words of it, each named by its number. -/
def scratchMem (ws : List (Nat × Nat × Tag)) (s : State) : State :=
  { s with scrReady := 128, mem := ws.foldl (fun m w => m.setWord (0x7F400000000 + w.1) { data := BitVec.ofNat 128 w.2.1, tag := w.2.2 }) s.mem }

/-- TSN port 1 with its link up and a FULL descriptor of 64 bytes for class 4. -/
def tsn (ctl : Nat) (tag : Tag) (rs : List (Nat × Nat)) : State :=
  (scratchMem [(0, 64 * 2 ^ 48 + 0x7F4000000040, tag)] (withRegs ([(Key.tsnCtl 1, 2 ^ 63 + ctl), (Key.tsnTxring 1 4, 0x7F4000000000), (Key.tsnRxring 1 0, 0x7F4000000000)] ++ rs)
    uncached)).setTsn 1 { link := true }
theorem test_meets_tsnTransmit : (tsn 0 Tag.full []).rb (Key.tsnCtl 1) 63 = true ∧ ((tsn 0 Tag.full []).tsnPort 1).link = true ∧ (tsn 0 Tag.full []).Initialised ∧
    (tsn 0 Tag.full []).dmaLate = [] ∧ (tsn 0 Tag.full []).dmaGet (.tsn 1) 0x7F4000000000 = some { data := 64 * 2 ^ 48 + 0x7F4000000040, tag := Tag.full } ∧
    ((tsn 0 Tag.full []).gatesOpen 1).getLsbD 4 = true ∧ (tsn 0 Tag.full []).txFull 1 4 = true ∧ (∀ d < 8, 4 < d → (tsn 0 Tag.full []).txFull 1 d = false) ∧
    (tsn 0 Tag.full []).rf (Key.tsnTxring 1 4) 47 5 * 32 = 0x7F4000000000 :=
  ⟨by decide, by decide, initialised rfl rfl, by decide, by decide, by decide, by decide, by decide, by decide⟩
def ether : EthFrame := { bytes := List.replicate 60 7, fcsGood := true, pcp := none, sectag := none }
theorem test_meets_tsnReceive : (tsn 0 Tag.empty []).Initialised ∧ ether.fcsGood = true ∧ ether.sectag = none ∧ (tsn 0 Tag.empty []).rb (Key.tsnCtl 1) 60 = false ∧
    (tsn 0 Tag.empty []).dmaGet (.tsn 1) 0x7F4000000000 = some { data := 64 * 2 ^ 48 + 0x7F4000000040, tag := Tag.empty } ∧
    (tsn 0 Tag.empty []).rf (Key.tsnRxring 1 0) 47 5 * 32 = 0x7F4000000000 ∧ (tsn (2 ^ 60) Tag.empty []).rb (Key.tsnCtl 1) 60 = true :=
  ⟨initialised rfl rfl, by decide, by decide, by decide, by decide, by decide, by decide⟩
theorem test_meets_gateList : ((uncached.setTsn 1 { gcl := some 0 }).tsnPort 1).gcl = some 0 ∧
    (withRegs [(Key.tsnGclctl 1, 2 ^ 63 + 2)] uncached).rb (Key.tsnGclctl 1) 63 = true ∧ 0 + 1 < (withRegs [(Key.tsnGclctl 1, 2 ^ 63 + 2)] uncached).rf (Key.tsnGclctl 1) 8 0 := by
  decide
/-- Port 1 in entry 0 of a list that closes class 4 after 1 us: a frame of 64 bytes fits at NOW 0, and not when 60 ns are left. -/
def gated (now : Nat) : State :=
  let s := tsn 0 Tag.full [(Key.tsnGclctl 1, 2 ^ 63 + 2), (Key.tsnGcl 1 0, 1000 * 2 ^ 32 + 0x10), (Key.tsnGcl 1 1, 1000 * 2 ^ 32 + 1)]
  { s.setTsn 1 { link := true, gcl := some 0 } with cio := { s.cio with now := now * 2 ^ 32 } }
theorem test_gate_fits : (gated 0).txReady 1 4 = true ∧ (gated 940).txReady 1 4 = false ∧ (gated 2900).txReady 1 4 = true := by decide
theorem test_meets_pcieCompletion : ((at1000 (fun th => { th with extReq := some (mmioRead 0x800000001000) })).thr 0).extReq = some (mmioRead 0x800000001000) ∧
    (at1000 id).region (mmioRead 0x800000001000).pa.toNat = .pcie ∧ ((at1000 id).thr 0).extReq = none := by decide
def ecam : State := { uncached with ecamWrites := [(3, 0x800000001000), (5, 0x800000002000)] }
theorem test_meets_ecamWrite : ecam.ecamWrites = [(3, 0x800000001000)] ++ (5, 0x800000002000) :: [] ∧ (ecam.thr 5).extReq = none ∧ ecam.rb Key.pcieErrlog 63 = false := by decide
def ecamStore (pa : Addr) : State := uncached.modCore 0 (fun x => { x with sb := [{ tid := 0, kind := .pcie, pa := pa, data := 0, mask := 0xFF, tag := Tag.bits, sec := false, lvl := 0, legal := true }] })
theorem test_meets_pcieStore : ((ecamStore 0x800000001000).core 0).sb.length = 1 ∧ (ecamStore 0x900000000000).rb Key.pcieStat 63 = false ∧
    ((ecamStore 0x900000000000).core 0).sb.map (·.kind) = [.pcie] := by decide
/-- Window 2 opens the first 16 KiB of the scratch memory. -/
def pcie : State := scratchMem [] (withRegs [(Key.pcieStat, 2 ^ 63), (Key.pcieInwin 2, 2 ^ 63 + 0x7F4000000000), (Key.pcieInlim 2, 0x7F4000004000)] uncached)
theorem test_meets_pcieInbound : pcie.rb Key.pcieStat 63 = true ∧ pcie.rb (Key.pcieInwin 2) 63 = true ∧ pcie.rf (Key.pcieInwin 2) 47 14 * 2 ^ 14 ≤ 0x7F4000000100 ∧
    0x7F4000000110 ≤ pcie.rf (Key.pcieInlim 2) 47 14 * 2 ^ 14 ∧ pcie.region 0x7F4000000100 = .scratch ∧ pcie.reaches false 0x7F4000000100 = true ∧
    pcie.rb (Key.pcieInwin 0) 63 = false ∧ pcie.rb (Key.pcieInwin 1) 63 = false := by decide
theorem test_meets_pcieInitialised : pcie.Initialised := initialised rfl rfl

/-- The engine is on; queue 3's slot holds a header of stream 5 with one word. -/
def hse (f : Hse → Hse) : State := (scratchMem [(0, 5 * 2 ^ 64 + 2 ^ 76, Tag.full)] (withRegs [(Key.hseCtl, 2 ^ 63), (Key.hseSq 3, 0x7F4000000000), (Key.hseRdq, 0x7F4000000000),
  (Key.hseTier 0, 0), (Key.hseZtlim, 64), (Key.hseCkctl, 2 ^ 63)] uncached)).setHse (f uncached.hse)
theorem hse_initialised (f : Hse → Hse) : (hse f).Initialised := initialised rfl rfl
set_option maxRecDepth 8000 in
theorem test_meets_hseSlot : (hse id).Initialised ∧ (hse id).rb Key.hseCtl 63 = true ∧ ((hse id).tier 0).stopped = false ∧ (∀ j < 4, ((hse id).tier j).slots = []) ∧
    ((hse id).dmaRead .hse 0x7F4000000000).1 = some { data := 5 * 2 ^ 64 + 2 ^ 76, tag := Tag.full } ∧ (hse id).rf (Key.hseSq 3) 47 9 * 512 = 0x7F4000000000 :=
  ⟨hse_initialised id, by decide, by decide, by decide, by decide, by decide⟩
def unit1 : HUnit := { ws := [1, 2], slots := [{ q := 3, idx := 0, seq := 7, valid := true }] }
def zone1 (st : Nat) : HZone := { drive := 2, zslba := 0x1000, cap := 64, tier := 0, st := st, zseq := 3, wp := 2, t0 := 0, t1 := 0 }
def appending : State := hse (fun h => { h with tiers := [(0, { zone := some 4, closed := [unit1], unsigned := false })], zones := [(4, zone1 1)] })
def awaiting (again : Bool) : State := hse (fun h => { h with tiers := [(0, { zone := some 4, out := some (unit1, again), unsigned := true })], zones := [(4, zone1 1)] })
theorem test_meets_hseAppend : appending.Initialised ∧ (appending.tier 0).closed = unit1 :: [] ∧ (appending.tier 0).out = none ∧ (appending.tier 0).zone = some 4 ∧
    tfind appending.hse.zones 4 = some (zone1 1) ∧ (zone1 1).wp + (unit1.ws.length + 255) / 256 ≤ (zone1 1).cap :=
  ⟨hse_initialised _, by decide, by decide, by decide, by decide, by decide⟩
def opening : State := hse (fun h => { h with tiers := [(0, { closed := [unit1] })], drives := [(2, { st := 2, empty := [(0x1000, 64)] })] })
theorem test_meets_hseOpen : (opening.tier 0).zone = none ∧ opening.rf (Key.hseTier 0) 31 0 = 0 ∧ (opening.drive 2).st = 2 ∧
    (opening.drive 2).empty = (0x1000, 64) :: [] ∧ (∀ m < 16, m ≠ 2 → (opening.drive m).st ≠ 2) ∧ opening.hse.zones = [] ∧ 0 < opening.rf Key.hseZtlim 31 0 := by decide
theorem test_meets_hseComplete : ((awaiting false).tier 0).out = some (unit1, false) ∧ ((awaiting true).tier 0).out = some (unit1, true) ∧
    tfind (awaiting false).hse.zones 4 = some (zone1 1) ∧ (appending.tier 0).zone ≠ none ∧ appending.rb Key.hseCkctl 63 = true ∧
    (appending.tier 0).unsigned = false ∧ ((awaiting true).tier 0).unsigned = true ∧ ((awaiting true).tier 0).unit.ws.length + 12 ≤ 4096 := by decide
def leaving : State := hse (fun h => { h with tiers := [(0, { zone := some 4, out := some (unit1, false) })], zones := [(4, zone1 1)], drives := [(2, { st := 3 })] })
theorem test_meets_hseRetiring : (leaving.tier 0).out = some (unit1, false) ∧ (leaving.tier 0).zone = some 4 ∧ tfind leaving.hse.zones 4 = some (zone1 1) ∧
    (leaving.drive 2).st = 3 ∧ (∀ j < 4, j ≠ 0 → (leaving.tier j).zone = none) := by decide
def reading : State := scratchMem [(1, 0x7F4000000100, Tag.bits)] (hse (fun h => { h with zones := [(0, zone1 2)] }))
set_option maxRecDepth 8000 in
theorem test_meets_hseRead : (reading.dmaReads .hse 0x7F4000000000 2).1 =
      some [{ data := 5 * 2 ^ 64 + 2 ^ 76, tag := Tag.full }, { data := 0x7F4000000100, tag := Tag.bits }] ∧
    tfind reading.hse.zones (bits (5 * 2 ^ 64 + 2 ^ 76 : Data) 31 0) = some (zone1 2) ∧ (zone1 2).st = 2 := by decide
theorem test_meets_drives : (opening.drive 2).st = 2 ∧ (∀ t < 4, (opening.tier t).zone = none) ∧ (opening.drive 5).st = 0 ∧
    ([{ zslba := 0, cap := 9, isOpen := false, header := [], blocks := 0, units := 0, chain := [] }] : List ZoneInfo).all (fun z => z.header == []) = true := by decide

def pair (role sync : Nat) : State := (fun s => { s with pair := { s.pair with role := role, sync := sync, epoch := 4, seen := 4, recvSeq := 6, lastRx := 0 } })
  (withRegs [(Key.pairCtl, 2 ^ 63)] uncached)
theorem test_meets_pairJoin : (pair 0 0).rb Key.pairCtl 63 = true ∧ (pair 0 0).pair.role = 0 ∧ badHdr (frame 14 [0]).hdr = false ∧ bits (frame 14 [0]).hdr 7 0 = 14 ∧
    bits (frame 14 [0]).hdr 113 112 = 0 ∧ bits (frame (14 + 2 * 2 ^ 112) [0]).hdr 113 112 = 2 ∧ ¬ (pair 0 0).keyw.serial < 0 ∧ (pair 0 0).pair.strap ≠ 1 := by decide
theorem test_meets_pairHeartbeat : (pair 1 0).pair.role = 1 ∧ (pair 2 1).pair.role = 2 ∧ (pair 1 0).pair.epoch < 5 ∧ ¬ (pair 2 1).pair.epoch < 4 ∧
    (pair 1 1).pair.sync = 1 ∧ (pair 1 2).pair.sync = 2 ∧ (pair 2 1).rb Key.pairCtl 62 = false := by decide
def silence : State := (fun s => { s with cio := { s.cio with now := 200000 * 2 ^ 32 } }) (pair 1 2)
theorem test_meets_pairSilence : silence.rb Key.pairCtl 63 = true ∧ silence.pair.suspect = false ∧ silence.pair.lastRx ≠ silence.nowNs ∧ silence.pair.role = 1 := by decide
theorem test_meets_pairStream : (pair 2 2).rb Key.pairCtl 63 = true ∧ (pair 2 2).pair.recvSeq < 7 ∧ (pair 2 2).pair.role = 2 ∧ (pair 2 2).pair.sync = 2 ∧
    (pair 2 2).Initialised := ⟨by decide, by decide, by decide, by decide, initialised rfl rfl⟩
theorem test_meets_pairRepair : (pair 1 2).pair.repairs.find? (fun e => e.1 == 0) = none ∧
    ({ pair 1 2 with pair := { (pair 1 2).pair with repairs := [(0x100, false)] } }).pair.repairs.find? (fun e => e.1 == 0x100) = some (0x100, false) := by decide

/-- Secure queue 5 is chosen; its descriptor asks for a SHA-256 of 64 bytes. -/
def crypto : State := (fun s => { s with cry := { s.cry with chosen := some 5 } })
  (scratchMem [(0, 8 + 64 * 2 ^ 24, Tag.full), (1, 0, Tag.bits), (2, 0, Tag.bits)] (withRegs [(Key.cryQs 1, 2 ^ 59 + 0x7F4000000000)] uncached))
theorem test_meets_cryptoTake : crypto.Initialised ∧ crypto.rb (Key.cryQs 1) 59 = true ∧ (crypto.cryQ 5).job = none ∧ crypto.cry.run = none ∧ crypto.cry.chosen = some 5 ∧
    crypto.rf (Key.cryQs 1) 47 6 * 64 = 0x7F4000000000 ∧
    crypto.dmaGet (.crypto 5) 0x7F4000000000 = some { data := 8 + 64 * 2 ^ 24, tag := Tag.full } ∧
    crypto.dmaGet (.crypto 5) (0x7F4000000000 + 16) = some { data := 0, tag := Tag.bits } ∧
    crypto.dmaGet (.crypto 5) (0x7F4000000000 + 32) = some { data := 0, tag := Tag.bits } :=
  ⟨initialised rfl rfl, by decide, by decide, by decide, by decide, by decide, by decide, by decide, by decide⟩
def job (op : Nat) : CryJob := { idx := 0, desc := 0x7F4000000000, w0 := BitVec.ofNat 128 (op + 64 * 2 ^ 24), w1 := 0, w2 := 0 }
def cryptoRun (op : Nat) : State := (fun s => { s with cry := { s.cry with chosen := none, run := some 5, qs := [(5, { job := some (job op) })] } }) crypto
theorem test_meets_cryptoUnit : (cryptoRun 8).Initialised ∧ (cryptoRun 8).cry.run = some 5 ∧ ((cryptoRun 8).cryQ 5).job = some (job 8) ∧ bits (job 8).w0 7 0 = 8 ∧
    (job 8).units = 0 ∧ (job 8).nonce = none ∧ ((cryptoRun 8).worldSpan true 0 64).isSome = false :=
  ⟨initialised rfl rfl, by decide, by decide, by decide, by decide, by decide, by decide⟩
theorem test_meets_cryptoChoose : ({ cryptoRun 8 with cry := { (cryptoRun 8).cry with qs := [] } }).cry.run = some 5 ∧
    ({ cryptoRun 8 with cry := { (cryptoRun 8).cry with qs := [] } }.cryQ 5).job = none ∧ secureWriter.lvl = 3 ∧ crypto.rb Key.cryKworld 9 = true := by decide

def powered (f : AlwaysOn → AlwaysOn) : State := { uncached with aon := f uncached.aon }
theorem test_meets_reset : (powered id).aon.aon = true ∧ (powered (fun a => { a with rstLow := true })).aon.rstLow = true ∧
    (powered (fun a => { a with pwrgood := false })).aon.pwrgood = false ∧ (powered (fun a => { a with aon := false })).aon.aon = false ∧
    ({ uncached with boot := { uncached.boot with resetDue := true } }).boot.resetDue = true := by decide
theorem test_meets_resetExit : (powered (fun a => { a with inReset := true })).aon.inReset = true ∧ (powered (fun a => { a with inReset := true })).aon.pwrgood = true ∧
    (powered (fun a => { a with inReset := true })).aon.rstLow = false ∧ (powered (fun a => { a with inReset := true })).aon.brown = false ∧
    (powered id).keyw.rows = [] ∧ (powered id).keyw.commits = [] ∧ (powered id).keyw.intent = none ∧ (powered id).keyw.ctrPart = [] ∧ (powered id).pending = [] := by decide
def bootPhase (ph : Nat) : State := booted (withRegs [(Key.sysBootstat, ph * 2 ^ 56)] uncached)
/-- A header of an image of 16 bytes with a classical signature block. -/
def imageHeader : Tab Byte := [(8, 16), (9, 0), (10, 0), (11, 0), (0x10, 0xE0), (0x11, 0x0A), (0x12, 0), (0x13, 0)]
def flashed : State := { bootPhase 1 with aon := { (bootPhase 1).aon with flash := imageHeader } }
theorem test_meets_image : 1 ≤ (bootPhase 1).rf Key.sysBootstat 59 56 ∧ (bootPhase 1).rf Key.sysBootstat 59 56 ≤ 4 ∧ flashed.aon.flashByte 8 = 16 ∧
    (flashed.aon.flashByte 0x10).toNat + 256 * (flashed.aon.flashByte 0x11).toNat = 2784 ∧ flashed.aon.flashByte 9 = 0 ∧ flashed.aon.flashByte 0x12 = 0 := by decide
theorem test_meets_boot : ({ bootPhase 1 with boot := { (bootPhase 1).boot with check := some 0 } }).boot.check = some 0 ∧ (bootPhase 0xC).rf Key.sysBootstat 59 56 = 0xC ∧
    (bootPhase 7).rf Key.sysBootstat 59 56 = 7 ∧ (bootPhase 0xB).rf Key.sysBootstat 59 56 = 0xB ∧ (bootPhase 0xB).aon.inReset = false ∧ (bootPhase 0xB).boot.check = none ∧
    ({ uncached with dram := { uncached.dram with up := true, cfg := uncached.dram.cfg, bootsz := 0 } }).dram.bootDone = true ∧ uncached.boot.shut = false ∧
    secureWriter.secure = true := by decide
theorem test_meets_secureWindow : secureWriter.secure = true ∧ secureWriter.lvl = 3 ∧ (∀ m < 8, m ≠ 4 → uncached.rb (Key.l3Secwin m) 63 = false) ∧
    (withRegs [(Key.l3Secwin 4, 2 ^ 62)] uncached).rb (Key.l3Secwin 4) 62 = true := by decide
def unlocked (f : Thread → Thread) : State := { (at1000 f).modCluster 0 (fun k => { k with up := true }) with boot := { (at1000 f).boot with unlocked := 3, lcEarly := 2, lcLate := 2 } }
theorem test_meets_debug : (unlocked id).debugOpen true = true ∧ ((unlocked id).thr 0).sec = true ∧ ((unlocked id).cluster 0).off = false ∧
    ((unlocked id).thr 0).st = .active ∧ ((unlocked id).core 0).fenced = false ∧ ((unlocked id).thr 0).slot = none ∧ ((unlocked id).thr 0).mmioW = none ∧
    ((unlocked (fun th => { th with st := .stopped })).thr 0).st = .stopped ∧ (uncached.debugOpen true = false) ∧
    (unlocked id).reaches true 0x7F0000000000 = true ∧ (unlocked id).chunkReady 0x7F0000000000 = true ∧ (unlocked id).sett.c4 = false := by decide

/-- Mailbox 2 asks for an opcode with its parameters. -/
def mailbox (m op : Nat) (ps : List W64) : State := booted (withRegs [(mbCtl m, 4)] { uncached with
  sett := { uncached.sett with mb := [(m, { words := BitVec.ofNat 64 (op + ps.length * 2 ^ 16) :: ps, waiting := true })] } })
theorem test_meets_mailboxSubmit : (booted uncached).aon.inReset = false ∧ (booted uncached).rb (mbCtl 2) 1 = false ∧ (booted uncached).rb (mbCtl 2) 2 = false := by decide
theorem test_meets_settTurn : (mailbox 2 0x01 []).SettTurn 2 ∧ (mailbox 2 0x01 []).aon.inReset = false ∧ (mailbox 0 0x31 []).SettTurn 0 ∧ (mailbox 8 0x52 []).SettTurn 8 :=
  by
  unfold State.SettTurn
  decide
theorem test_meets_settLong : ({ uncached with sett := { uncached.sett with mb := [(2, { long := some { opc := 0x32, tag := 1 } })] } }.mbx 2).long =
    some { opc := 0x32, tag := 1 } := by decide

def quietCore (p : CorePwr) : State := (State.reset.modCore 5 (fun c => { c with pwr := p, released := true })).modCluster 1 (fun k => { k with up := true })
theorem test_meets_coreIdle : ((quietCore .c0).core 5).sb = [] ∧ ((quietCore .c0).core 5).mshr = [] ∧ ((quietCore .c0).core 5).walks = [] ∧
    (∀ i < 16, ((quietCore .c0).thr (16 * 5 + i)).st ≠ .active ∧ ((quietCore .c0).thr (16 * 5 + i)).mmioW = none) ∧
    ((quietCore .c0).core 5).pwr = .c0 ∧ 2000 ≤ (quietCore .c0).coreTol 5 ∧ ((quietCore .c0).cluster 1).off = false := by decide
theorem test_meets_c3 : (withRegs [(Key.pwrCtol 1, 40000)] State.reset).rf (Key.pwrCtol 1) 31 0 = 40000 ∧ (State.reset.cluster 1).off = false ∧
    (∀ i < 4, (State.reset.core (4 + i)).sb = [] ∧ State.reset.bdg.test ≠ some (4 + i)) ∧ (∀ i < 64, (State.reset.thr (64 + i)).st = .stopped) ∧
    (State.reset.modCluster 1 (fun k => { k with off := true }) |>.cluster 1).off = true := by decide
def deep : State := (List.range 12).foldl (fun s k => s.modCluster k (fun c => { c with off := true }))
  { withRegs [(Key.pwrC4, 2 ^ 63), (Key.pwrPkgtol, 2000000)] State.reset with dram := { State.reset.dram with up := true } }
theorem test_meets_c4 : deep.sett.c4 = false ∧ (∀ k < 12, (deep.cluster k).off = true) ∧ deep.rb Key.pwrC4 63 = true ∧ 2000000 ≤ deep.rf Key.pwrPkgtol 31 0 ∧
    (∀ u < 16, deep.guBusy u = false) ∧ (∀ p < 8, deep.rb (Key.rlkCtl p) 63 = false ∧ deep.cryReady p = none) ∧ (∀ p < 6, deep.rb (Key.tsnCtl p) 63 = false) ∧
    deep.rb Key.pcieCtl 63 = false ∧ deep.rb Key.pairCtl 63 = false ∧ deep.rb Key.hseCtl 63 = false ∧ deep.l3 = [] := by decide
theorem test_meets_thermal : (∀ k < 12, ∀ i < 4, bits (State.reset.core (4 * k + i)).corectl 31 16 = 0) ∧ State.reset.sett.spread = false ∧
    (8 * (State.reset.rf Key.thmTlim 7 0 : Int) ≤ 1040) ∧ State.reset.rb Key.thmStat 13 = false := by decide

/-- The initial safe state of BADGER, with all that its release needs. -/
def releasable : State := { withRegs [(Key.bdgStat, 3 * 2 ^ 62 + 0x0F * 2 ^ 48)] uncached with
  bdg := { uncached.bdg with settAlive := true }, boot := { uncached.boot with tested := true }, dram := { uncached.dram with up := true, bootsz := 0 } }
theorem test_meets_safeState : uncached.rb Key.bdgStat 63 = true ∨ uncached.rb Key.bdgStat 63 = false := by decide
theorem test_meets_badgerRelease : bits (0x5AFE : W64) 15 0 = 0x5AFE ∧ releasable.rb Key.bdgStat 62 = true ∧ releasable.rf Key.bdgStat 55 48 = 0x0F ∧
    releasable.bdg.selfTest = true ∧ releasable.bdg.settAlive = true ∧ releasable.boot.tested = true ∧ releasable.dram.bootDone = true := by decide
theorem test_meets_supervision : ((quietCore .c0).core 5).fenced = false ∧ ((quietCore .c0).cluster 1).up = true ∧ 5 ∉ (quietCore .c0).bdg.lost ∧
    uncached.rb Key.bdgCoresafe 5 = false ∧ 3 ∈ ({ uncached with bdg := { uncached.bdg with cacheErr := [3] } }).bdg.cacheErr ∧
    (dramState true).dram.up = true ∧ (dramState true).dram.retired ≠ some 2 ∧ ({ uncached with sett := { uncached.sett with report := [4] } }).sett.report = [4] := by
  decide
/-- Channel 9 compares thread 40 with thread 0 and has port A's value. -/
def channel : State := { withRegs [(Key.bdgChcfg 9, 2 ^ 63), (Key.bdgChtid 9, 40 * 65536)] uncached with
  bdg := { uncached.bdg with rounds := [(9, { portB := false, value := 7, tidA := 40, tidB := 0 })] } }
theorem test_meets_channels : channel.rb (Key.bdgChcfg 9) 63 = true ∧ tfind channel.bdg.rounds 9 = some { portB := false, value := 7, tidA := 40, tidB := 0 } ∧
    channel.rb (Key.bdgChstat 9) 63 = false ∧ channel.rf (Key.bdgChtid 9) 25 16 = 40 ∧ tfind uncached.bdg.rounds 9 = none ∧ (∀ u < 16, channel.guBusy u = false) ∧
    bits (0x00280000 : W64) 25 16 / 16 ≠ bits (0x00280000 : W64) 9 0 / 16 := by decide
def rotation (b : Badger) : State := { withRegs [(Key.bdgCrtctl, 2 ^ 63)] (quietCore .c0) with bdg := b }
theorem test_meets_rotation : (rotation {}).rb Key.bdgCrtctl 63 = true ∧ (rotation {}).bdg.slot = [] ∧ (rotation { postponed := [5] }).bdg.postponed = 5 :: [] ∧
    (rotation { slot := [5] }).bdg.slot = 5 :: [] ∧ (rotation { test := some 5 }).bdg.test = some 5 ∧ bits ((rotation {}).core 5).corectl 31 16 = 0 ∧
    ((rotation {}).cluster 1).off = false ∧ ((rotation {}).cluster 1).up = true ∧ ((rotation {}).core 5).crtFailed = false ∧
    (∀ n < 32, (rotation {}).rb (Key.bdgChcfg n) 63 = false) ∧ (rotation {}).fenceReady 5 = true := by decide

/-! ### Further cases of the same statements -/

/-- Queue 0 was chosen and then disabled: queue 5 is picked. -/
def passed : State := { crypto with cry := { crypto.cry with chosen := some 0 } }
theorem test_meets_cryptoPassed : passed.rb (Key.cryQn 0) 59 = false ∧ passed.cry.run = none ∧ passed.cryPick = some 5 := by decide
theorem test_meets_resetCounts : (powered id).sett.mb = [] ∧ (powered (fun a => { a with rstLow := true, rstNs := 30 * 10 ^ 9 })).aon.pwrgood = true ∧
    983040 < (powered (fun a => { a with rstLow := true, rstNs := 30 * 10 ^ 9 + 10 ^ 5 })).aon.rstNs * 32768 / 10 ^ 9 := by decide
theorem test_meets_bootTick : (bootPhase 2).phase = 2 ∧ (bootPhase 6).phase = 6 ∧ (bootPhase 6).boot.shut = false ∧ (bootPhase 7).phase = 7 ∧ (bootPhase 9).phase ∉ [1, 2, 3, 6, 7] := by
  decide
/-- A rank of 8 Gb x8 devices on every channel. -/
def rank8 : DramCfg := { dens := 0, speed := 0, width8 := true, twoRanks := false }
theorem test_meets_training : (⟨some rank8, some rank8, some rank8, some rank8⟩ : DramPop) = { ch0 := some rank8, ch1 := some rank8, ch2 := some rank8, ch3 := some rank8 } ∧
    rank8.dens.toNat ≤ 2 ∧ rank8.speed.toNat ≤ 2 ∧ (if rank8.width8 = true then 8 else 16) * (rank8.dens.toNat + 2) ≤ 64 := by decide
def waiting : State := { bootPhase 0xB with boot := { (bootPhase 0xB).boot with rcvLink := true } }
theorem test_meets_recovery : waiting.rf Key.sysBootstat 59 56 = 0xB ∧ waiting.aon.inReset = false ∧ waiting.boot.rcvLink = true ∧ waiting.boot.check = none ∧
    waiting.recoveryWait = true := by decide
def scannable : State := { uncached with keyw := { uncached.keyw with dbg := 0x10 }, aon := { uncached.aon with rstLow := true } }
theorem test_meets_scan : (∀ x ∈ [scannable.keyw.lcFuses / 4, (scannable.keyw.lcFuses + 3) / 4], x ≠ 2 ∧ bits scannable.keyw.dbg (8 * x + 4) (8 * x + 4) = 1) ∧
    scannable.aon.rstLow = true := by decide
theorem test_meets_debugCluster : ((unlocked id).cluster 0).up = true ∧ (State.reset.cluster 0).up = false := by decide
/-- Core 5 is powered, with a deadline that began 2 ms ago. -/
def beating : State := { quietCore .c0 with bdg := { (quietCore .c0).bdg with beat := [(5, 0)] }, aon := { (quietCore .c0).aon with ns := 2000000, inReset := false } }
theorem test_meets_heartbeat : (beating.cluster 1).up = true ∧ (beating.cluster 1).off = false ∧ (beating.core 5).pwr ≠ .c2 ∧ (beating.core 5).fenced = false ∧
    5 ∉ beating.bdg.lost ∧ (∀ i < 16, (beating.thr (16 * 5 + i)).st ≠ .active) ∧ tfind beating.bdg.beat 5 = some 0 ∧ 0 + 2000000 ≤ beating.aon.ns ∧
    (beating.aon.inReset = false) := by decide
/-- Cluster 1 lowers for the spread that cluster 0 makes, and reads more than 2 degrees less. -/
def uneven : State := { beating with sett := { beating.sett with spread := true, spreadSet := [1], hot := [3] } }
theorem test_meets_spread : uneven.sett.spread = true ∧ (0 : Int) + 160 < 400 ∧ (0 : Int) + 16 < 400 ∧ 1 ∈ uneven.sett.spreadSet ∧
    (400 : Int) < 8 * (uneven.rf Key.thmTlim 7 0 : Int) ∧ 3 ∈ uneven.sett.hot ∧ 3 ∉ uneven.sett.crit := by decide
theorem test_meets_scrapRotation : (rotation {}).boot.lcEarly ≠ 4 ∧ (rotation {}).boot.lcLate ≠ 4 ∧ (rotation { woken := [5] }).bdg.woken = 5 :: [] := by decide
theorem test_meets_coreGone : (uncached.modCore 1 (fun c => { c with crtFailed := true })).coreGone (17 / 16) = true := by decide
def sramSlot : State := at1000 (fun th => { th with pc := 0x7F0000000000, fetch := [{ va := 0x7F0000000000, predicted := false, poison := 0 }], slot := some { next := none, annul := false, call := false } })
theorem test_meets_undecodableInSlot : sramSlot.canIssue 0 = true ∧ (sramSlot.thr 0).holdsCode 0x7F0000000000 4 = true ∧ (sramSlot.thr 0).slot.isSome = true ∧
    (sramSlot.peekLen (fetchCtx sramSlot 0) 0x7F0000000000).isSome = true := by decide
theorem test_meets_l2Queued : ((uncached.modCore 0 (fun c => { c with mshr := [{ icache := false, line := line0, sec := true, thr := [0], queued := true }] })).l2Queued 0 line0) = true := by
  decide
theorem test_meets_comparePast : tfind (io [(Key.cioTbCmpctl 5, 1)] (fun c => { c with past := [(5, 0)] })).cio.past 5 = some 0 ∧
    0 ≤ (io [(Key.cioTbCmpctl 5, 1)] id).cio.now := by decide
theorem test_meets_orphanReads : ((at1000 (fun th => { th with orphans := [0x800000001000] })).thr 0).orphans = 0x800000001000 :: [] ∧
    ((at1000 (fun th => { th with orphans := [0x800000001000] })).thr 0).extReq = none := by decide
theorem test_meets_msi : 0x7FFFFFFF0000 / 16 * 16 = 0x7FFFFFFF0000 ∧ bits (5 : Data) 31 0 ≤ 27 ∧ isMsi 0x7F4000000100 [(5, 0xFFFF)] = none := by decide
theorem test_meets_gateCycle : ((uncached.setTsn 1 { gcl := some 0, gclK := some 3 }).tsnPort 1).gclK = some 3 ∧
    (uncached.reg (Key.tsnGclbase 1)).toNat ≤ uncached.cio.now / 2 ^ 32 % 2 ^ 64 := by decide
theorem test_meets_driveAway : ({} : HDrive).st = 0 ∧ (leaving.drive 2).st ≠ 4 ∧ (leaving.drive 2).st ≠ 5 := by decide
theorem test_meets_pairAdopts : ({ pair 2 1 with pair := { (pair 2 1).pair with adopts := true } }).pair.adopts = true ∧ (pair 2 1).pair.adopts = false ∧
    ({ pair 2 1 with cio := { (pair 2 1).cio with inhBdg := false } }).cio.inhBdg = false ∧ (pair 1 2).pair.used + 2 ≤ 512 := by decide
theorem test_meets_managementPort : (booted uncached).aon.inReset = false ∧ (booted uncached).boot.mgmtSpi = false := by decide

end Sys2Proof.Tests
end

section
/-! PROOF. Bit fields: what one reads after a field was written, in words and in registers. -/

namespace Sys2Proof.Machine

/-! ## Fields of a word -/

theorem testBit_bits {n : Nat} (v : BitVec n) (hi lo i : Nat) :
    (bits v hi lo).testBit i = (decide (i < hi + 1 - lo) && v.getLsbD (lo + i)) := by
  simp [bits, Nat.testBit_mod_two_pow, Nat.testBit_shiftRight, BitVec.getLsbD]

theorem bits_lt {n : Nat} (v : BitVec n) (hi lo : Nat) : bits v hi lo < 2 ^ (hi + 1 - lo) :=
  Nat.mod_lt _ (Nat.two_pow_pos _)

/-- Words that agree in the bits of a field agree in the field. -/
theorem bits_congr {m n : Nat} {v : BitVec m} {w : BitVec n} {hi lo : Nat} (h : ∀ j, lo ≤ j → j ≤ hi → v.getLsbD j = w.getLsbD j) :
    bits v hi lo = bits w hi lo := by
  refine Nat.eq_of_testBit_eq fun i => ?_
  rw [testBit_bits, testBit_bits]
  by_cases hi' : i < hi + 1 - lo
  · rw [h _ (by omega) (by omega)]
  · simp [hi']

theorem getLsbD_setBits {n : Nat} (v : BitVec n) (hi lo x : Nat) {j : Nat} (hj : j < n) :
    (setBits v hi lo x).getLsbD j = if lo ≤ j ∧ j ≤ hi then x.testBit (j - lo) else v.getLsbD j := by
  have hin : lo ≤ j → (j - lo < hi + 1 - lo ↔ j ≤ hi) := by omega
  have hjn : j - lo < n := by omega
  simp only [setBits, BitVec.getLsbD_or, BitVec.getLsbD_and, BitVec.getLsbD_not, BitVec.getLsbD_shiftLeft, BitVec.getLsbD_ofNat, hj, hjn,
    Nat.testBit_two_pow_sub_one, Nat.testBit_mod_two_pow, decide_true, Bool.true_and]
  by_cases hl : lo ≤ j
  · by_cases hh : j ≤ hi <;> simp [hl, hh, hin hl, Nat.not_lt.2 hl]
  · simp [hl, Nat.lt_of_not_le hl]

theorem bits_setBits_self {n : Nat} (v : BitVec n) {hi lo : Nat} (x : Nat) (h : hi < n) :
    bits (setBits v hi lo x) hi lo = x % 2 ^ (hi + 1 - lo) := by
  refine Nat.eq_of_testBit_eq fun i => ?_
  rw [testBit_bits, Nat.testBit_mod_two_pow]
  by_cases hi' : i < hi + 1 - lo
  · rw [getLsbD_setBits _ _ _ _ (by omega), if_pos (by omega), Nat.add_sub_cancel_left]
  · simp [hi']

theorem bits_setBits_apart {n : Nat} (v : BitVec n) {hi lo : Nat} (x : Nat) {h l : Nat} (hn : h < n) (hd : h < lo ∨ hi < l) :
    bits (setBits v hi lo x) h l = bits v h l :=
  bits_congr fun j h1 h2 => by rw [getLsbD_setBits _ _ _ _ (by omega), if_neg (by omega)]

theorem bit_setBits_apart {n : Nat} (v : BitVec n) {hi lo : Nat} (x : Nat) {j : Nat} (hn : j < n) (hd : j < lo ∨ hi < j) :
    bit (setBits v hi lo x) j = bit v j := by
  rw [bit, getLsbD_setBits _ _ _ _ hn, if_neg (by omega), bit]

theorem bit_setBits_bit {n : Nat} (v : BitVec n) (x : Nat) {i j : Nat} (hn : j < n) :
    bit (setBits v i i x) j = if j = i then x.testBit 0 else bit v j := by
  rw [bit, getLsbD_setBits _ _ _ _ hn]
  obtain rfl | h := eq_or_ne j i
  · simp
  · rw [if_neg (by omega), if_neg h, bit]

theorem satAdd_le {bound a b : Nat} : satAdd bound a b ≤ bound := by
  unfold satAdd
  split
  · exact Nat.le_refl bound
  · omega

/-- A field that takes a saturating sum holds that sum. -/
theorem bits_setBits_satAdd {n : Nat} (v : BitVec n) {hi lo : Nat} (a b : Nat) (h : hi < n) :
    bits (setBits v hi lo (satAdd (2 ^ (hi + 1 - lo) - 1) a b)) hi lo = satAdd (2 ^ (hi + 1 - lo) - 1) a b := by
  have hpow := Nat.two_pow_pos (hi + 1 - lo)
  have hle : satAdd (2 ^ (hi + 1 - lo) - 1) a b ≤ 2 ^ (hi + 1 - lo) - 1 := satAdd_le
  rw [bits_setBits_self _ _ h, Nat.mod_eq_of_lt (by omega)]

/-- The bits set among the lowest of a word, counted in the word itself. -/
theorem popCount_bits {n : Nat} (m hi : Nat) (hm : m = hi + 1) (v : BitVec n) :
    popCount (BitVec.ofNat m (bits v hi 0)) = ((List.range m).filter (fun i => v.getLsbD i)).length := by
  subst hm
  refine congrArg List.length (List.filter_congr fun i hi' => ?_)
  have hlt : i < hi + 1 := List.mem_range.1 hi'
  rw [bit, BitVec.getLsbD_ofNat, testBit_bits]
  simp [hlt]

/-! ## Fields of a register -/

@[simp] theorem State.setReg_setReg (s : State) (k : Nat) (v w : W64) : (s.setReg k v).setReg k w = s.setReg k w := by
  simp [State.setReg, tset_tset]

@[simp] theorem State.reg_setRf_self (s : State) (k hi lo x : Nat) : (s.setRf k hi lo x).reg k = setBits (s.reg k) hi lo x :=
  State.reg_setReg_self s k _

theorem State.reg_setRf_ne (s : State) {j k : Nat} (hi lo x : Nat) (h : j ≠ k) : (s.setRf k hi lo x).reg j = s.reg j :=
  State.reg_setReg_ne s _ h

/-- A counter's field after it has counted (07 R260). -/
theorem State.rf_count_self (s : State) (k : Nat) {hi lo : Nat} (n : Nat) (h : hi < 64) :
    (s.count k hi lo n).rf k hi lo = satAdd (2 ^ (hi + 1 - lo) - 1) (s.rf k hi lo) n := by
  rw [State.count, State.rf, State.reg_setRf_self, State.rf, bits_setBits_satAdd _ _ _ h]

theorem State.reg_congr {s u : State} (h : u.regs = s.regs) (k : Nat) : u.reg k = s.reg k := by
  simp only [State.reg, h]

end Sys2Proof.Machine
end

section
/-! PROOF. What the operations of the caches can change, the evictions of L3 ways, and the scratch units (09 R318, R324, R325). -/

namespace Sys2Proof.Machine

/-! ## Sparse tables -/

theorem tfind_filter_none {α : Type} {p : Nat × α → Bool} {k : Nat} (h : ∀ v, p (k, v) = false) :
    (t : Tab α) → tfind (t.filter p) k = none
  | [] => rfl
  | (a, v) :: r => by
    have ih := tfind_filter_none h r
    by_cases hp : p (a, v) = true
    · have hk : k ≠ a := by rintro rfl; simp [h v] at hp
      simp [hp, tfind, hk, ih]
    · simp [hp, ih]

theorem tdel_of_tfind_none {α : Type} {k : Nat} : (t : Tab α) → tfind t k = none → tdel t k = t
  | [], _ => rfl
  | (a, v) :: r, h => by
    by_cases hk : k = a
    · simp [tfind, hk] at h
    · have ih := tdel_of_tfind_none r (by simpa [tfind, hk] using h)
      simp only [tdel] at ih
      simp [tdel, Ne.symm hk, ih]

theorem mem_tdel {α : Type} {t : Tab α} {k : Nat} {e : Nat × α} : e ∈ tdel t k ↔ e ∈ t ∧ e.1 ≠ k := by
  simp [tdel]

/-! ## What the caches' operations change -/

/-- Nothing differs but the caches, the directory and memory. -/
def State.CachesOnly (s u : State) : Prop :=
  ∃ cl co d l m, u = { s with clusters := cl, cores := co, dir := d, l3 := l, mem := m }

theorem State.CachesOnly.refl (s : State) : s.CachesOnly s := ⟨_, _, _, _, _, rfl⟩

theorem State.CachesOnly.trans {s u w : State} (h : s.CachesOnly u) (h' : u.CachesOnly w) : s.CachesOnly w := by
  obtain ⟨_, _, _, _, _, rfl⟩ := h
  obtain ⟨_, _, _, _, _, rfl⟩ := h'
  exact ⟨_, _, _, _, _, rfl⟩

theorem State.CachesOnly.setL3 {s u : State} (h : s.CachesOnly u) (l : Tab L3Line) : s.CachesOnly { u with l3 := l } :=
  h.trans ⟨_, _, _, _, _, rfl⟩

theorem State.CachesOnly.setMem {s u : State} (h : s.CachesOnly u) (m : Memory) : s.CachesOnly { u with mem := m } :=
  h.trans ⟨_, _, _, _, _, rfl⟩

theorem State.CachesOnly.regs {s u : State} (h : s.CachesOnly u) : u.regs = s.regs := by
  obtain ⟨_, _, _, _, _, rfl⟩ := h
  rfl

theorem State.CachesOnly.dram {s u : State} (h : s.CachesOnly u) : u.dram = s.dram := by
  obtain ⟨_, _, _, _, _, rfl⟩ := h
  rfl

theorem State.CachesOnly.foldl {α : Type} {f : State → α → State} (h : ∀ (s : State) (a : α), s.CachesOnly (f s a)) (l : List α)
    (s : State) : s.CachesOnly (l.foldl f s) := by
  induction l generalizing s with
  | nil => exact .refl s
  | cons a l ih => exact (h s a).trans (ih _)

theorem State.foldl_modCore_eq (c : Nat → Nat) (f : Core → Core) (l : List Nat) (s : State) :
    ∃ co, l.foldl (fun s i => s.modCore (c i) f) s = { s with cores := co } := by
  induction l generalizing s with
  | nil => exact ⟨_, rfl⟩
  | cons i l ih =>
    obtain ⟨co, h⟩ := ih (s.modCore (c i) f)
    exact ⟨co, h⟩

theorem State.modClusterCores_eq (s : State) (k : Nat) (f : Core → Core) : ∃ co, s.modClusterCores k f = { s with cores := co } :=
  State.foldl_modCore_eq _ f _ s

theorem State.dirRemove_eq (s : State) (line k : Nat) : s.dirRemove line k = { s with dir := (s.dirRemove line k).dir } := by
  unfold State.dirRemove
  split
  · rfl
  · dsimp only
    split <;> rfl

/-- A copy that leaves an L2 changes that cluster's slot, its cores' L1 caches and the directory (09 R306, R323). -/
theorem State.l2Drop_eq (s : State) (k slot : Nat) (l : L2Line) :
    ∃ co d, s.l2Drop k slot l = { (s.modCluster k (fun c =>
      { c with l2 := if l.pin then tput c.l2 slot { l with st := .held, ws := [] } else tdel c.l2 slot })) with cores := co, dir := d } := by
  unfold State.l2Drop
  dsimp only
  rw [State.dirRemove_eq]
  obtain ⟨co, h⟩ := (s.modCluster k (fun c =>
    { c with l2 := if l.pin then tput c.l2 slot { l with st := .held, ws := [] } else tdel c.l2 slot })).modClusterCores_eq k
      (fun c => c.dropL1 l.line)
  rw [h]
  exact ⟨_, _, rfl⟩

theorem State.cachesOnly_l2Drop (s : State) (k slot : Nat) (l : L2Line) : s.CachesOnly (s.l2Drop k slot l) := by
  obtain ⟨co, d, h⟩ := s.l2Drop_eq k slot l
  exact ⟨_, _, _, _, _, h⟩

/-! ## Evictions of the L3 (09 R308, R318) -/

theorem State.l3Evict_l3 (s : State) (key : Nat) : (s.l3Evict key).l3 = tdel s.l3 key := by
  unfold State.l3Evict
  split
  · rfl
  · rename_i h
    exact (tdel_of_tfind_none _ h).symm

theorem State.cachesOnly_l3Evict (s : State) (key : Nat) : s.CachesOnly (s.l3Evict key) := by
  unfold State.l3Evict
  split
  · exact ⟨_, _, _, _, _, rfl⟩
  · exact .refl s

theorem State.cachesOnly_l3EvictWays (s : State) (slice : Nat) (p : Nat → Bool) : s.CachesOnly (s.l3EvictWays slice p) := by
  unfold State.l3EvictWays
  refine .foldl (fun u e => ?_) _ s
  exact u.cachesOnly_l3Evict e.1

theorem State.mem_foldl_l3Evict (l : List (Nat × L3Line)) (s : State) (e : Nat × L3Line) :
    e ∈ (l.foldl (fun s f => s.l3Evict f.1) s).l3 ↔ e ∈ s.l3 ∧ ∀ f ∈ l, e.1 ≠ f.1 := by
  induction l generalizing s with
  | nil => simp
  | cons f l ih => rw [List.foldl_cons, ih, State.l3Evict_l3, mem_tdel, List.forall_mem_cons, and_assoc]

/-- After its eviction a way of a slice holds no line. -/
theorem State.not_mem_l3EvictWays {s : State} {slice : Nat} {p : Nat → Bool} {e : Nat × L3Line} (h : e ∈ (s.l3EvictWays slice p).l3)
    (hs : e.1 / 65536 = slice) : p (e.1 % 16) = false := by
  obtain ⟨hmem, hout⟩ := (State.mem_foldl_l3Evict _ _ _).1 h
  by_contra hp
  exact hout e (List.mem_filter.2 ⟨hmem, by simpa [hs] using hp⟩) rfl

/-- Ways that hold no line are evicted without effect. -/
theorem State.l3EvictWays_of_empty {s : State} {slice : Nat} {p : Nat → Bool}
    (h : ∀ e ∈ s.l3, e.1 / 65536 = slice → p (e.1 % 16) = false) : s.l3EvictWays slice p = s := by
  have hnil : s.l3.filter (fun e => e.1 / 65536 == slice && p (e.1 % 16)) = [] := by
    rw [List.filter_eq_nil_iff]
    intro e he
    simpa using h e he
  rw [State.l3EvictWays, hnil, List.foldl_nil]

/-! ## Scratch units (09 R324, R325) -/

theorem State.cachesOnly_emptyScratchWays (s : State) : s.CachesOnly s.emptyScratchWays := by
  unfold State.emptyScratchWays
  exact .foldl (fun u h => u.cachesOnly_l3EvictWays h (u.scratchWay h)) _ s

theorem State.cachesOnly_dropRange (s : State) (lo hi : Nat) : s.CachesOnly (s.dropRange lo hi) := by
  unfold State.dropRange
  refine .setL3 (.foldl (fun u k => .foldl (fun v e => ?_) _ u) _ s) _
  exact v.cachesOnly_l2Drop k e.1 e.2

theorem State.cachesOnly_clearUnits (s : State) (a b : Nat) : s.CachesOnly (s.clearUnits a b) := by
  unfold State.clearUnits
  split
  · exact (s.cachesOnly_dropRange _ _).setMem _
  · exact .refl s

theorem Memory.byte_clearRange (m : Memory) {lo hi a : Nat} (h : lo ≤ a) (h' : a < hi) : (m.clearRange lo hi).byte a = 0#8 := by
  rw [Memory.byte, tget, Memory.clearRange, tfind_filter_none (fun v => by simp; omega)]
  rfl

theorem Memory.bytes_of_zero {m : Memory} {a n : Nat} (h : ∀ b, a ≤ b → b < a + n → m.byte b = 0#8) : m.bytes a n = 0 := by
  induction n generalizing a with
  | zero => rfl
  | succ n ih =>
    rw [Memory.bytes, h a (by omega) (by omega), ih (fun b h1 h2 => h b (by omega) (by omega))]
    rfl

/-- A word of a cleared range is data 0 with tag UNINIT. -/
theorem Memory.word_clearRange (m : Memory) {lo hi w : Nat} (h : lo ≤ 16 * w) (h' : 16 * w + 16 ≤ hi) :
    (m.clearRange lo hi).word w = { data := 0, tag := Tag.uninit } := by
  have htag : (m.clearRange lo hi).tag w = Tag.uninit := by
    rw [Memory.tag, tget, Memory.clearRange, tfind_filter_none (fun v => by simp; omega)]
    rfl
  rw [Memory.word, htag, Memory.bytes_of_zero fun b h1 h2 => Memory.byte_clearRange m (by omega) (by omega)]
  rfl

/-- The first word of a unit that is cleared. -/
theorem State.word_clearUnits (s : State) {a b n : Nat} (h : a ≤ n) (h' : n < b) :
    (s.clearUnits a b).mem.word (unitBase n / 16) = { data := 0, tag := Tag.uninit } := by
  rw [State.clearUnits, if_pos (by omega)]
  exact Memory.word_clearRange _ (by unfold unitBase; omega) (by unfold unitBase; omega)

/-- A converted unit is reachable while its slice is enabled (09 R325, R326). -/
theorem State.region_unitBase {s : State} {n : Nat} (hn : n < 128) (hr : n < s.scrReady) (hd : s.rb (Key.l3Ctl (n % 12)) 0 = false)
    (ht : s.dram.top ≤ 2 ^ 46) : s.region (unitBase n) = .scratch := by
  have hu : scratchOff (unitBase n) / 0x40000 = n := by unfold scratchOff unitBase; omega
  unfold State.region
  rw [if_neg (by unfold unitBase; omega), if_neg (by unfold unitBase; omega), if_pos (by unfold unitBase; omega)]
  simp [hu, hr, hd]

theorem Key.l3Ctl_ne_l3Scrcfg (h : Nat) : Key.l3Ctl h ≠ Key.l3Scrcfg := by
  unfold Key.l3Ctl Key.l3Scrcfg
  omega

/-- The end of a conversion: the new ways have been emptied, the new units cleared, and BUSY is gone (09 R325). -/
theorem State.scrDone_of_busy {s : State} (h : s.rb Key.l3Scrcfg 63 = true) :
    ∃ u, s.CachesOnly u ∧
      (∀ n, s.scrReady ≤ n → n < s.rf Key.l3Scrcfg 7 0 → u.mem.word (unitBase n / 16) = { data := 0, tag := Tag.uninit }) ∧
      s.scrDone = { u.setRf Key.l3Scrcfg 63 63 0 with scrReady := s.rf Key.l3Scrcfg 7 0 } := by
  refine ⟨s.emptyScratchWays.clearUnits s.scrReady (s.rf Key.l3Scrcfg 7 0), ?_, fun n h1 h2 => State.word_clearUnits _ h1 h2, ?_⟩
  · exact s.cachesOnly_emptyScratchWays.trans (State.cachesOnly_clearUnits _ _ _)
  · rw [State.scrDone, if_pos h]

/-- What the end of a conversion leaves: UNITS and SECUNITS as they were, no BUSY, and every new unit reachable and cleared. -/
theorem State.scrDone_effect {s : State} (h : s.rb Key.l3Scrcfg 63 = true) :
    s.scrDone.rb Key.l3Scrcfg 63 = false ∧ s.scrDone.rf Key.l3Scrcfg 15 0 = s.rf Key.l3Scrcfg 15 0 ∧
      s.scrDone.scrReady = s.rf Key.l3Scrcfg 7 0 ∧
      ∀ n, s.scrReady ≤ n → n < s.rf Key.l3Scrcfg 7 0 → n < 128 → s.rb (Key.l3Ctl (n % 12)) 0 = false → s.dram.top ≤ 2 ^ 46 →
        s.scrDone.region (unitBase n) = .scratch ∧
        s.scrDone.mem.word (unitBase n / 16) = { data := 0, tag := Tag.uninit } := by
  obtain ⟨u, hframe, hword, hdone⟩ := State.scrDone_of_busy h
  have hreg : s.scrDone.reg Key.l3Scrcfg = setBits (s.reg Key.l3Scrcfg) 63 63 0 := by
    rw [hdone, ← State.reg_congr hframe.regs]
    exact u.reg_setRf_self _ _ _ _
  have hctl : ∀ i, s.scrDone.reg (Key.l3Ctl i) = s.reg (Key.l3Ctl i) := fun i => by
    rw [hdone, ← State.reg_congr hframe.regs]
    exact u.reg_setRf_ne _ _ _ (Key.l3Ctl_ne_l3Scrcfg i)
  have hready : s.scrDone.scrReady = s.rf Key.l3Scrcfg 7 0 := by rw [hdone]
  have hdram : s.scrDone.dram = s.dram := by
    rw [hdone]
    exact hframe.dram
  refine ⟨?_, ?_, hready, fun n h1 h2 h3 hdis htop => ⟨State.region_unitBase h3 (hready.symm ▸ h2) ?_ (hdram.symm ▸ htop), ?_⟩⟩
  · rw [State.rb, hreg, bit_setBits_bit _ _ (by decide)]
    rfl
  · rw [State.rf, hreg, bits_setBits_apart _ _ (by decide) (by decide), State.rf]
  · rw [State.rb, hctl]
    exact hdis
  · rw [hdone]
    exact hword n h1 h2

end Sys2Proof.Machine
end

section
/-! PROOF. The words that control the caches as a write leaves them: partitions, disable bits, the scratch configuration and retired
ways (09 R318, R325, R326, R333; 18 R607). -/

namespace Sys2Proof.Machine

/-! ## Disable bits (09 R326, R327) -/

/-- DIS is set with STALE, and cleared only where STALE is 0. -/
theorem bit_disWrite (old : W64) {dis stale j : Nat} (v : Bool) (hd : dis < 64) (hs : stale < 64) (hne : dis ≠ stale) (hj : j < 64) :
    bit (disWrite old dis stale v) j =
      if j = dis then v || (bit old dis && bit old stale) else if j = stale then v || bit old stale else bit old j := by
  unfold disWrite
  obtain rfl | h1 := eq_or_ne j dis
  · cases v <;> cases bit old stale <;> simp [bit_setBits_bit, hj, hne]
  · obtain rfl | h2 := eq_or_ne j stale
    · cases v <;> cases hold : bit old j <;> simp [bit_setBits_bit, hold, hj, h1]
    · cases v <;> cases bit old stale <;> simp [bit_setBits_bit, hj, h1, h2]

/-- L3_CTL after a write (09 R333). -/
theorem State.reg_l3CtlWrite (s : State) (h : Nat) (v : W64) :
    (s.l3CtlWrite h v).reg (Key.l3Ctl h) = setBits (disWrite (s.reg (Key.l3Ctl h)) 0 1 (bit v 0)) 5 4
      (if bits v 5 4 = 3 then s.rf (Key.l3Ctl h) 5 4 else bits v 5 4) :=
  State.reg_setReg_self _ _ _

/-- DIS, STALE and the clean-line policy of a slice after a write; a reserved policy keeps the old one (00 R5). -/
theorem State.l3CtlWrite_effect (s : State) (h : Nat) (v : W64) :
    let u := s.l3CtlWrite h v
    let k := Key.l3Ctl h
    u.rb k 0 = (v.getLsbD 0 || (s.rb k 0 && s.rb k 1)) ∧ u.rb k 1 = (v.getLsbD 0 || s.rb k 1) ∧
      u.rf k 5 4 = (if bits v 5 4 = 3 then s.rf k 5 4 else bits v 5 4) ∧ u.l3 = s.l3 ∧ u.mem = s.mem := by
  have hbit : ∀ j < 2, bit ((s.l3CtlWrite h v).reg (Key.l3Ctl h)) j = bit (disWrite (s.reg (Key.l3Ctl h)) 0 1 (bit v 0)) j :=
    fun j hj => by rw [State.reg_l3CtlWrite, bit_setBits_apart _ _ (by omega) (by omega)]
  have hpol : (if bits v 5 4 = 3 then s.rf (Key.l3Ctl h) 5 4 else bits v 5 4) < 2 ^ 2 := by
    split
    · exact bits_lt _ 5 4
    · exact bits_lt v 5 4
  refine ⟨(hbit 0 (by decide)).trans ?_, (hbit 1 (by decide)).trans ?_, ?_, rfl, rfl⟩
  · exact bit_disWrite _ _ (by decide) (by decide) (by decide) (by decide)
  · exact bit_disWrite _ _ (by decide) (by decide) (by decide) (by decide)
  · rw [State.rf, State.reg_l3CtlWrite, bits_setBits_self _ _ (by decide), Nat.mod_eq_of_lt hpol]

theorem exec_cacheDisable_l3 {s : State} {w : Writer} {h : Nat} (v : W64) (hh : h < 12) (hw : w.secure = true) :
    exec (.cacheDisable (.mmio w h v)) s = .next (s.l3CtlWrite h v) := by
  show execCacheDisable (.mmio w h v) s = _
  simp [execCacheDisable, hw, Nat.not_le.2 hh]

/-! ## Partitions of the L3 (09 R318) -/

theorem exec_partitionWrite_l3 {s : State} {w : Writer} {h : Nat} (v : W64) (hh : h < 12) (hw : w.secure = true) :
    exec (.partitionWrite (.mmio w h v)) s = .next (s.l3PartWrite h v) := by
  show execPartitionWrite (.mmio w h v) s = _
  simp [execPartitionWrite, hw, Nat.not_le.2 hh]

theorem State.l3PartWrite_beyond {s : State} {h : Nat} {v : W64}
    (hc : fuseLimit s.keyw.l3sec 8 < ((List.range 16).filter (fun i => v.getLsbD i)).length) : s.l3PartWrite h v = s := by
  unfold State.l3PartWrite
  rw [popCount_bits 16 15 rfl]
  exact if_pos hc

theorem getLsbD_low16 {i : Nat} (hi : i < 16) : (0xFFFF : W64).getLsbD i = true := by
  interval_cases i <;> rfl

theorem getLsbD_low8 {i : Nat} (hi : i < 8) : (0xFF : W64).getLsbD i = true := by
  interval_cases i <;> rfl

/-- A way moves where the written map differs from the old one. -/
theorem bit_moved {old v m : W64} {i : Nat} (hm : m.getLsbD i = true) : bit (old ^^^ (v &&& m)) i = (old.getLsbD i ^^ v.getLsbD i) := by
  rw [bit, BitVec.getLsbD_xor, BitVec.getLsbD_and, hm, Bool.and_true]

theorem State.l3PartWrite_within {s : State} {h : Nat} {v : W64}
    (hc : ((List.range 16).filter (fun i => v.getLsbD i)).length ≤ fuseLimit s.keyw.l3sec 8)
    (he : ∀ e ∈ s.l3, e.1 / 65536 = h → v.getLsbD (e.1 % 16) = (s.reg (Key.l3Part h)).getLsbD (e.1 % 16)) :
    s.l3PartWrite h v = s.setReg (Key.l3Part h) (v &&& 0xFFFF) := by
  have hstay : s.l3EvictWays h (fun w => bit (s.reg (Key.l3Part h) ^^^ (v &&& 0xFFFF)) w) = s :=
    State.l3EvictWays_of_empty fun e hmem hs => by
      rw [bit_moved (getLsbD_low16 (Nat.mod_lt _ (by decide))), he e hmem hs, Bool.xor_self]
  unfold State.l3PartWrite
  rw [popCount_bits 16 15 rfl]
  dsimp only
  rw [if_neg (Nat.not_lt.2 hc), hstay]

/-! ## The scratch configuration (09 R325) -/

theorem exec_scratchConfig {s : State} {w : Writer} (v : W64) (hw : w.secure = true) :
    exec (.scratchConfig w v) s = .next (s.scrWrite v) := by
  show execScratchConfig w v s = _
  simp [execScratchConfig, hw]

theorem exec_scratchConversionDone (s : State) : exec .scratchConversionDone s = .next s.scrDone := rfl

theorem State.scrWrite_of_busy {s : State} (v : W64) (h : s.rb Key.l3Scrcfg 63 = true) : s.scrWrite v = s := by
  simp [State.scrWrite, h]

theorem State.retiredWay_of_none {s : State} {h : Nat} (h0 : s.rf (Key.l3Wayret h) 15 0 = 0) {way : Nat} (hw : way < 16) :
    s.retiredWay h way = false := by
  have := testBit_bits (s.reg (Key.l3Wayret h)) 15 0 way
  rw [← State.rf, h0] at this
  simpa [State.retiredWay, State.rb, bit, hw] using this.symm

/-- A count of units that does not fall, with no way retired: the word is taken, with BUSY where the count changes. -/
theorem State.scrWrite_of_growing {s : State} {v : W64} {u sec : Nat}
    (hu : u = if 128 < bits v 7 0 then s.rf Key.l3Scrcfg 7 0 else bits v 7 0)
    (hs : sec = if u < bits v 15 8 then s.rf Key.l3Scrcfg 15 8 else bits v 15 8)
    (h : s.rb Key.l3Scrcfg 63 = false) (hg : s.rf Key.l3Scrcfg 7 0 ≤ u) (hr : ∀ j < 12, s.rf (Key.l3Wayret j) 15 0 = 0) :
    s.scrWrite v = s.setReg Key.l3Scrcfg
      (BitVec.ofNat 64 ((if u = s.rf Key.l3Scrcfg 7 0 then 0 else 2 ^ 63) + sec * 256 + u)) := by
  have hnone : (List.range u).any (fun i => decide (s.rf Key.l3Scrcfg 7 0 ≤ i) && s.retiredWay (i % 12) (15 - i / 12)) = false := by
    simp only [List.any_eq_false, Bool.and_eq_true, not_and, Bool.not_eq_true]
    exact fun i _ _ => State.retiredWay_of_none (hr _ (Nat.mod_lt _ (by decide))) (by omega)
  have hbusy : b2n (u != s.rf Key.l3Scrcfg 7 0) * 2 ^ 63 = if u = s.rf Key.l3Scrcfg 7 0 then 0 else 2 ^ 63 := by
    by_cases he : u = s.rf Key.l3Scrcfg 7 0 <;> simp [b2n, he]
  unfold State.scrWrite
  dsimp only
  rw [← hu, ← hs, h, hnone, hbusy, if_neg (Nat.not_lt.2 hg)]
  rfl

/-! ## Retired ways (18 R607) -/

theorem exec_wayRetire {s : State} {w : Writer} {h : Nat} (v : W64) (hh : h < 12) (hw : w.secure = true) :
    exec (.wayRetire w h v) s = .next (s.wayRetire h v) := by
  show execWayRetire w h v s = _
  simp [execWayRetire, hw, Nat.not_le.2 hh]

/-- The end of a retirement: the retired ways of the slice are empty, and BUSY is gone. -/
theorem exec_wayRetireDone_of_busy {s : State} {h : Nat} (hh : h < 12) (hb : s.rb (Key.l3Wayret h) 63 = true) :
    ∃ u, exec (.wayRetireDone h) s = .next u ∧ u.rb (Key.l3Wayret h) 63 = false ∧
      u.rf (Key.l3Wayret h) 15 0 = s.rf (Key.l3Wayret h) 15 0 ∧
      ∀ e ∈ u.l3, e.1 / 65536 = h → s.rb (Key.l3Wayret h) (e.1 % 16) = false := by
  have hexec : exec (.wayRetireDone h) s = .next ((s.l3EvictWays h (s.retiredWay h)).setRf (Key.l3Wayret h) 63 63 0) := by
    show execWayRetireDone h s = _
    rw [execWayRetireDone, if_neg (Nat.not_le.2 hh), if_pos hb]
  refine ⟨_, hexec, ?_, ?_, fun e he hs => State.not_mem_l3EvictWays he hs⟩
  · rw [State.rb, State.reg_setRf_self, bit_setBits_bit _ _ (by decide)]
    rfl
  · rw [State.rf, State.reg_setRf_self, bits_setBits_apart _ _ (by decide) (by decide),
      State.reg_congr (s.cachesOnly_l3EvictWays h _).regs, State.rf]

theorem any_scratchWay_iff (s : State) (h : Nat) (v : W64) :
    (List.range 16).any (fun w => bit v w && s.scratchWay h w) = true ↔ ∃ j < 16, v.getLsbD j = true ∧ s.scratchWay h j = true := by
  simp [bit]

/-- More than four retired ways, or a scratch way among them: the write is refused. -/
theorem State.wayRetire_refused {s : State} {h : Nat} {v : W64}
    (hc : 4 < ((List.range 16).filter (fun j => (s.reg (Key.l3Wayret h) ||| (v &&& 0xFFFF)).getLsbD j)).length ∨
      ∃ j < 16, v.getLsbD j = true ∧ s.scratchWay h j = true) : s.wayRetire h v = s := by
  unfold State.wayRetire
  dsimp only
  rw [popCount_bits 16 15 rfl, if_pos]
  rwa [Bool.or_eq_true, decide_eq_true_eq, any_scratchWay_iff]

/-- A write that retires a further way sets BUSY with it. -/
theorem State.wayRetire_taken {s : State} {h : Nat} {v : W64}
    (hc : ((List.range 16).filter (fun j => (s.reg (Key.l3Wayret h) ||| (v &&& 0xFFFF)).getLsbD j)).length ≤ 4)
    (hs : ∀ j < 16, v.getLsbD j = true → s.scratchWay h j = false)
    (hn : bits (s.reg (Key.l3Wayret h) ||| (v &&& 0xFFFF)) 15 0 ≠ s.rf (Key.l3Wayret h) 15 0) :
    s.wayRetire h v = s.setReg (Key.l3Wayret h) (setBits (s.reg (Key.l3Wayret h) ||| (v &&& 0xFFFF)) 63 63 1) := by
  have hfree : ¬ ∃ j < 16, v.getLsbD j = true ∧ s.scratchWay h j = true := by
    rintro ⟨j, hj, hv, hw⟩
    rw [hs j hj hv] at hw
    exact Bool.false_ne_true hw
  have htaken := not_or.2 ⟨Nat.not_lt.2 hc, hfree⟩
  rw [← any_scratchWay_iff, ← decide_eq_true_eq (p := 4 < _), ← Bool.or_eq_true] at htaken
  unfold State.wayRetire
  dsimp only
  rw [popCount_bits 16 15 rfl, if_neg htaken, ← State.rf, if_neg hn, State.setRf, State.setReg_setReg, State.reg_setReg_self]

end Sys2Proof.Machine
end

section
/-! PROOF. An instruction that issues outside a delay slot: its operands in Den words, its body and its end (03 R95, R107; 07 R243). -/

namespace Sys2Proof.Machine

theorem State.Ready.slot {s : State} {t len : Nat} (h : s.Ready t len) : (s.thr t).slot = none := by
  obtain ⟨⟨-, -, -, hslot, -, -⟩, -⟩ := h
  exact hslot

/-! ## The end of an instruction outside a delay slot -/

/-- Its thread advances past the instruction (03 R85). -/
theorem finish_onIssue {s : State} {t : Nat} {sp : Spec} {e : Enc} (h : (s.thr t).slot = none) :
    ((s.thr t).onIssue (e.len sp.axIsLm)).finish (fullCtx s t sp e) = (s.thr t).advanced (e.len sp.axIsLm) := by
  rw [finish_plain _ _ (show (fullCtx s t sp e).slot = none from h), onIssue_plain _ _ h]
  rfl

/-- An instruction that has changed its core alone advances its thread. -/
theorem finish_modCore_issuing {s : State} {t : Nat} {sp : Spec} {e : Enc} (h : (s.thr t).slot = none) (c : Nat) (f : Core → Core) :
    ((s.issuing t (e.len sp.axIsLm)).modCore c f).modThr t (fun th => th.finish (fullCtx s t sp e)) =
      (s.modCore c f).after t (s.thr t) (e.len sp.axIsLm) := by
  have hswap : (s.issuing t (e.len sp.axIsLm)).modCore c f =
      (s.modCore c f).setThr t ((s.thr t).onIssue (e.len sp.axIsLm)) := rfl
  rw [hswap, State.modThr, State.thr_setThr_self, State.setThr_setThr, finish_onIssue h, State.after]

theorem thr_issuing (s : State) (t len : Nat) : (s.issuing t len).thr t = (s.thr t).onIssue len := State.thr_setThr_self _ _ _

/-- A trap that is no call saves the instruction's own address (07 R243). -/
theorem trapInstr_issuing {s : State} {t : Nat} {sp : Spec} {e : Enc} (h : (s.thr t).slot = none) {x : Exn} (h1 : x.code ≠ 0x20)
    (h2 : x.code ≠ 0x21) :
    (s.issuing t (e.len sp.axIsLm)).trapInstr (fullCtx s t sp e) x = (s.issuing t (e.len sp.axIsLm)).trapped t x := by
  have hslot : (fullCtx s t sp e).pending = none := by simp [Ctx.pending, fullCtx, mkCtx, h]
  have hpc : ((s.issuing t (e.len sp.axIsLm)).thr t).pc = (fullCtx s t sp e).pc := by
    rw [thr_issuing, onIssue_plain _ _ h]
    rfl
  simp [State.trapInstr, State.trapped, h1, h2, hslot, hpc, show (fullCtx s t sp e).t = t from rfl]

/-! ## Operands in Den words -/

/-- A Den operand has a legal extension: the number of the word (03 R95). -/
theorem extIllegal_den {sp : Spec} {e : Enc} {k : Nat} (hm : e.mode k = 0) (hx : (e.ext k).toNat < 256) : extIllegal sp e k = false := by
  simp [extIllegal, hm, extNamed, Nat.not_le.2 hx]

theorem bits_setWidth_den (a : BitVec 8) : bits (a.setWidth 64) 7 0 = a.toNat := by
  simp [bits]
  omega

theorem denWord_issuing {s : State} {t len : Nat} (h : (s.thr t).slot = none) (n : Nat) :
    ((s.issuing t len).thr t).denWord n = (s.thr t).denWord n := by
  rw [thr_issuing, onIssue_plain _ _ h]
  rfl

theorem resolve_den {x : Ctx} {k : Nat} {a : BitVec 8} (hm : x.e.mode k = 0) (hx : x.e.ext k = a.setWidth 64) (al : Nat) (r : Role)
    (s : State) : resolve x k al r s = .ok (.den a.toNat false) s := by
  unfold resolve
  simp only [hm, hx, bits_setWidth_den]

/-- A source takes a word of an accepted tag that no check of R55 concerns as it is (02 R55). -/
theorem consume_accepted {sec uie : Bool} {ts : List Tag} {w : TWord} (hts : ts.contains w.tag = true)
    (hplain : w.tag ∈ [Tag.int, Tag.bits, Tag.fix, Tag.flt, Tag.ptr, Tag.code]) : consume sec uie (some ts) w = .ok w := by
  have hne : w.tag ≠ Tag.poison ∧ w.tag.reserved = false ∧ w.tag ≠ Tag.sealed ∧ w.tag ≠ Tag.uninit ∧ w.tag ≠ Tag.empty ∧
      w.tag ≠ Tag.full := by
    revert hplain
    generalize w.tag = g
    revert g
    decide
  obtain ⟨h1, h2, h3, h4, h5, h6⟩ := hne
  simp only [consume, h1, h2, h3, h4, h5, h6, if_false, decide_false, Bool.false_and, Bool.false_eq_true, hts, if_true]

/-- An integer source takes a word with tag INT or BITS as it is (02 R53). -/
theorem takeSource_den_int {x : Ctx} {k n : Nat} {s : State}
    (h : ((s.thr x.t).denWord n).tag = Tag.int ∨ ((s.thr x.t).denWord n).tag = Tag.bits) :
    takeSource x k accInt (.den n false) s = .ok ((s.thr x.t).denWord n) s := by
  have hok : consume x.sec x.uie accInt ((s.thr x.t).denWord n) = .ok ((s.thr x.t).denWord n) :=
    consume_accepted (by rcases h with h | h <;> rw [h] <;> rfl) (by rcases h with h | h <;> rw [h] <;> decide)
  simp [takeSource, Ctx.consume, hok, Res.bind]

/-! ## The body of a full-mode instruction that issues -/

/-- What an issued instruction makes of the result of its steps 5 to 8: s is the state it issued in (03 R107). -/
def State.ends (s : State) (x : Ctx) : Res Bool → Out
  | .ok true u => .next (u.modThr x.t (fun th => th.finish x))
  | .ok false u => .next u
  | .trap e u => .next (u.trapInstr x e)
  | .wait u => .next (u.modThr x.t (fun th => { th with old := (s.thr x.t).old, issued := (s.thr x.t).issued }))

/-- A full-mode instruction that issues outside a delay slot and passes steps 2 to 4 is its body. -/
theorem fullInstr_of_issues {s : State} {t : Nat} {e : Enc} {sp : Spec} {body : Ctx → State → Res Bool}
    (hi : s.Issues t false (e.len sp.axIsLm)) (hd : decodeCheck sp false e = none)
    (hl : levelCheck sp (s.thr t).sec (s.thr t).lvl (s.thr t) e = none) (hc : condHolds e.cond (s.thr t).flags = true) :
    fullInstr t e sp body s = s.ends (fullCtx s t sp e) (body (fullCtx s t sp e) (s.issuing t (e.len sp.axIsLm))) := by
  obtain ⟨h1, h2, h3, h4, h5, h6⟩ := hi
  have hrun := issue_passes false (fullCtx s t sp e) 2 e.cond body s h1 h2 h3 h5 h4 h4 h6 hc
  rw [show s.setThr (fullCtx s t sp e).t ((s.thr (fullCtx s t sp e).t).onIssue (fullCtx s t sp e).len) =
    s.issuing t (e.len sp.axIsLm) from rfl] at hrun
  unfold fullInstr
  simp only [h4, Option.isSome_none, hd, hl]
  refine hrun.trans ?_
  cases body (fullCtx s t sp e) (s.issuing t (e.len sp.axIsLm)) with
  | ok b u => cases b <;> rfl
  | trap x u => rfl
  | wait u => rfl

theorem State.ends_modCore {s : State} {t : Nat} {sp : Spec} {e : Enc} (h : (s.thr t).slot = none) (c : Nat) (f : Core → Core) :
    s.ends (fullCtx s t sp e) (.ok true ((s.issuing t (e.len sp.axIsLm)).modCore c f)) =
      .next ((s.modCore c f).after t (s.thr t) (e.len sp.axIsLm)) :=
  congrArg Host.Outcome.next (finish_modCore_issuing h c f)

theorem State.ends_trap {s : State} {t : Nat} {sp : Spec} {e : Enc} (h : (s.thr t).slot = none) {x : Exn} (h1 : x.code ≠ 0x20)
    (h2 : x.code ≠ 0x21) :
    s.ends (fullCtx s t sp e) (.trap x (s.issuing t (e.len sp.axIsLm))) = .next ((s.issuing t (e.len sp.axIsLm)).trapped t x) :=
  congrArg Host.Outcome.next (trapInstr_issuing h h1 h2)

end Sys2Proof.Machine
end

section
/-! PROOF. SYSWR with its operands in Den words, and the words that control L1D and L1I (02 R65; 05 R198; 09 R318, R331). -/

namespace Sys2Proof.Machine

/-! ## SYSWR -/

/-- The specification of SYSWR (05 R198). -/
def syswrSpec : Spec := { group := 0xA, forms := [(2, [.src, .src])] }

theorem decodeCheck_syswr (a b : BitVec 8) (inSlot : Bool) : decodeCheck syswrSpec inSlot (denEnc2 a b) = none := by
  have h1 : extIllegal syswrSpec (denEnc2 a b) 1 = false := extIllegal_den rfl (by simp [Enc.ext, denEnc2]; omega)
  have h2 : extIllegal syswrSpec (denEnc2 a b) 2 = false := extIllegal_den rfl (by simp [Enc.ext, denEnc2]; omega)
  have hmode : ∀ k, (denEnc2 a b).mode k = 0 := fun k => by simp [Enc.mode, denEnc2]
  have hform : (denEnc2 a b).form.toNat = 2 := rfl
  have hroles : syswrSpec.roles 2 = some [.src, .src] := rfl
  have hlm : syswrSpec.axIsLm = false := rfl
  have hax : (denEnc2 a b).ax = false := rfl
  have hmodes : ∀ k, syswrSpec.modes k = none := fun _ => rfl
  have hill : syswrSpec.illegal (denEnc2 a b) = none := rfl
  have hslot : syswrSpec.noSlot = false := rfl
  have htake : syswrSpec.noTake = false := rfl
  unfold decodeCheck
  simp [hform, hroles, hmode, hlm, hax, hmodes, hill, hslot, htake, h1, h2, placeIllegal, lmIllegal, tlitIllegal, isTakeMode, Role.writes,
    List.range_succ]

theorem levelCheck_syswr (sec : Bool) (lvl : BitVec 2) (th : Thread) (a b : BitVec 8) :
    levelCheck syswrSpec sec lvl th (denEnc2 a b) = none := by
  have hmode : ∀ k, (denEnc2 a b).mode k = 0 := fun k => by simp [Enc.mode, denEnc2]
  simp [levelCheck, syswrSpec, hmode]

/-- Steps 5 to 8 of a SYSWR in full mode (05 R198). -/
def syswrBody (p : Nat → W64 → Bool) (x : Ctx) (s : State) : Res Bool :=
  (resolve x 1 1 .src s).bind fun p1 s => (resolve x 2 1 .src s).bind fun p2 s =>
    (takeSource x 1 accInt p1 s).bind fun w1 s => (takeSource x 2 accInt p2 s).bind fun w2 s =>
      let v := bits w1.data 63 0
      let val : W64 := w2.data.setWidth 64
      if !(p (selNum v) val) then .wait s
      else
        (sysCheck x v 1 true s).bind fun _ s =>
          (sysWrite x.t x.sec x.lvl (selNum v) (selThread x.t v) val 1 2 s).bind fun _ s =>
            .ok true (s.takeWords x none [p1, p2])

theorem syswrOf_full (p : Nat → W64 → Bool) (t : Nat) (e : Enc) (s : State) :
    syswrOf p t (.full e) s = fullInstr t e syswrSpec (syswrBody p) s := rfl

section
variable {s : State} {t : Nat} {a b : BitVec 8} {p : Nat → W64 → Bool}

/-- With its operands in Den words, SYSWR does what the write of its word does, where the word may be written (02 R65). -/
theorem syswrBody_den {len : Nat} (h : (s.thr t).slot = none)
    (ha : s.denTag t a = Tag.int ∨ s.denTag t a = Tag.bits) (hb : s.denTag t b = Tag.int ∨ s.denTag t b = Tag.bits)
    (hp : p (selNum (bits (s.denData t a) 63 0)) ((s.denData t b).setWidth 64) = true)
    (hc : sysCheck (fullCtx s t syswrSpec (denEnc2 a b)) (bits (s.denData t a) 63 0) 1 true (s.issuing t len) =
      .ok () (s.issuing t len)) :
    syswrBody p (fullCtx s t syswrSpec (denEnc2 a b)) (s.issuing t len) =
      (sysWrite t (s.thr t).sec (s.thr t).lvl (selNum (bits (s.denData t a) 63 0)) (selThread t (bits (s.denData t a) 63 0))
        ((s.denData t b).setWidth 64) 1 2 (s.issuing t len)).bind fun _ u => .ok true u := by
  have hwa : ((s.issuing t len).thr t).denWord a.toNat = (s.thr t).denWord a.toNat := denWord_issuing h _
  have hwb : ((s.issuing t len).thr t).denWord b.toNat = (s.thr t).denWord b.toNat := denWord_issuing h _
  have hta := takeSource_den_int (x := fullCtx s t syswrSpec (denEnc2 a b)) (k := 1) (n := a.toNat) (s := s.issuing t len)
    (by rw [show (fullCtx s t syswrSpec (denEnc2 a b)).t = t from rfl, hwa]; exact ha)
  have htb := takeSource_den_int (x := fullCtx s t syswrSpec (denEnc2 a b)) (k := 2) (n := b.toNat) (s := s.issuing t len)
    (by rw [show (fullCtx s t syswrSpec (denEnc2 a b)).t = t from rfl, hwb]; exact hb)
  rw [show (fullCtx s t syswrSpec (denEnc2 a b)).t = t from rfl, hwa] at hta
  rw [show (fullCtx s t syswrSpec (denEnc2 a b)).t = t from rfl, hwb] at htb
  unfold syswrBody
  rw [resolve_den (a := a) rfl rfl, Res.bind, resolve_den (a := b) rfl rfl, Res.bind, hta, Res.bind, htb, Res.bind]
  dsimp only
  rw [show ((s.thr t).denWord a.toNat).data = s.denData t a from rfl, show ((s.thr t).denWord b.toNat).data = s.denData t b from rfl, hp,
    hc]
  rfl

/-- SYSWR of a word that may be written, from Den words: the write, then the end of the instruction or its trap (02 R65; 05 R198). -/
theorem syswrOf_den (hr : s.Ready t (Ins.full (denEnc2 a b)).bytes)
    (ha : s.denTag t a = Tag.int ∨ s.denTag t a = Tag.bits) (hb : s.denTag t b = Tag.int ∨ s.denTag t b = Tag.bits)
    (hp : p (selNum (bits (s.denData t a) 63 0)) ((s.denData t b).setWidth 64) = true)
    (hc : ∀ u, sysCheck (fullCtx s t syswrSpec (denEnc2 a b)) (bits (s.denData t a) 63 0) 1 true u = .ok () u) :
    syswrOf p t (.full (denEnc2 a b)) s = s.ends (fullCtx s t syswrSpec (denEnc2 a b))
      ((sysWrite t (s.thr t).sec (s.thr t).lvl (selNum (bits (s.denData t a) 63 0)) (selThread t (bits (s.denData t a) 63 0))
        ((s.denData t b).setWidth 64) 1 2 (s.issuing t (Ins.full (denEnc2 a b)).bytes)).bind fun _ u => .ok true u) := by
  rw [syswrOf_full, fullInstr_of_issues hr.1 (decodeCheck_syswr a b false) (levelCheck_syswr _ _ _ a b) rfl]
  exact congrArg _ (syswrBody_den hr.slot ha hb hp (hc _))

end

/-! ## L1CTL and L1DPART (09 R318, R326, R331) -/

/-- The monitor may write the words of its core's L1 caches (02 R67; 09 R329). -/
theorem sysCheck_l1Word {x : Ctx} {n : Nat} (hn : n = 0x180 ∨ n = 0x181) (hl : x.lvl = 3) (s : State) :
    sysCheck x n 1 true s = .ok () s := by
  rcases hn with rfl | rfl <;> simp [sysCheck, sysAllowed, selNum, wordInfo, lvlMeets, hl]

/-- The monitor's SYSWR of a word of its core's L1 caches, from Den words. -/
theorem syswrOf_l1Word {s : State} {t n : Nat} {a b : BitVec 8} {p : Nat → W64 → Bool}
    (hr : s.Ready t (Ins.full (denEnc2 a b)).bytes) (hl : (s.thr t).lvl = 3)
    (ha : s.denTag t a = Tag.int ∨ s.denTag t a = Tag.bits) (hb : s.denTag t b = Tag.int ∨ s.denTag t b = Tag.bits)
    (hn : (s.denData t a).toNat % 2 ^ 64 = n) (hword : n = 0x180 ∨ n = 0x181) (hp : p n ((s.denData t b).setWidth 64) = true) :
    syswrOf p t (.full (denEnc2 a b)) s = s.ends (fullCtx s t syswrSpec (denEnc2 a b))
      ((sysWrite t (s.thr t).sec (s.thr t).lvl n (selThread t n) ((s.denData t b).setWidth 64) 1 2
        (s.issuing t (Ins.full (denEnc2 a b)).bytes)).bind fun _ u => .ok true u) := by
  have hbits : bits (s.denData t a) 63 0 = n := by simpa [bits] using hn
  have hsel : selNum n = n := by rcases hword with h | h <;> rw [h] <;> rfl
  have hrun := syswrOf_den (p := p) hr ha hb (by rw [hbits, hsel]; exact hp) fun u => by rw [hbits]; exact sysCheck_l1Word hword hl u
  rwa [hbits, hsel] at hrun

/-- The word that a write of L1CTL leaves (09 R331). -/
def l1ctlAfter (old v : W64) : W64 := disWrite (disWrite old 0 4 (bit v 0)) 1 5 (bit v 1)

/-- DIS of L1D and L1I in bits 0 and 1, STALE in bits 4 and 5. -/
theorem bit_l1ctlAfter (old v : W64) {j : Nat} (hj : j < 2) :
    bit (l1ctlAfter old v) j = (bit v j || (bit old j && bit old (j + 4))) ∧
      bit (l1ctlAfter old v) (j + 4) = (bit v j || bit old (j + 4)) := by
  interval_cases j <;> simp [l1ctlAfter, bit_disWrite]

theorem sysWrite_l1ctl (t : Nat) (sec : Bool) (lvl : BitVec 2) (tt : Nat) (v : W64) (s : State) :
    sysWrite t sec lvl 0x180 tt v 1 2 s = .ok () (s.writeL1ctl (t / 16) v) := rfl

theorem sysWrite_l1dpart_beyond {s : State} {v : W64} (t : Nat) (sec : Bool) (lvl : BitVec 2) (tt : Nat)
    (h : fuseLimit s.keyw.l1dsec 4 < ((List.range 8).filter (fun j => v.getLsbD j)).length) :
    sysWrite t sec lvl 0x181 tt v 1 2 s = .trap { code := 0x1A, step := 7, opnd := 1 } s := by
  rw [← popCount_bits 8 7 rfl] at h
  simp [sysWrite, h]

theorem sysWrite_l1dpart_within {s : State} {v : W64} (t : Nat) (sec : Bool) (lvl : BitVec 2) (tt : Nat)
    (h : ¬ fuseLimit s.keyw.l1dsec 4 < ((List.range 8).filter (fun j => v.getLsbD j)).length) :
    sysWrite t sec lvl 0x181 tt v 1 2 s = .ok () (s.writeL1dpart (t / 16) v) := by
  rw [← popCount_bits 8 7 rfl] at h
  simp [sysWrite, h]

/-- A core whose L1D ways are divided anew: the lines of the ways that move are dropped (09 R318). -/
def Core.repartitioned (v : W64) (x : Core) : Core :=
  { x with l1dpart := v &&& 0xFF, l1d := x.l1d.filter (fun e => v.getLsbD (e.1 % 8) == x.l1dpart.getLsbD (e.1 % 8)) }

theorem State.writeL1dpart_eq (s : State) (c : Nat) (v : W64) : s.writeL1dpart c v = s.modCore c (Core.repartitioned v) := by
  have hkeep : ∀ old : W64, (fun e : Nat × Nat => !(bit (old ^^^ (v &&& 0xFF)) (e.1 % 8))) =
      fun e => v.getLsbD (e.1 % 8) == old.getLsbD (e.1 % 8) := by
    intro old
    funext e
    rw [bit_moved (getLsbD_low8 (Nat.mod_lt _ (by decide)))]
    cases old.getLsbD (e.1 % 8) <;> cases v.getLsbD (e.1 % 8) <;> rfl
  simp only [State.writeL1dpart, hkeep]
  rfl

section
variable {s : State} {t : Nat} {a b : BitVec 8}

theorem exec_partitionWrite_sys (t : Nat) (i : Ins) (s : State) :
    exec (.partitionWrite (.sys t i)) s = syswrOf (fun n _ => n == 0x181 || n == 0x191) t i s := rfl

theorem exec_cacheDisable_sys (t : Nat) (i : Ins) (s : State) :
    exec (.cacheDisable (.sys t i)) s = syswrOf (fun n _ => n == 0x180 || n == 0x190) t i s := rfl

/-- PARTITION_WRITE of L1DPART beyond the fused limit (09 R318; 15 R494). -/
theorem exec_partitionWrite_l1d_beyond (hr : s.Ready t (Ins.full (denEnc2 a b)).bytes) (hl : (s.thr t).lvl = 3)
    (ha : s.denTag t a = Tag.int ∨ s.denTag t a = Tag.bits) (hb : s.denTag t b = Tag.int ∨ s.denTag t b = Tag.bits)
    (hn : (s.denData t a).toNat % 2 ^ 64 = 0x181)
    (hv : fuseLimit s.keyw.l1dsec 4 < ((List.range 8).filter (fun j => ((s.denData t b).setWidth 64 : W64).getLsbD j)).length) :
    s.Traps t (.partitionWrite (.sys t (.full (denEnc2 a b)))) (Ins.full (denEnc2 a b)).bytes { code := 0x1A, step := 7, opnd := 1 } := by
  rw [State.Traps, exec_partitionWrite_sys, syswrOf_l1Word hr hl ha hb hn (.inr rfl) rfl,
    sysWrite_l1dpart_beyond (s := s.issuing t _) _ _ _ _ hv, Res.bind]
  exact State.ends_trap hr.slot (by decide) (by decide)

/-- PARTITION_WRITE of L1DPART within the fused limit. -/
theorem exec_partitionWrite_l1d_within (hr : s.Ready t (Ins.full (denEnc2 a b)).bytes) (hl : (s.thr t).lvl = 3)
    (ha : s.denTag t a = Tag.int ∨ s.denTag t a = Tag.bits) (hb : s.denTag t b = Tag.int ∨ s.denTag t b = Tag.bits)
    (hn : (s.denData t a).toNat % 2 ^ 64 = 0x181)
    (hv : ¬ fuseLimit s.keyw.l1dsec 4 < ((List.range 8).filter (fun j => ((s.denData t b).setWidth 64 : W64).getLsbD j)).length) :
    exec (.partitionWrite (.sys t (.full (denEnc2 a b)))) s =
      .next ((s.modCore (t / 16) (Core.repartitioned ((s.denData t b).setWidth 64))).after t (s.thr t) (Ins.full (denEnc2 a b)).bytes) := by
  rw [exec_partitionWrite_sys, syswrOf_l1Word hr hl ha hb hn (.inr rfl) rfl, sysWrite_l1dpart_within (s := s.issuing t _) _ _ _ _ hv,
    Res.bind, State.writeL1dpart_eq]
  exact State.ends_modCore hr.slot _ _

/-- CACHE_DISABLE of L1CTL (09 R326, R331). -/
theorem exec_cacheDisable_l1 (hr : s.Ready t (Ins.full (denEnc2 a b)).bytes) (hl : (s.thr t).lvl = 3)
    (ha : s.denTag t a = Tag.int ∨ s.denTag t a = Tag.bits) (hb : s.denTag t b = Tag.int ∨ s.denTag t b = Tag.bits)
    (hn : (s.denData t a).toNat % 2 ^ 64 = 0x180) :
    exec (.cacheDisable (.sys t (.full (denEnc2 a b)))) s =
      .next ((s.modCore (t / 16) (fun x => { x with l1ctl := l1ctlAfter (s.core (t / 16)).l1ctl ((s.denData t b).setWidth 64) })).after t
        (s.thr t) (Ins.full (denEnc2 a b)).bytes) := by
  rw [exec_cacheDisable_sys, syswrOf_l1Word hr hl ha hb hn (.inl rfl) rfl, sysWrite_l1ctl, Res.bind]
  exact State.ends_modCore hr.slot _ _

end

end Sys2Proof.Machine
end

section
/-! PROOF. Errors in the arrays of Dens, caches and TLBs (02 R44; 08 R286; 09 R314, R315). -/

namespace Sys2Proof.Machine

/-! ## Dens (02 R44) -/

theorem State.applyUpset_den {s : State} {t n : Nat} (ht : t < 768) (hn : n < 256) :
    s.applyUpset (.den t n) = { s.modThr t (fun th => th.setDen n s.spoiled) with fresh := s.fresh + 1 } :=
  if_pos ⟨ht, hn⟩

/-- The word that failed is POISON; every other word and thread is as it was. -/
theorem State.applyUpset_den_words {s : State} {t n : Nat} (ht : t < 768) (hn : n < 256) :
    let u := s.applyUpset (.den t n)
    ((u.thr t).denWord n).tag = Tag.poison ∧ (∀ j, j ≠ n → (u.thr t).denWord j = (s.thr t).denWord j) ∧
      ∀ k, k ≠ t → u.thr k = s.thr k := by
  have hself : ∀ f, ({ s.modThr t f with fresh := s.fresh + 1 } : State).thr t = f (s.thr t) := fun f => State.thr_setThr_self s t _
  rw [State.applyUpset_den ht hn]
  dsimp only
  rw [hself, Thread.denWord_setDen_self]
  exact ⟨rfl, fun j hj => Thread.denWord_setDen_ne _ _ hj, fun k hk => State.thr_setThr_ne s _ hk⟩

/-! ## L1 caches and TLBs (08 R286; 09 R314) -/

theorem State.core_applyUpset_l1 {s : State} {c : Nat} (hc : c < 48) (icache : Bool) (slot : Nat) :
    (s.applyUpset (.l1 c icache slot)).core c = (s.core c).dropParity icache slot := by
  rw [State.applyUpset, if_pos hc]
  exact State.core_setCore_self s c _

theorem State.core_applyUpset_tlb {s : State} {c : Nat} (hc : c < 48) (which n : Nat) :
    (s.applyUpset (.tlb c which n)).core c = (s.core c).dropEntry which n := by
  rw [State.applyUpset, if_pos hc]
  exact State.core_setCore_self s c _

theorem Core.dropParity_l1d {c : Core} {slot line : Nat} (h : tfind c.l1d slot = some line) :
    let x := c.dropParity false slot
    tfind x.l1d slot = none ∧ bits x.l1err 15 0 = satAdd 0xFFFF (bits c.l1err 15 0) 1 ∧ x.dpars = c.dpars + 1 ∧ x.l1i = c.l1i := by
  rw [Core.dropParity, if_neg Bool.false_ne_true, h, if_neg (by simp)]
  exact ⟨tfind_tdel_self _ _, bits_setBits_satAdd (hi := 15) (lo := 0) _ _ _ (by decide), rfl, rfl⟩

theorem Core.dropParity_l1i {c : Core} {slot line : Nat} (h : tfind c.l1i slot = some line) :
    let x := c.dropParity true slot
    tfind x.l1i slot = none ∧ bits x.l1err 31 16 = satAdd 0xFFFF (bits c.l1err 31 16) 1 ∧ x.ipars = c.ipars + 1 ∧ x.l1d = c.l1d := by
  rw [Core.dropParity, if_pos rfl, h, if_neg (by simp)]
  exact ⟨tfind_tdel_self _ _, bits_setBits_satAdd (hi := 31) (lo := 16) _ _ _ (by decide), rfl, rfl⟩

/-- The core's telemetry counts an entry that was there to fail. -/
theorem Core.tlbPars_counted (c : Core) (n len : Nat) :
    (if n < len then { c with tlbPars := c.tlbPars + 1 } else c) = { c with tlbPars := c.tlbPars + if n < len then 1 else 0 } := by
  split <;> rfl

/-! ## L2 (09 R315) -/

theorem State.applyUpset_l2Line {s : State} {k slot : Nat} {l : L2Line} (h : tfind (s.cluster k).l2 slot = some l) (hl : l.st ≠ .held) :
    s.applyUpset (.l2Line k slot) = s.loseL2Line k slot l := by
  simp [State.applyUpset, h, hl]

/-- An L2 line that is not pinned leaves its slot, memory stays, and a dirty one awaits its report. -/
theorem State.loseL2Line_effect {s : State} {k slot : Nat} {l : L2Line} (hp : l.pin = false) :
    let u := s.loseL2Line k slot l
    tfind (u.cluster k).l2 slot = none ∧ u.mem = s.mem ∧
      u.bdg.cacheErr = s.bdg.cacheErr ++ (if l.st = .m then [k] else []) := by
  obtain ⟨co, d, h⟩ := s.l2Drop_eq k slot l
  have hslot : tfind ((s.l2Drop k slot l).cluster k).l2 slot = none := by
    rw [h]
    simp [State.cluster, State.modCluster, State.setCluster, hp]
  have hmem : (s.l2Drop k slot l).mem = s.mem := by rw [h]; rfl
  have hbdg : (s.l2Drop k slot l).bdg = s.bdg := by rw [h]; rfl
  unfold State.loseL2Line
  by_cases hm : l.st = .m
  · simp only [hm, if_true]
    exact ⟨hslot, hmem, by rw [hbdg]⟩
  · simp only [hm, if_false, List.append_nil]
    exact ⟨hslot, hmem, by rw [hbdg]⟩

theorem State.applyUpset_l2Word {s : State} {k slot i : Nat} {l : L2Line} (h : tfind (s.cluster k).l2 slot = some l)
    (hl : l.st ≠ .held) (hi : i < 4) : s.applyUpset (.l2Word k slot i) = s.poisonL2 k slot l i := by
  simp [State.applyUpset, h, hl, Nat.not_le.2 hi]

/-- Word i of a line that is spoiled is POISON, and no other word of the line differs. -/
theorem getD_set_spoiled {ws : List TWord} (s : State) {i j : Nat} (hw : ws.length = 4) (hj : j < 4) :
    if j = i then ((ws.set i s.spoiled).getD j TWord.fresh).tag = Tag.poison
    else (ws.set i s.spoiled).getD j TWord.fresh = ws.getD j TWord.fresh := by
  by_cases h : j = i
  · subst h
    simp [List.getD_eq_getElem?_getD, hw, hj, State.spoiled]
  · simp [List.getD_eq_getElem?_getD, h, Ne.symm h]

/-- The word that failed is POISON in its own slot, and every other cluster is as it was. -/
theorem State.poisonL2_effect (s : State) (k slot i : Nat) (l : L2Line) :
    let u := s.poisonL2 k slot l i
    tfind (u.cluster k).l2 slot = some { l with ws := l.ws.set i s.spoiled } ∧ u.mem = s.mem ∧ u.l3 = s.l3 ∧
      ∀ j, j ≠ k → u.cluster j = s.cluster j := by
  refine ⟨?_, rfl, rfl, fun j hj => State.cluster_setCluster_ne s _ hj⟩
  have hself : (s.poisonL2 k slot l i).cluster k =
      { s.cluster k with l2 := tput (s.cluster k).l2 slot { l with ws := l.ws.set i s.spoiled } } :=
    State.cluster_setCluster_self s k _
  rw [hself]
  exact tfind_tinsert_self slot _ _

/-! ## L3 (09 R315, R333) -/

theorem State.applyUpset_l3Word {s : State} {key i : Nat} {l : L3Line} (h : tfind s.l3 key = some l) (hi : i < 4) (corrected : Bool) :
    s.applyUpset (.l3Word key i corrected) =
      if corrected then s.count (Key.l3Errcnt (key / 65536)) 31 0 1
      else (s.poisonL3 key l i).count (Key.l3Errcnt (key / 65536)) 63 32 1 := by
  simp [State.applyUpset, h, Nat.not_le.2 hi]

theorem State.applyUpset_l3Line {s : State} {key : Nat} {l : L3Line} (h : tfind s.l3 key = some l) :
    s.applyUpset (.l3Line key) = s.loseL3Line key l := by
  simp [State.applyUpset, h]

/-- An L3 line that is lost leaves its slot and is counted, memory stays, and a dirty one awaits its report. -/
theorem State.loseL3Line_effect (s : State) (key : Nat) (l : L3Line) :
    let cnt := Key.l3Errcnt (key / 65536)
    let u := s.loseL3Line key l
    tfind u.l3 key = none ∧ u.rf cnt 63 32 = satAdd 0xFFFFFFFF (s.rf cnt 63 32) 1 ∧ u.mem = s.mem ∧
      u.bdg.cacheErr = s.bdg.cacheErr ++ (if l.dirty then [key / 65536] else []) := by
  have hcnt := ({ s with l3 := tdel s.l3 key } : State).rf_count_self (Key.l3Errcnt (key / 65536)) (hi := 63) (lo := 32) 1 (by decide)
  have hnone : tfind (tdel s.l3 key) key = none := tfind_tdel_self key s.l3
  unfold State.loseL3Line
  by_cases hd : l.dirty = true
  · simp only [hd, if_true]
    exact ⟨hnone, hcnt, rfl, rfl⟩
  · simp only [hd, Bool.false_eq_true, if_false, List.append_nil]
    exact ⟨hnone, hcnt, rfl, rfl⟩

end Sys2Proof.Machine
end

section
/-! PROOF. The statement about cache configuration and errors in arrays, from the rules of its parts. -/

namespace Sys2Proof.Machine

/-- Settles O46: each clause is the effect of one operation, L3_PART and L3_CTL of a slice, SYSWR of the L1 words, L3_SCRCFG and the
end of its conversion, L3_WAYRET and its end, and the errors in the arrays. -/
theorem cacheConfiguration : Obligations.CacheConfiguration := by
  unfold Obligations.CacheConfiguration
  refine ⟨fun s w h v hh hw => ?_, fun s t a b => ?_, fun s w v hw => ?_, fun s w h v hh hw => ?_,
    fun s t n c which slot line h i key l2 l3 ht hn hc hh => ?_⟩
  · dsimp only
    rw [exec_partitionWrite_l3 v hh hw, exec_cacheDisable_l3 v hh hw]
    exact ⟨fun hc => congrArg _ (State.l3PartWrite_beyond hc), fun hc he => congrArg _ (State.l3PartWrite_within hc he), _, rfl,
      s.l3CtlWrite_effect h v⟩
  · intro i th c v n hr hl ha hb
    refine ⟨fun hpart => ?_, fun hctl => ⟨_, exec_cacheDisable_l1 hr hl ha hb hctl, fun j hj => bit_l1ctlAfter _ v hj⟩⟩
    show if fuseLimit s.keyw.l1dsec 4 < _ then _ else _
    split
    · exact exec_partitionWrite_l1d_beyond hr hl ha hb hpart ‹_›
    · exact exec_partitionWrite_l1d_within hr hl ha hb hpart ‹_›
  · dsimp only
    rw [exec_scratchConfig v hw, exec_scratchConversionDone]
    refine ⟨fun hb => congrArg _ (State.scrWrite_of_busy v hb), fun hb hg hr => congrArg _ (State.scrWrite_of_growing rfl rfl hb hg hr),
      fun hb => ⟨_, rfl, ?_⟩⟩
    obtain ⟨hbusy, hunits, hready, hnew⟩ := State.scrDone_effect hb
    exact ⟨hbusy, hunits, hready, fun n h1 h2 h3 hdis htop => hnew n h1 h2 (Nat.lt_of_lt_of_le h2 h3) hdis htop⟩
  · dsimp only
    rw [exec_wayRetire v hh hw]
    exact ⟨fun hc => congrArg _ (State.wayRetire_refused hc), fun hc hs hn => congrArg _ (State.wayRetire_taken hc hs hn),
      exec_wayRetireDone_of_busy hh⟩
  · refine ⟨?_, fun hd => ?_, fun hi => ?_, ⟨if_pos hc, ?_⟩, fun h2 hst hp => ?_, fun h2 hst hi hws => ?_, fun h3 hi => ?_⟩
    · obtain ⟨hword, hothers, hthreads⟩ := State.applyUpset_den_words (s := s) ht hn
      exact ⟨hword, hothers, hthreads, by rw [State.applyUpset_den ht hn]; rfl, by rw [State.applyUpset_den ht hn]; rfl⟩
    · rw [State.core_applyUpset_l1 hc]
      exact Core.dropParity_l1d hd
    · rw [State.core_applyUpset_l1 hc]
      exact Core.dropParity_l1i hi
    · rw [State.core_applyUpset_tlb hc]
      unfold Core.dropEntry
      rcases which with _ | _ | _ | _ <;> simp only [Core.tlbPars_counted]
    · rw [State.applyUpset_l2Line h2 hst]
      exact State.loseL2Line_effect hp
    · rw [State.applyUpset_l2Word h2 hst hi]
      obtain ⟨hslot, hmem, hl3, hothers⟩ := s.poisonL2_effect h slot i l2
      exact ⟨⟨_, hslot, rfl, rfl, fun j hj => getD_set_spoiled s hws hj⟩, hmem, hl3, hothers⟩
    · simp only [State.applyUpset_l3Word h3 hi, State.applyUpset_l3Line h3]
      refine ⟨rfl, ⟨State.rf_count_self (s.poisonL3 key l3 i) _ 1 (by decide), rfl, rfl, fun hws => ?_⟩, s.loseL3Line_effect key l3⟩
      have hword := getD_set_spoiled s (i := i) hws hi
      rw [if_pos rfl] at hword
      exact ⟨_, tfind_tinsert_self key _ _, rfl, hword⟩

end Sys2Proof.Machine
end

section
/-! PROOF. Register writes that a closed page refuses (01 R16, R22), and what refutes the statement about register accesses. -/

namespace Sys2Proof.Machine

/-- While the device is in C4 no page of the window takes an access: the mesh has no power (01 R22). -/
theorem State.pageOpen_of_c4 {s : State} (h : s.sett.c4 = true) (k : Nat) (sec : Bool) : s.pageOpen k sec = false := by
  unfold State.pageOpen
  simp only [h, if_true]

theorem State.mmioWrite_closed {s : State} {w : Writer} {k : Nat} (h : s.pageOpen k w.secure = false) (d : Data) (mask : BitVec 16) :
    s.mmioWrite w k d mask = none := by
  simp [State.mmioWrite, h]

theorem State.accepts_self (s : State) : s.accepts s = true := by simp [State.accepts]

/-- A command with no effect has none either as one that may have to wait (10 R353, 14 R474). -/
theorem regCmd_of_unchanged {f : State → Out} {s : State} (h : f s = .next s) : regCmd f s = .next s := by
  unfold regCmd
  rw [h]
  cases hw : s.dmaWait <;> simp [hw, State.accepts_self]

/-- REGISTER_WRITE to a page that is closed to the writer changes nothing (01 R16, R17). -/
theorem exec_registerWrite_closed {s : State} {w : Writer} {pa : Addr} (v : W64) (h0 : s.aon.inReset = false) (h1 : w.tid ≠ 1024)
    (h2 : w.tid ≠ 1025) (hc : s.pageOpen (mmioOff pa.toNat) w.secure = false) : exec (.registerWrite w pa v) s = .next s := by
  show execRegisterWrite w pa v s = _
  unfold execRegisterWrite
  simp only [h0, Bool.false_eq_true, if_false, h1, h2]
  split
  · exact regCmd_of_unchanged (by simp [State.mmioWrite_closed hc])
  · rfl

/-- The device out of reset and in C4. -/
def inC4 : State :=
  { State.reset with sett := { State.reset.sett with c4 := true }, aon := { State.reset.aon with inReset := false } }

/-- The monitor, in a thread. -/
def monitorWriter : Writer := { secure := true, lvl := 3, tid := 0 }

/-- Refutes O44: it says of every state outside device reset that the monitor's write of EVR_SECMAP sets the register, and so in C4,
where every page is closed (01 R22) and the write changes nothing. Its clauses for EVR_BIND and EVR_DROP fail there in the same way. -/
theorem not_registerAccesses : ¬ Obligations.RegisterAccesses := by
  unfold Obligations.RegisterAccesses
  rintro ⟨-, -, hwrite, -⟩
  obtain ⟨-, hmap, -⟩ := hwrite inC4 monitorWriter 0 (~~~ inC4.reg (Key.evrSecmap 0)) rfl (by decide) (by decide)
  have hset := hmap (by decide)
  rw [exec_registerWrite_closed _ rfl (by decide) (by decide) (State.pageOpen_of_c4 rfl _ _), if_pos (by decide)] at hset
  have hreg := congrArg (fun s => s.reg (Key.evrSecmap 0)) (Host.Outcome.next.inj hset)
  simp [State.reg_setReg_self] at hreg

end Sys2Proof.Machine
end
